-- ==== Sys2Proof/Word.lean ====
section
/-! DEFINITION. The word types of the SHX3960 and the index types of its parts (00_scope.md R3 to R6). -/

namespace Sys2Proof

/-- One byte. -/
abbrev Byte := BitVec 8
/-- A 16-bit field. -/
abbrev W16 := BitVec 16
/-- A 32-bit word. -/
abbrev W32 := BitVec 32
/-- A 64-bit word. -/
abbrev W64 := BitVec 64
/-- A run of bytes, lowest offset first. -/
abbrev Bytes := List Byte

/-- A lane: 0 Ochre, 1 Madder, 2 Woad (R3). -/
abbrev LaneId := Fin 3
/-- A Green: 0 Green A, 1 Green B. -/
abbrev GreenId := Fin 2
/-- An axis channel nn of a lane, 00 to 11 (R4). -/
abbrev AxisId := Fin 12
/-- A phase: 0 A, 1 B, 2 C (R4). -/
abbrev Phase := Fin 3
/-- A switch of an axis channel: 2p is the high side of phase p, 2p + 1 its low side (the bit order of R217). -/
abbrev Switch := Fin 6
/-- A mailbox of a lane (R41). -/
abbrev MbId := Fin 8

/-- The device axis number 12 × lane + nn (R4). -/
def deviceAxis (l : LaneId) (nn : AxisId) : Nat := 12 * l.val + nn.val

/-- The lane of a device axis below 36 (R4). -/
def laneOfAxis (a : Nat) : Nat := a / 12

/-- The axis channel of a device axis (R4). -/
def channelOfAxis (a : Nat) : AxisId := ⟨a % 12, Nat.mod_lt _ (by decide)⟩

end Sys2Proof
end

