-- ==== Sys2Proof/Syntax.lean ====
section
/-! DEFINITION. The commands of the SHX3960: one constructor for each row of spec/opcode_table.json, with the
operands that reach the block from outside (a lane, an address, a level on a pin, a received frame). -/

namespace Sys2Proof

/-- A fault-containment region (R12 to R14). -/
inductive Region where
  | lane (l : LaneId)
  | green (g : GreenId)
  deriving DecidableEq, Repr

/-- A measured clock (R26): clock k of a lane is fault source 16 + k (0 crystal, 1 to 5 the PLLs, 6 the monitor
oscillator, R367); a Green has its own. -/
inductive ClockId where
  | laneClock (l : LaneId) (k : Fin 7)
  | greenClock (g : GreenId)
  deriving DecidableEq, Repr

/-- A carrier: phase p of axis channel nn (under CENTRE and EDGE the three phases share one, R234; under COT and
COFT each has its own, R235), or an auxiliary output (R247). -/
inductive CarrierId where
  | axis (nn : AxisId) (p : Phase)
  | aux (x : Fin 8)
  deriving DecidableEq, Repr

/-- A gate output of the gate-driver die (R252). -/
inductive GateId where
  | axis (nn : AxisId) (sw : Switch)
  | aux (x : Fin 8)
  deriving DecidableEq, Repr

/-- An execution unit of the axis engine (R155). -/
abbrev UnitId := Fin 4

/-- A change of a Green port's PHY link (R414). -/
inductive LinkChange where
  | down
  | training
  | up
  deriving DecidableEq, Repr

/-- The sync state of a lane's global time (R112). -/
inductive SyncState where
  | none
  | synced
  | holdover
  | lane
  deriving DecidableEq, Repr

/-- What a lane-link frame carries (R19, R223, R342, R347, R354, R359). -/
inductive LinkPayload where
  /-- an idle frame (R17) -/
  | idle
  /-- coordinator outputs of a triplex member (R223, R342) -/
  | coord (axis : Nat) (observing excluded : Bool) (vals : List Rat)
  /-- a checkpoint record of 192 bytes for the member that stands by (R347) -/
  | checkpoint (standby : Nat) (record : Bytes)
  /-- a health word (R359) -/
  | health (axis : Nat) (word : W32)
  /-- time resynchronisation: the sender's global time in ns (R30, R112) -/
  | time (globalNs : W64)
  /-- a group descriptor (R342) -/
  | descriptor (axis : Nat) (crc : W32) (role : Nat) (peer0 peer1 : Byte) (period : W32) (carrier : Byte)
  /-- TAKE, RELEASED and ABORT for the member named (R354) -/
  | take (axis : Nat)
  | released (axis : Nat)
  | abort (axis : Nat)
  /-- Gamar service traffic -/
  | service (data : Bytes)
  deriving DecidableEq, Repr

/-- A lane-link frame as it arrives: its class, its 16-bit sequence number, whether its CRC holds, its payload (R17). -/
structure LinkFrame where
  cls : Nat
  seq : W16
  crcOk : Bool
  body : LinkPayload
  deriving DecidableEq, Repr

/-- One SCHEDULE frame's content (R421, R471): the download CRC, the network section of the lane record (R406), one part of the record
and its place. The spec gives these contents no byte layout. -/
structure SchedChunk where
  dlCrc : W32
  cascade : Bool
  netSection : Bytes
  part : Nat
  parts : Nat
  record : Bytes
  deriving DecidableEq, Repr

/-- A CTT frame on the wire (R403): whether its FCS holds, whether it carries a VLAN tag, how many of its
RS-FEC blocks the receiving PHY could not correct (R415), its 28 header octets without that tag
(`CttFrame.kind` and the other fields are read from them), its payload with padding, and the content of a SCHEDULE frame, which has
no byte layout. -/
structure CttFrame where
  fcsOk : Bool
  vlan : Bool
  fec : Nat
  header : Bytes
  payload : Bytes
  sched : Option SchedChunk
  deriving DecidableEq, Repr

/-- A received SSI word (R303): the data bits after the first clock edge, first received bit most significant, their
number; whether the data line was high when the burst started, and how many ns after the burst's end it was high again, none where
it was not (R304 step 1). -/
structure SsiWord where
  bits : W64
  startHigh : Bool
  highAfter : Option Nat
  deriving DecidableEq, Repr

/-- A pulse of a SENT frame, from one falling edge to the next, in ns: how long the line is low, and the whole pulse (R305). -/
structure SentPulse where
  low : Nat
  len : Nat
  deriving DecidableEq, Repr

/-- A received SENT frame (R305): its sample time in local ns (the falling edge that starts its sync pulse), the length of its
sync pulse in ns and how long the line is low in it, and the pulses of its status nibble, its data nibbles and its CRC nibble. -/
structure SentFrame where
  sample : W64
  sync : Nat
  syncLow : Nat
  pulses : List SentPulse
  deriving DecidableEq, Repr

/-- One report at the collector (R363, R369): its source and the context the source holds stable; of a memory error of sources
6 and 7, the units whose nodes met the failing word (R163). -/
structure Report where
  src : Fin 128
  axis : Byte
  detail : Byte
  index : W16
  data : W64
  units : List UnitId
  deriving DecidableEq, Repr

/-- What one test rotation of an axis finds (R399): switches whose gate pulse test failed, of those the ones whose readback
was high, and comparator crossings (phase p positive: bit 2p, negative: bit 2p + 1) that did not become active. -/
structure StandbyResult where
  gateFail : BitVec 6
  gateHigh : BitVec 6
  cmpFail : BitVec 6
  deriving DecidableEq, Repr

/-- The type of a request that a core of the supervisor pair makes: a load, a store, or a load from a side-effecting location
such as an RC register or a buffer pop (R382, R386). -/
inductive ReqKind where
  | load
  | store
  | pop
  deriving DecidableEq, Repr

/-- A request at the lane interconnect: address, write data, byte enables, type (R382). -/
structure BusReq where
  addr : W64
  data : W64
  be : Byte
  kind : ReqKind
  deriving DecidableEq, Repr

/-- What a core puts out in one supervisor cycle (R382): its interconnect request, its register-file write, the program counter
of a retired instruction, an interrupt or exception acknowledge. -/
structure CoreOut where
  req : Option BusReq
  reg : Option (Byte × W64)
  pc : Option W64
  ack : Bool
  deriving DecidableEq, Repr

/-- The bits of a delayed word that are upset on its way to the shadow side (R380, R388): in its read data, interrupt requests,
stall, debug and release bits, its parity and its marker. -/
structure Upset where
  readData : W64
  irq : W32
  stall : Bool
  debug : Bool
  release : Bool
  parity : Bool
  marker : BitVec 2
  deriving DecidableEq, Repr

/-- One supervisor cycle of the pair (R379, R382): what arrives at its inputs (read data, interrupt requests, a debug request,
reset release; the stall signal is the commit buffer's own), what each core puts out in it, whether the interconnect takes the
request that the commit buffer releases (R385), and what fails in it (R388): the upset of the delayed word, the bits of each
signature register that are damaged, and whether the release signal carries an invalid code. -/
structure PairCycle where
  readData : W64
  irq : W32
  debug : Bool
  release : Bool
  primary : CoreOut
  shadow : CoreOut
  accept : Bool
  upset : Upset
  damagePrimary : W64
  damageShadow : W64
  releaseInvalid : Bool
  deriving DecidableEq, Repr

/-- The supervisor cycles in which stores fill the commit buffer of a lane's pair (R385). -/
structure StoreBurst where
  lane : LaneId
  cycles : List PairCycle
  deriving DecidableEq, Repr

/-- An error response to the accesses of a stream beat: to its read or to its write, and whether it tells of an uncorrectable
memory error (R489). -/
structure BeatError where
  write : Bool
  memory : Bool
  deriving DecidableEq, Repr

/-- A signature comparator: sound, or stuck at clean or at mismatch (R384, R388). -/
inductive Comparator where
  | sound
  | stuckClean
  | stuckMismatch
  deriving DecidableEq, Repr

/-- What the injection test meets (R387): what the two cores put out in each of the 64 cycles of the test routine, which is the same
in every window and issues no store, and the two comparators. -/
structure Injection where
  primary : List CoreOut
  shadow : List CoreOut
  main : Comparator
  dup : Comparator
  deriving DecidableEq, Repr

/-- What the tests of a rejoin find (R387, R400): the injection test, and the rotation of each axis channel tested. -/
structure RuntimeResult where
  injection : Injection
  rotations : List (AxisId × StandbyResult)
  deriving DecidableEq, Repr

/-- What a start sequence finds (R505): the collector's self-check (R376), the injection test (R387), and the measured
offset o_cal of input j of axis channel nn at place 6 × nn + j, of auxiliary input k at 72 + k, of x_VBUS at 84 (R286). -/
structure StartOutcome where
  selfCheckOk : Bool
  injection : Injection
  oCal : List Int
  deriving DecidableEq, Repr

/-- The commands of the block, in the order of spec/opcode_table.json. -/
inductive Instr where
  /-- HP_READ (R34) -/
  | hpRead (l : LaneId) (addr : BitVec 24) (len : Nat)
  /-- HP_WRITE (R36) -/
  | hpWrite (l : LaneId) (addr : BitVec 24) (data : Bytes)
  /-- BAD_INSTR (R35) -/
  | badInstr (l : LaneId) (code : Byte)
  /-- HP_REGISTER_WRITE (R37) -/
  | hpRegisterWrite (l : LaneId) (off : Nat) (val : W32)
  /-- RING (R41) -/
  | ring (l : LaneId) (mask : BitVec 4)
  /-- ACK (R41) -/
  | ack (l : LaneId) (mask : BitVec 4)
  /-- HP_IRQ_STATUS_CLEAR (R40) -/
  | hpIrqStatusClear (l : LaneId) (val : W32)
  /-- HP_ERR_CLEAR (R8) -/
  | hpErrClear (l : LaneId) (val : W32)
  /-- MB_ACCEPT (R44) -/
  | mbAccept (l : LaneId)
  /-- MB_DONE (R41) -/
  | mbDone (l : LaneId) (m : MbId)
  /-- GAMAR_RESTART (R47) -/
  | gamarRestart (l : LaneId)
  /-- SESSION_TIMEOUT (R81) -/
  | sessionTimeout (l : LaneId)
  /-- PASSWORD_LOCKOUT_END (R84) -/
  | passwordLockoutEnd (l : LaneId)
  /-- HELLO (R55) -/
  | hello (l : LaneId) (m : MbId)
  /-- BYE (R56) -/
  | bye (l : LaneId) (m : MbId)
  /-- PING (R56) -/
  | ping (l : LaneId) (m : MbId)
  /-- VERSIONS_GET (R70) -/
  | versionsGet (l : LaneId) (m : MbId)
  /-- ALMANAC_READ (R72) -/
  | almanacRead (l : LaneId) (m : MbId)
  /-- INFO_GET (R56) -/
  | infoGet (l : LaneId) (m : MbId)
  /-- SERIAL_GET (R56) -/
  | serialGet (l : LaneId) (m : MbId)
  /-- SESSION_OPEN (R81) -/
  | sessionOpen (l : LaneId) (m : MbId)
  /-- RECORD_READ (R79) -/
  | recordRead (l : LaneId) (m : MbId)
  /-- RECORD_WRITE (R543) -/
  | recordWrite (l : LaneId) (m : MbId)
  /-- COMMIT (R85) -/
  | commit (l : LaneId) (m : MbId)
  /-- COMMIT_DONE (R86) -/
  | commitDone (l : LaneId)
  /-- DISCARD (R81) -/
  | discard (l : LaneId) (m : MbId)
  /-- SESSION_CLOSE (R81) -/
  | sessionClose (l : LaneId) (m : MbId)
  /-- CONFIG_SEAL (R82) -/
  | configSeal (l : LaneId) (m : MbId)
  /-- PASSWORD_CHANGE (R83) -/
  | passwordChange (l : LaneId) (m : MbId)
  /-- WORKSHOP_ENTER (R65) -/
  | workshopEnter (l : LaneId) (m : MbId)
  /-- WORKSHOP_LEAVE (R95) -/
  | workshopLeave (l : LaneId) (m : MbId)
  /-- GRAPH_LOAD (R143) -/
  | graphLoad (l : LaneId) (m : MbId)
  /-- GRAPH_START (R146) -/
  | graphStart (l : LaneId) (m : MbId)
  /-- GRAPH_STOP (R146) -/
  | graphStop (l : LaneId) (m : MbId)
  /-- GRAPH_UNLOAD (R145) -/
  | graphUnload (l : LaneId) (m : MbId)
  /-- GRAPH_STATUS (R146) -/
  | graphStatus (l : LaneId) (m : MbId)
  /-- COEF_WRITE (R57) -/
  | coefWrite (l : LaneId) (m : MbId)
  /-- COEF_READ (R57) -/
  | coefRead (l : LaneId) (m : MbId) (during : Bool)
  /-- AXIS_STATUS (R61) -/
  | axisStatus (l : LaneId) (m : MbId)
  /-- AXIS_ENABLE (R267) -/
  | axisEnable (l : LaneId) (m : MbId)
  /-- AXIS_DISABLE (R59) -/
  | axisDisable (l : LaneId) (m : MbId)
  /-- AXIS_HANDOVER (R354) -/
  | axisHandover (l : LaneId) (m : MbId)
  /-- GRANARY_READ (R58) -/
  | granaryRead (l : LaneId) (m : MbId)
  /-- FAULT_READ (R369) -/
  | faultRead (l : LaneId) (m : MbId)
  /-- FAULT_CLEAR (R374) -/
  | faultClear (l : LaneId) (m : MbId)
  /-- HEALTH_READ (R359) -/
  | healthRead (l : LaneId) (m : MbId)
  /-- NOTICE_READ (R60) -/
  | noticeRead (l : LaneId) (m : MbId)
  /-- PORT_STATUS (R413) -/
  | portStatus (l : LaneId) (m : MbId)
  /-- CONN_STATUS (R456) -/
  | connStatus (l : LaneId) (m : MbId)
  /-- CONN_OPEN (R461) -/
  | connOpen (l : LaneId) (m : MbId)
  /-- CONN_CLOSE (R461) -/
  | connClose (l : LaneId) (m : MbId)
  /-- STREAM_START (R488) -/
  | streamStart (l : LaneId) (m : MbId)
  /-- STREAM_STOP (R488) -/
  | streamStop (l : LaneId) (m : MbId)
  /-- STREAM_STATUS (R487) -/
  | streamStatus (l : LaneId) (m : MbId)
  /-- STREAM_RESUME (R488) -/
  | streamResume (l : LaneId) (m : MbId)
  /-- SELFTEST_STATUS (R395) -/
  | selftestStatus (l : LaneId) (m : MbId)
  /-- SELFTEST_RUN (R398) -/
  | selftestRun (l : LaneId) (m : MbId)
  /-- SELFTEST_ABORT (R397) -/
  | selftestAbort (l : LaneId) (m : MbId)
  /-- TIME_GET (R112) -/
  | timeGet (l : LaneId) (m : MbId)
  /-- ANGLE_GET (R114) -/
  | angleGet (l : LaneId) (m : MbId)
  /-- LOG_READ (R89) -/
  | logRead (l : LaneId) (m : MbId)
  /-- LOG_STATUS (R56) -/
  | logStatus (l : LaneId) (m : MbId)
  /-- LOG_ARCHIVE (R90) -/
  | logArchive (l : LaneId) (m : MbId)
  /-- HANDOVER_LINE_CHANGE (R16) -/
  | handoverLineChange (l : LaneId) (k : LaneId) (alive : Bool)
  /-- HANDOVER_LINE_FAILED (R15) -/
  | handoverLineFailed (l : LaneId) (k : LaneId) (high : Bool)
  /-- LINK_UP (R30) -/
  | linkUp (l : LaneId) (k : LaneId)
  /-- LINK_FRAME_RECEIVE (R17) -/
  | linkFrameReceive (l : LaneId) (k : LaneId) (f : LinkFrame)
  /-- LINK_FRAME_SEND (R19) -/
  | linkFrameSend (l : LaneId) (k : LaneId)
  /-- LINK_IDLE_FRAME (R17) -/
  | linkIdleFrame (l : LaneId) (k : LaneId)
  /-- LINK_DOWN (R18) -/
  | linkDown (l : LaneId) (k : LaneId)
  /-- BRANCH_OVERLOAD (R12) -/
  | branchOverload (g : GreenId) (k : LaneId) (star : Bool)
  /-- HEARTBEAT_TOGGLE (R21) -/
  | heartbeatToggle (l : LaneId)
  /-- HEARTBEAT_LOSS (R21) -/
  | heartbeatLoss (l : LaneId)
  /-- CLOCK_FAULT (R26) -/
  | clockFault (c : ClockId)
  /-- GREEN_LOST (R92) -/
  | greenLost (l : LaneId) (g : GreenId)
  /-- HOLD_END (R104) -/
  | holdEnd (l : LaneId)
  /-- RAMP_ZERO_END (R105) -/
  | rampZeroEnd (l : LaneId) (nn : AxisId)
  /-- REJOIN_DELAY_EXPIRE (R108) -/
  | rejoinDelayExpire (l : LaneId)
  /-- RUNTIME_TEST_COMPLETE (R400) -/
  | runtimeTestComplete (l : LaneId) (r : RuntimeResult)
  /-- REJOIN_TIMEOUT (R110) -/
  | rejoinTimeout (l : LaneId)
  /-- TIMEKEEPER_TICK (R121) -/
  | timekeeperTick (l : LaneId)
  /-- RESORT_COMPLETE (R127) -/
  | resortComplete (l : LaneId) (d : Fin 16)
  /-- DL_REQUEST_APPLY (R128) -/
  | dlRequestApply (l : LaneId) (d : Fin 16)
  /-- CMP_REQUEST_APPLY (R226) -/
  | cmpRequestApply (l : LaneId) (u : Fin 24)
  /-- TRIGGER_EVENT (R148) -/
  | triggerEvent (l : LaneId)
  /-- DISPATCH_CYCLE (R153) -/
  | dispatchCycle (l : LaneId)
  /-- NODE_COMPLETE (R154) -/
  | nodeComplete (l : LaneId) (x : Fin 4)
  /-- MOV (R191) -/
  | mov (l : LaneId) (x : Fin 4)
  /-- ADD (R191) -/
  | add (l : LaneId) (x : Fin 4)
  /-- SUB (R191) -/
  | sub (l : LaneId) (x : Fin 4)
  /-- MUL (R191) -/
  | mul (l : LaneId) (x : Fin 4)
  /-- MAC (R191) -/
  | mac (l : LaneId) (x : Fin 4)
  /-- NEG (R191) -/
  | neg (l : LaneId) (x : Fin 4)
  /-- ABS (R191) -/
  | abs (l : LaneId) (x : Fin 4)
  /-- SHIFT (R191) -/
  | shift (l : LaneId) (x : Fin 4)
  /-- DIV (R191) -/
  | div (l : LaneId) (x : Fin 4)
  /-- RECIP (R191) -/
  | recip (l : LaneId) (x : Fin 4)
  /-- SQRT (R191) -/
  | sqrt (l : LaneId) (x : Fin 4)
  /-- DOT (R191) -/
  | dot (l : LaneId) (x : Fin 4)
  /-- SUM (R191) -/
  | sum (l : LaneId) (x : Fin 4)
  /-- PACK (R191) -/
  | pack (l : LaneId) (x : Fin 4)
  /-- SELECT (R191) -/
  | select (l : LaneId) (x : Fin 4)
  /-- CLARKE (R192) -/
  | clarke (l : LaneId) (x : Fin 4)
  /-- PARK (R192) -/
  | park (l : LaneId) (x : Fin 4)
  /-- IPARK (R192) -/
  | ipark (l : LaneId) (x : Fin 4)
  /-- SVM (R193) -/
  | svm (l : LaneId) (x : Fin 4)
  /-- PI (R195) -/
  | pi (l : LaneId) (x : Fin 4)
  /-- PID (R195) -/
  | pid (l : LaneId) (x : Fin 4)
  /-- LIMIT (R196) -/
  | limit (l : LaneId) (x : Fin 4)
  /-- RATE (R196) -/
  | rate (l : LaneId) (x : Fin 4)
  /-- FO (R197) -/
  | fo (l : LaneId) (x : Fin 4)
  /-- BIQUAD (R197) -/
  | biquad (l : LaneId) (x : Fin 4)
  /-- NOTCH (R197) -/
  | notch (l : LaneId) (x : Fin 4)
  /-- LUT (R199) -/
  | lut (l : LaneId) (x : Fin 4)
  /-- MIN (R198) -/
  | min (l : LaneId) (x : Fin 4)
  /-- MAX (R198) -/
  | max (l : LaneId) (x : Fin 4)
  /-- DEADZONE (R198) -/
  | deadzone (l : LaneId) (x : Fin 4)
  /-- SINCOS (R200) -/
  | sincos (l : LaneId) (x : Fin 4)
  /-- ATAN2 (R200) -/
  | atan2 (l : LaneId) (x : Fin 4)
  /-- MAG (R200) -/
  | mag (l : LaneId) (x : Fin 4)
  /-- PLL (R206) -/
  | pll (l : LaneId) (x : Fin 4)
  /-- BEMF (R207) -/
  | bemf (l : LaneId) (x : Fin 4)
  /-- HFI (R208) -/
  | hfi (l : LaneId) (x : Fin 4)
  /-- SATP (R209) -/
  | satp (l : LaneId) (x : Fin 4)
  /-- RD_ADC (R211) -/
  | rdAdc (l : LaneId) (x : Fin 4)
  /-- RD_POS (R212) -/
  | rdPos (l : LaneId) (x : Fin 4)
  /-- RD_PDU (R213) -/
  | rdPdu (l : LaneId) (x : Fin 4)
  /-- RD_TRIG (R214) -/
  | rdTrig (l : LaneId) (x : Fin 4)
  /-- RD_FLAGS (R214) -/
  | rdFlags (l : LaneId) (x : Fin 4)
  /-- WR_DUTY (R216) -/
  | wrDuty (l : LaneId) (x : Fin 4)
  /-- WR_MASK (R217) -/
  | wrMask (l : LaneId) (x : Fin 4)
  /-- COMMUT (R217) -/
  | commut (l : LaneId) (x : Fin 4)
  /-- WR_ANGLE (R218) -/
  | wrAngle (l : LaneId) (x : Fin 4)
  /-- WR_PDU (R219) -/
  | wrPdu (l : LaneId) (x : Fin 4)
  /-- EMIT (R220) -/
  | emit (l : LaneId) (x : Fin 4)
  /-- CKPT (R221) -/
  | ckpt (l : LaneId) (x : Fin 4)
  /-- COORD (R223) -/
  | coord (l : LaneId) (x : Fin 4)
  /-- FLAGCLR (R224) -/
  | flagclr (l : LaneId) (x : Fin 4)
  /-- DL_INSERT (R225) -/
  | dlInsert (l : LaneId) (x : Fin 4)
  /-- DL_CANCEL (R225) -/
  | dlCancel (l : LaneId) (x : Fin 4)
  /-- CMP_ARM (R226) -/
  | cmpArm (l : LaneId) (x : Fin 4)
  /-- CMP_DISARM (R226) -/
  | cmpDisarm (l : LaneId) (x : Fin 4)
  /-- CKPT_POST (R221) -/
  | ckptPost (l : LaneId) (k : Fin 64)
  /-- EMIT_RAISE (R220) -/
  | emitRaise (l : LaneId)
  /-- PERIOD_START (R234) -/
  | periodStart (l : LaneId) (c : CarrierId)
  /-- PERIOD_MID (R234) -/
  | periodMid (l : LaneId) (nn : AxisId)
  /-- COT_FIXED_END (R235) -/
  | cotFixedEnd (l : LaneId) (c : CarrierId)
  /-- COT_LIMIT_EXPIRE (R235) -/
  | cotLimitExpire (l : LaneId) (c : CarrierId)
  /-- THRESHOLD_CROSSING (R289) -/
  | thresholdCrossing (l : LaneId) (c : CarrierId)
  /-- DEAD_TIME_END (R237) -/
  | deadTimeEnd (l : LaneId) (nn : AxisId) (sw : Switch)
  /-- DELAY_LINE_CALIBRATION (R228) -/
  | delayLineCalibration (l : LaneId) (good : Bool)
  /-- SHOOT_THROUGH (R241) -/
  | shootThrough (l : LaneId) (nn : AxisId) (p : Phase)
  /-- TRIP_INPUT_CHANGE (R242) -/
  | tripInputChange (l : LaneId) (k : Fin 4) (active : Bool)
  /-- AUX_PULL_END (R247) -/
  | auxPullEnd (l : LaneId) (x : Fin 8)
  /-- DEBUG_HALT (R248) -/
  | debugHalt (l : LaneId)
  /-- DEBUG_RESUME (R248) -/
  | debugResume (l : LaneId)
  /-- GATE_COMMAND (R257) -/
  | gateCommand (l : LaneId) (t : GateId) (on : Bool)
  /-- READBACK_MISMATCH (R258) -/
  | readbackMismatch (l : LaneId) (nn : AxisId) (sw : Switch) (high : Bool)
  /-- BLANKING_END (R261) -/
  | blankingEnd (l : LaneId) (nn : AxisId) (sw : Switch)
  /-- SHORT_DETECTED (R260) -/
  | shortDetected (l : LaneId) (nn : AxisId) (sw : Switch) (cell : Bool)
  /-- SENSE_CELL_FAST_TRIP (R262) -/
  | senseCellFastTrip (l : LaneId) (nn : AxisId) (sw : Switch)
  /-- TLTO_PLATEAU_END (R263) -/
  | tltoPlateauEnd (l : LaneId) (nn : AxisId) (sw : Switch)
  /-- SOFT_TURN_OFF_END (R263) -/
  | softTurnOffEnd (l : LaneId) (nn : AxisId) (sw : Switch)
  /-- VGD_UVLO (R265) -/
  | vgdUvlo (l : LaneId) (g : Fin 4)
  /-- VGD_VALID (R265) -/
  | vgdValid (l : LaneId) (g : Fin 4)
  /-- FLOAT_UVLO (R266) -/
  | floatUvlo (l : LaneId) (nn : AxisId) (p : Phase) (low : Bool)
  /-- GDEN_LOW (R272) -/
  | gdenLow (l : LaneId)
  /-- GDEN_RISE (R273) -/
  | gdenRise (l : LaneId) (longLow : Bool)
  /-- ADC_CONVERSION_COMPLETE (R283) -/
  | adcConversionComplete (l : LaneId) (a : Fin 6) (raw : Int)
  /-- BACKGROUND_SLOT_FORCE (R285) -/
  | backgroundSlotForce (l : LaneId) (a : Fin 6)
  /-- OVERCURRENT_COMPARATOR (R288) -/
  | overcurrentComparator (l : LaneId) (nn : AxisId) (p : Phase) (active : Bool)
  /-- BUS_OVERVOLTAGE (R290) -/
  | busOvervoltage (l : LaneId) (active : Bool)
  /-- ENCODER_TRANSITION (R299) -/
  | encoderTransition (l : LaneId) (nn : AxisId) (a : Bool) (b : Bool) (z : Bool)
  /-- HALL_CHANGE (R302) -/
  | hallChange (l : LaneId) (nn : AxisId) (h : BitVec 3)
  /-- SSI_BURST_START (R303) -/
  | ssiBurstStart (l : LaneId) (nn : AxisId)
  /-- SSI_WORD_RECEIVE (R304) -/
  | ssiWordReceive (l : LaneId) (nn : AxisId) (w : SsiWord)
  /-- SENT_FRAME_RECEIVE (R305) -/
  | sentFrameReceive (l : LaneId) (nn : AxisId) (w : SentFrame)
  /-- FEEDBACK_TIMEOUT (R309) -/
  | feedbackTimeout (l : LaneId) (nn : AxisId)
  /-- SENSOR_SUPPLY_FAULT (R296) -/
  | sensorSupplyFault (l : LaneId) (nn : AxisId)
  /-- SENSOR_SUPPLY_SETTLE (R296) -/
  | sensorSupplySettle (l : LaneId) (nn : AxisId)
  /-- SPEED_STOP (R311) -/
  | speedStop (l : LaneId) (nn : AxisId)
  /-- EMULATION_STEP (R316) -/
  | emulationStep (l : LaneId) (e : Fin 2)
  /-- LOCK_WRITE_TIMEOUT (R326) -/
  | lockWriteTimeout (l : LaneId) (nn : AxisId)
  /-- HFI_ACQ_TIMEOUT (R326) -/
  | hfiAcqTimeout (l : LaneId) (nn : AxisId)
  /-- POLARITY_END (R328) -/
  | polarityEnd (l : LaneId) (nn : AxisId)
  /-- CATCH_WINDOW_END (R329) -/
  | catchWindowEnd (l : LaneId) (nn : AxisId)
  /-- COAST_END (R330) -/
  | coastEnd (l : LaneId) (nn : AxisId)
  /-- CATCH_COUNT_CLEAR (R331) -/
  | catchCountClear (l : LaneId) (nn : AxisId)
  /-- ANNOUNCE_REPEAT (R333) -/
  | announceRepeat (l : LaneId) (nn : AxisId)
  /-- GRANARY_COMMIT_DONE (R349) -/
  | granaryCommitDone (l : LaneId) (nn : AxisId)
  /-- TAKE_SEND (R354) -/
  | takeSend (l : LaneId) (nn : AxisId)
  /-- TAKE_WAIT_TIMEOUT (R354) -/
  | takeWaitTimeout (l : LaneId) (nn : AxisId)
  /-- STANDBY_TEST_ROTATION (R360) -/
  | standbyTestRotation (l : LaneId) (nn : AxisId) (r : StandbyResult)
  /-- FAULT_REPORT (R370) -/
  | faultReport (l : LaneId) (rs : List Report)
  /-- FAULT_LINE_INVALID (R364) -/
  | faultLineInvalid (l : LaneId) (src : Fin 128) (code : Bool)
  /-- COMPLEMENT_MISMATCH (R372) -/
  | complementMismatch (l : LaneId) (off : Nat)
  /-- SIGNATURE_COMPARE (R384) -/
  | signatureCompare (l : LaneId) (cycles : List PairCycle) (main : Comparator) (dup : Comparator)
  /-- DELAY_FAULT (R380) -/
  | delayFault (l : LaneId)
  /-- COMMIT_BUFFER_FULL (R385) -/
  | commitBufferFull (b : StoreBurst)
  /-- SELFTEST_SLICE_START (R393) -/
  | selftestSliceStart (l : LaneId)
  /-- SELFTEST_SLICE_END (R391) -/
  | selftestSliceEnd (l : LaneId) (sig : W64)
  /-- SLICE_TIMEOUT (R392) -/
  | sliceTimeout (l : LaneId)
  /-- SEAL_WRITE (R394) -/
  | sealWrite (l : LaneId)
  /-- GREEN_FRAME_INGRESS (R409) -/
  | greenFrameIngress (g : GreenId) (p : Fin 19) (f : CttFrame) (t : Int)
  /-- SLOT_END_TRUNCATE (R410) -/
  | slotEndTruncate (g : GreenId) (p : Fin 19)
  /-- GREEN_CYCLE_END (R411) -/
  | greenCycleEnd (g : GreenId)
  /-- GREEN_STATUS_SEND (R413) -/
  | greenStatusSend (g : GreenId)
  /-- PORT_LINK_CHANGE (R414) -/
  | portLinkChange (g : GreenId) (p : Fin 16) (c : LinkChange)
  /-- GREEN_BLOCK_END (R440) -/
  | greenBlockEnd (g : GreenId)
  /-- GREEN_SYNC_LOSS (R441) -/
  | greenSyncLoss (g : GreenId)
  /-- LANE_FRAME_RECEIVE (R416) -/
  | laneFrameReceive (l : LaneId) (g : GreenId) (f : CttFrame) (t : Int)
  /-- SLOT_TRANSMIT (R407) -/
  | slotTransmit (l : LaneId) (g : GreenId) (slot : Fin 1024)
  /-- PDU_PACK (R452) -/
  | pduPack (l : LaneId) (slot : Fin 1024)
  /-- SCHEDULE_DOWNLOAD_SEND (R421) -/
  | scheduleDownloadSend (l : LaneId) (g : GreenId)
  /-- SERVICE_CONN_LOST (R419) -/
  | serviceConnLost (l : LaneId) (c : Fin 4)
  /-- CLUSTER_CYCLE_START (R434) -/
  | clusterCycleStart (l : LaneId)
  /-- LISTEN_TIMEOUT (R438) -/
  | listenTimeout (l : LaneId)
  /-- COLDSTART_MASTER (R438) -/
  | coldstartMaster (l : LaneId)
  /-- INTEGRATION_TIMEOUT (R443) -/
  | integrationTimeout (l : LaneId)
  /-- PASSIVE_TIMEOUT (R438) -/
  | passiveTimeout (l : LaneId)
  /-- MASTER_SUCCESSION (R435) -/
  | masterSuccession (l : LaneId)
  /-- CONN_WATCHDOG_EXPIRE (R457) -/
  | connWatchdogExpire (l : LaneId) (e : Fin 512)
  /-- PRODUCER_STALE (R452) -/
  | producerStale (l : LaneId) (e : Fin 512)
  /-- INPUT_SAMPLE (R462) -/
  | inputSample (l : LaneId) (c1 : BitVec 16) (c2 : BitVec 16)
  /-- TEST_PULSE_START (R462) -/
  | testPulseStart (l : LaneId) (k : Fin 4)
  /-- TEST_PULSE_CHECK (R463) -/
  | testPulseCheck (l : LaneId) (k : Fin 4) (c1 : BitVec 16) (c2 : BitVec 16)
  /-- TEST_PULSE_END (R462) -/
  | testPulseEnd (l : LaneId) (k : Fin 4)
  /-- DISCREPANCY_TIMEOUT (R465) -/
  | discrepancyTimeout (l : LaneId) (k : Fin 16)
  /-- PAIR_RESTART_END (R467) -/
  | pairRestartEnd (l : LaneId) (k : Fin 16)
  /-- TRUNK_LOST (R476) -/
  | trunkLost (l : LaneId) (j : Fin 4)
  /-- TRUNK_HOLD_END (R476) -/
  | trunkHoldEnd (l : LaneId) (j : Fin 4)
  /-- STREAM_BEAT (R482) -/
  | streamBeat (l : LaneId) (c : Fin 16) (err : Option BeatError)
  /-- STREAM_TRIGGER (R486) -/
  | streamTrigger (l : LaneId) (c : Fin 16) (ev : Byte)
  /-- TLB_WALK_COMPLETE (R478) -/
  | tlbWalkComplete (l : LaneId) (c : Fin 16)
  /-- PD_CLASSIFICATION (R495) -/
  | pdClassification (g : GreenId) (p : Fin 16)
  /-- HOME_PORT_LOSS (R496) -/
  | homePortLoss (l : LaneId) (g : GreenId)
  /-- SUPPLY_VALID (R497) -/
  | supplyValid (r : Region)
  /-- SUPPLY_LOST (R497) -/
  | supplyLost (r : Region)
  /-- RAIL_FAULT (R497) -/
  | railFault (l : LaneId)
  /-- CLOCK_START_TIMEOUT (R500) -/
  | clockStartTimeout (l : LaneId) (src : Fin 6)
  /-- RST_N_LOW (R502) -/
  | rstNLow (l : LaneId)
  /-- RST_N_RELEASE (R502) -/
  | rstNRelease (l : LaneId)
  /-- RUN_HIGH (R509) -/
  | runHigh (l : LaneId)
  /-- RUN_LOW (R506) -/
  | runLow (l : LaneId)
  /-- LANE_START (R505) -/
  | laneStart (l : LaneId) (o : StartOutcome)
  /-- TEMPERATURE_SAMPLE (R541) -/
  | temperatureSample (l : LaneId) (logic : Int) (gate : Int)
  /-- GREEN_TEST_PIN (R523) -/
  | greenTestPin (g : GreenId) (high : Bool)
  /-- BYPASS (R526) -/
  | bypass (l : LaneId)
  /-- SAMPLE_PRELOAD (R526) -/
  | samplePreload (l : LaneId)
  /-- EXTEST (R527) -/
  | extest (l : LaneId)
  /-- IDCODE (R526) -/
  | idcode (l : LaneId)
  /-- TAP_RESET (R527) -/
  | tapReset (l : LaneId)
  /-- FAULT_LINE_HEALTHY (R363) -/
  | faultLineHealthy (l : LaneId) (src : Fin 128)
  /-- GREEN_OVER_TEMPERATURE (R541) -/
  | greenOverTemperature (g : GreenId)
  /-- GREEN_COOLED (R541) -/
  | greenCooled (g : GreenId)
  deriving DecidableEq, Repr

end Sys2Proof
end

