-- ==== Sys2Proof/WellFormed.lean ====
section
/-! DEFINITION. Well-formed commands: operands that the rules of spec/ allow to reach the block. A meaning is total and
answers for every operand; the statements that need a well-formed command say so. -/

namespace Sys2Proof

/-- A fault source that exists (R367: the rows that are not Reserved). -/
def sourceExists (s : Nat) : Bool :=
  s ≤ 12 || (16 ≤ s && s ≤ 26) || (32 ≤ s && s ≤ 93) || (96 ≤ s && s ≤ 104) || (112 ≤ s && s ≤ 121)

/-- The class that a link payload travels in (R19, R342, R354, R359; idle frames: notes/assumptions/19.md). -/
def linkClass : LinkPayload → Nat
  | .idle => 3
  | .coord .. => 0
  | .checkpoint .. => 1
  | .health .. => 2
  | .time .. => 2
  | .descriptor .. => 2
  | .take .. => 2
  | .released .. => 2
  | .abort .. => 2
  | .service .. => 3

/-- Octets of a payload, padded to the 8 that a frame carries at least (R17). The spec gives the contents no layout; one octet
for an axis, a role or flags, the fields one after another (notes/assumptions/68.md). -/
def linkLen (p : LinkPayload) : Nat :=
  max 8 (match p with
    | .idle => 0
    | .coord _ _ _ vals => 2 + 4 * vals.length
    | .checkpoint _ record => 1 + record.length
    | .health .. => 5
    | .time .. => 8
    | .descriptor .. => 13
    | .take .. => 1
    | .released .. => 1
    | .abort .. => 1
    | .service data => data.length)

/-- A checkpoint record is 192 bytes (R347); every payload has at most 256 octets (R17). -/
def linkBodyOk (p : LinkPayload) : Bool :=
  linkLen p ≤ 256 && match p with
    | .checkpoint _ record => record.length = 192
    | _ => true

/-- A frame of a lane link (R17, R19). -/
def linkFrameOk (f : LinkFrame) : Bool := f.cls = linkClass f.body && linkBodyOk f.body

/-- A CTT frame on the wire: a header of 28 octets, at most 1,482 bytes of payload with padding, and a SCHEDULE content exactly for
kind 5, octet 0x10 of the header (R403, R404, R421). -/
def cttFrameOk (f : CttFrame) : Bool :=
  f.header.length = 28 && f.payload.length ≤ 1482 && (f.sched.isSome == decide (f.header.getD 0x10 0 = 5))

/-- A SENT frame has a sync pulse, a status nibble, 1 to 6 data nibbles and a CRC nibble, no pulse low for longer than it lasts
(R305). -/
def sentOk (w : SentFrame) : Bool :=
  0 < w.sync && w.syncLow ≤ w.sync && 3 ≤ w.pulses.length && w.pulses.length ≤ 8 && w.pulses.all fun p => p.low ≤ p.len

/-- A raw code of an ADC (R281, R286). -/
def rawOk (raw : Int) : Bool := decide (-8192 ≤ raw) && decide (raw ≤ 8191)

/-- What a rotation finds: only a failed gate test has a readback to name (R399). -/
def rotationOk (r : StandbyResult) : Bool := r.gateHigh &&& ~~~ r.gateFail = 0

/-- The outputs of a test routine: at most the 64 cycles of a window, and no store (R387). -/
def routineOk (os : List CoreOut) : Bool :=
  os.length ≤ 64 && os.all fun o => match o.req with | some r => r.kind ≠ .store | none => true

/-- What an injection test meets (R387). -/
def injectionWf (i : Injection) : Bool := routineOk i.primary && routineOk i.shadow

/-- Reports of one monitor cycle: at least one, each source existing and once (R363, R370). -/
def reportsOk (rs : List Report) : Bool :=
  !rs.isEmpty && rs.all (fun r => sourceExists r.src.val) && decide (rs.map fun r => r.src).Nodup

/-- Well-formed commands. -/
def wellFormed : Instr → Bool
  | .hpRead _ _ len => 1 ≤ len
  | .hpWrite _ _ data => !data.isEmpty
  | .badInstr _ code => code ≠ 0x3B && code ≠ 0x32
  | .hpRegisterWrite _ off _ => off % 4 = 0 && off < 0x24
  | .handoverLineChange l k _ => l ≠ k
  | .handoverLineFailed l k _ => l ≠ k
  | .linkUp l k => l ≠ k
  | .linkFrameReceive l k f => l ≠ k && linkFrameOk f
  | .linkFrameSend l k => l ≠ k
  | .linkIdleFrame l k => l ≠ k
  | .linkDown l k => l ≠ k
  | .runtimeTestComplete _ r => injectionWf r.injection && r.rotations.all (fun x => rotationOk x.2) && decide (r.rotations.map fun x => x.1).Nodup
  | .adcConversionComplete _ _ raw => rawOk raw
  | .sentFrameReceive _ _ w => sentOk w
  | .standbyTestRotation _ _ r => rotationOk r
  | .faultReport _ rs => reportsOk rs
  | .faultLineInvalid _ src _ => sourceExists src.val
  | .complementMismatch _ off => off % 4 = 0 && off < 0x4C
  | .greenFrameIngress _ _ f _ => cttFrameOk f
  | .laneFrameReceive _ _ f _ => cttFrameOk f
  | .laneStart _ o => injectionWf o.injection && o.oCal.length = 85
  | .faultLineHealthy _ src => sourceExists src.val
  | _ => true

end Sys2Proof
end

