-- ==== Sys2Proof/Config.lean ====
section
/-! DEFINITION. What an implementation fixes, and the free values: constants with no body, so that no proof can see a
value of theirs (notes/assumptions/5.md). -/

namespace Sys2Proof.Config

/-- The source of values the spec leaves open. Applied to the model's own counter `Lane.free` of that lane, it gives a fresh
number for every use; nothing constrains it. -/
opaque freeNat : LaneId → Nat → Nat

/-- The 16-byte unique identifier of a lane (R56 SERIAL_GET; R403). -/
opaque uniqueId : LaneId → Nat → Byte

/-- The factory gain trim g of R286 for input j (currents A, B, C, then voltages A, B, C) of an axis channel, held in
fuses, in units of 2^-16. -/
opaque gainTrim : LaneId → AxisId → Nat → Nat

/-- Factory gain trim of auxiliary input k (0 to 11) or of x_VBUS (12) of a lane, held in fuses, at 1/65,536 (R286); held
within 0.95 to 1.05 where it is used. -/
opaque auxGainTrim : LaneId → Nat → Nat

/-- The random source that salts are drawn from (R83): byte i of draw n. -/
opaque random : Nat → Nat → Byte

/-- The 64-bit pattern signature that fuses hold for a self-test slice (R391). -/
opaque sliceSignature : LaneId → Nat → W64

/-- Byte i of the 16-byte notice of the kind and argument given: R60 names the notices and gives them no layout. -/
opaque noticeByte : Nat → Nat → Nat → Byte

/-- The page of a stream virtual address, the unit that one TLB entry covers (R478, R485 name pages and give no size). -/
opaque tlbPage : Nat → Nat

/-- The TLB entry replaced when all 256 are in use (R478 gives no rule). -/
opaque tlbVictim : Nat → Nat

/-- The over-temperature and warning thresholds of a die in tenths of a degree, inside the bounds of R541:
(warning, over-temperature) for the logic die (0) and the gate-driver die (1) of a lane. -/
opaque warnLevel : LaneId → Nat → Int
opaque overLevel : LaneId → Nat → Int

/-- The rated current in mA of auxiliary output k (R68): a ROM value that the spec does not give. -/
opaque auxRated : Nat → Nat

/-- The version field of an Almanac entry of a block type (R67): a ROM value that the spec does not give, except for
interface entries (R70). -/
opaque blockVersion : Nat → Nat

/-- The latency from the start of a frame at a Green's ingress port to that at an egress port, which R423 only bounds: use n of
Green g takes 400 + forwardNs g n % 121 ns. -/
opaque forwardNs : GreenId → Nat → Nat

/-- The octets of a lane's network address above the last, drawn from its unique identifier in a way that R403 does not give. -/
opaque laneAddress : LaneId → Nat

/-- The octets of a Green's network address (R403 names no source for it). -/
opaque greenAddress : GreenId → Nat

/-- Gamar 3.2 (R53). -/
def gamarVersion : W16 := 0x0302

end Sys2Proof.Config
end

