-- ==== Sys2Proof/Machine/State.lean ====
section
/-! DEFINITION. The state of the SHX3960 as plain data: three lanes, two Greens, the home ports, the queue of waiting
commands. Each field's docstring names the rule that gives it and its value at reset (DC n: the spec gives none, the
choice of notes/assumptions/n.md). -/

namespace Sys2Proof.Machine

/-- Why the machine would stop. No rule of the spec stops the block: every condition it calls a fault is a report to
the collector and a next state. -/
inductive Fault where
  deriving DecidableEq, Repr

/-- Why a command has no meaning. -/
inductive Refusal where
  /-- Raised by `exec` alone, for a command that has no meaning yet; safe, since nothing can be proved of its effect. -/
  | notModelled (mnemonic : String)
  deriving DecidableEq, Repr

/-- A memory: address and byte pairs, addresses strictly rising, no entry equal to what an unlisted address reads as
(`Mem.dflt`, 0; notes/assumptions/6.md). -/
abbrev Mem := List Host.Cell

/-! ### Names the spec gives to values -/

/-- Lane states (R39). -/
inductive LState where
  | off | init | active | safe | test
  deriving DecidableEq, Repr

/-- Device modes (R39). -/
inductive Mode where
  | off | start | run | degraded | shutdown | workshop
  deriving DecidableEq, Repr

/-- What a receiver reads on a handover line (R15): 10, 01, 00 or 11. -/
inductive Rail where
  | r10 | r01 | r00 | r11
  deriving DecidableEq, Repr

/-- Mailbox states (R41). -/
inductive MbState where
  | idle | posted | busy | done
  deriving DecidableEq, Repr

/-- States of the configuration session (R81). -/
inductive SessState where
  | closed | opened | staged
  deriving DecidableEq, Repr

/-- Slot states (R146). -/
inductive GState where
  | empty | stopped | running | stopping | halted | excluded
  deriving DecidableEq, Repr

/-- Endpoint states (R456). -/
inductive EpState where
  | closed | waiting | running | failed | held | stale
  deriving DecidableEq, Repr

/-- Stream channel states (R487). -/
inductive StState where
  | stopped | waiting | running | stopping | halted | excluded
  deriving DecidableEq, Repr

/-- Stream causes (R487). -/
inductive StCause where
  | none | complete | stopped | busError | notMapped | notPermitted | aborted
  deriving DecidableEq, Repr

/-- Axis roles (R341). -/
inductive Role where
  | unused | simplex | triplex | duplexActive | duplexStandby
  deriving DecidableEq, Repr

/-- The pattern the gate-driver die holds on an axis in its safe state (R268, AUTO already decided, R269). -/
inductive Pattern where
  | opened | shortLow | shortHigh
  deriving DecidableEq, Repr

/-- Drive states of the sensorless supervisor (R325). -/
inductive Drive where
  | idle | hfi | polarity | catching | observer | coast | failed
  deriving DecidableEq, Repr

/-- Causes of a takeover (R352). -/
inductive TakeCause where
  | loss | mismatch | planned
  deriving DecidableEq, Repr

/-- How far a PLANNED handover of an active member has come (R354): none; armed (the next CKPT run sets FINAL);
posted, with the period starts seen since; dropped to standby. -/
inductive Planned where
  | none | armed | posted (starts : Nat) | dropped
  deriving DecidableEq, Repr

/-- Seal states (R395). -/
inductive Seal where
  | none | pass | partialRun | failed
  deriving DecidableEq, Repr

/-- Integration states (R437). -/
inductive Integ where
  | listen | coldstart | integrating | active | passive
  deriving DecidableEq, Repr

/-- A lane's view of a Green (R92). -/
inductive GreenView where
  | absent | present | lost
  deriving DecidableEq, Repr

/-- The hold of R104: none running, running, or ended with the profiles started. -/
inductive Hold where
  | none | holding | ended
  deriving DecidableEq, Repr

/-- Port states of a Green (R414). -/
inductive PortState where
  | down | training | opened | closed | unknown
  deriving DecidableEq, Repr

/-- What drives a gate (R257, R263): off, on, a soft turn-off, or the plateau of a two-level turn-off. -/
inductive GateDrive where
  | off | on | soft | plateau
  deriving DecidableEq, Repr

/-- A sensor supply (R296). -/
inductive SupplyState where
  | off | on | tripped
  deriving DecidableEq, Repr

/-- Kinds of a self-test run (R396 to R398). -/
inductive RunKind where
  | startup | shutdown | service
  deriving DecidableEq, Repr

/-- Instructions of the test access port (R526). -/
inductive TapIr where
  | bypass | sample | extest | idcode
  deriving DecidableEq, Repr

/-- Notices (R60). -/
inductive Notice where
  | fault (src : Nat) | laneState (v : Nat) | deviceMode (v : Nat) | takeover (axis : Nat) | stream (ch : Nat)
  deriving DecidableEq, Repr

/-! ### Host port, mailboxes, session, flash -/

/-- One mailbox (R41 to R51). -/
structure Mailbox where
  /-- life-cycle state, 2 bits (02 R41; reset IDLE) -/
  st : MbState
  /-- in-buffer, 1 KiB (02 R37; reset: DC 6, zeros) -/
  inBuf : Mem
  /-- out-buffer, 1 KiB (02 R37, R46; reset: DC 6, zeros) -/
  outBuf : Mem
  /-- negotiated version, major[15:8] minor[7:0], or none (02 R54; reset none) -/
  nego : Option W16
  /-- last completed request: its sequence and response (02 R51; reset none) -/
  stored : Option (W16 × Bytes)
  /-- opcode of the accepted request that awaits execution (02 R44, R50; reset none) -/
  cmd : Option W16
  /-- response message that awaits MB_DONE (02 R41; reset none) -/
  resp : Option Bytes
  /-- queued notices, at most 16, oldest first (02 R60; reset none) -/
  notices : List Notice
  /-- a notice was dropped since the last NOTICE_READ (02 R60; reset false) -/
  dropped : Bool
  /-- the service connection was lost while the command ran: its response is discarded (02 R48; reset false) -/
  discard : Bool
  deriving DecidableEq, Repr

/-- A COEF_WRITE in progress (R57): its mailbox, slot and first word, the words already written and those still to write. -/
structure CoefJob where
  mb : MbId
  slot : Fin 64
  first : Nat
  done : Nat
  rest : List W32
  deriving DecidableEq, Repr

/-- The host port and the mailboxes of a lane (R38 to R48). -/
structure HostPort where
  /-- HP_IRQ_STATUS, 32 bits (02 R38; reset 0) -/
  irqStatus : W32
  /-- HP_IRQ_EN, 32 bits (02 R38; reset 0) -/
  irqEn : W32
  /-- HP_ERR, 32 bits (02 R38; reset 0) -/
  err : W32
  /-- HP_TRACE_WP, 20 bits (02 R38, 23 R484; reset 0) -/
  traceWp : BitVec 20
  /-- HP_SCRATCH, 32 bits (02 R38; reset 0) -/
  scratch : W32
  /-- HP_STATUS.RESTARTS, 16 bits (02 R38, R47; reset 0) -/
  restarts : W16
  /-- HP_STATUS.GAMAR_READY (02 R38, R73; reset 0) -/
  ready : Bool
  /-- the bytes the last READ drove on x_HIO (02 R34; reset none) -/
  dataOut : Bytes
  /-- the mailboxes: 0 to 3 host, 4 to 7 network (02 R41) -/
  mbs : Vector Mailbox 8
  /-- posted mailboxes in order of posting (02 R44; reset none) -/
  order : List MbId
  /-- COEF_WRITEs that Gamar has not finished (02 R57; reset none) -/
  coefJobs : List CoefJob
  /-- notices that wait for Gamar, oldest first (16 R378; reset none) -/
  waiting : List Notice
  deriving DecidableEq, Repr

/-- A staged item (R81): a part of a record, a graph image (received so far), or the removal of an image. -/
inductive Staged where
  | part (rtype inst idx parts : Nat) (data : Bytes)
  | image (slot total : Nat) (data : Bytes)
  | unload (slot : Nat)
  deriving DecidableEq, Repr

/-- The configuration session of a lane (R81). -/
structure Session where
  /-- CLOSED, OPEN or STAGED (03 R81; reset CLOSED) -/
  st : SessState
  /-- the mailbox that holds it (03 R81; reset none) -/
  holder : Option MbId
  /-- the staged set in order of staging (03 R81; reset empty) -/
  items : List Staged
  /-- a COMMIT has passed its checks and is being written: the mailbox that asked (03 R86; reset none) -/
  job : Option MbId
  /-- the handle of the session that is open, 16 bits (02 R56, a free value; reset 0, DC 8) -/
  handle : W16
  deriving DecidableEq, Repr

/-- A committed record: type, instance and parts in order (R74 to R76). -/
structure Rec where
  rtype : Nat
  inst : Nat
  parts : List Bytes
  deriving DecidableEq, Repr

/-- A lane's flash (R23): what lane reset and power loss keep. -/
structure Flash where
  /-- committed records (03 R74; factory: none) -/
  recs : List Rec
  /-- committed graph images by slot (06 R144; factory: none) -/
  images : List (Nat × Bytes)
  /-- Parish Book entries of 64 bytes, oldest first (03 R87; factory: none) -/
  book : List Bytes
  /-- sequence of the next Parish Book entry (03 R87; factory: 1, 03 R90's example) -/
  nextSeq : W32
  /-- a password has been set (03 R82; factory: false, the SEALED fuse of 02 R38) -/
  sealed : Bool
  /-- count n of consecutive wrong passwords (03 R84; factory: 0) -/
  wrong : Nat
  /-- the lockout runs (03 R84; factory: false) -/
  locked : Bool
  /-- the seal record, 32 bytes, or none (18 R394; factory: none) -/
  sealRec : Option Bytes
  /-- lane power-up count, 32 bits (24 R503; reset: 1, one power-on reset has passed) -/
  powerCycles : W32
  deriving DecidableEq, Repr

/-! ### Time, angle, delay lists, compare units -/

/-- A lane's time (R111 to R113, R434). -/
structure Timebase where
  /-- local time in ns, 64 bits (05 R111; reset 0) -/
  loc : W64
  /-- global time in ns, 64 bits (05 R112; reset 0, equal to local time under NONE) -/
  glob : W64
  /-- the part of a nanosecond that global time has run on (05 R112; reset 0, DC 9) -/
  frac : Rat
  /-- sync state (05 R112; reset NONE) -/
  sync : SyncState
  /-- rate correction, ns per ns (20 R434; reset 0) -/
  rate : Rat
  /-- offset still to be slewed in the present cycle, ns per ns (20 R434; reset 0) -/
  slew : Rat
  deriving DecidableEq, Repr

/-- The angle accumulators of an axis (R114 to R117). -/
structure Acc where
  /-- mechanical position in revolutions; the register holds it at 2^-32 revolution, modulo 2^32 revolutions
  (05 R114; reset 0, 09 R218) -/
  pos : Rat
  /-- what the electrical accumulator holds beyond R115's product, in 2^-32 turn (09 R218; reset 0) -/
  elecFix : Int
  /-- valid (05 R117; reset INVALID) -/
  valid : Bool
  /-- speed estimate of the angle source in mechanical rev/s (05 R116; reset 0) -/
  speed : Rat
  /-- position last applied by the source, in revolutions (13 R313; reset 0) -/
  base : Rat
  /-- width of one count in revolutions, the bound of R313; 0 none (13 R313; reset 0) -/
  bound : Rat
  /-- electrical angle and speed of the last WR_ANGLE, in turns and rev/s (09 R218; reset none) -/
  written : Option (Rat × Rat)
  deriving DecidableEq, Repr

/-- An event (R134, R135): number, context, LATE and the local time of its PWM cycle. -/
structure Event where
  num : Byte
  ctx : W16
  late : Bool
  time : W64
  deriving DecidableEq, Repr

/-- An entry of a delay list (R124): key, tag, whether it has been due, whether it releases LATE. -/
structure DlEntry where
  key : Int
  tag : W16
  due : Bool
  late : Bool
  deriving DecidableEq, Repr

/-- When and where a request of a scheduling node completed: dispatch cycle, slot, node (R226). -/
structure ReqKey where
  cycle : Nat
  slot : Nat
  node : Nat
  deriving DecidableEq, Repr

/-- A request on its way to a delay list (R225, R226): an offset from the present key, an absolute key, or a cancel,
with the node that sent it. -/
inductive DlReq where
  | insertRel (off : Int) (tag : W16) (issuer : Option (Nat × Nat))
  | insertAbs (key : Int) (tag : W16) (issuer : Option (Nat × Nat))
  | cancel (tag : W16) (issuer : Option (Nat × Nat))
  deriving DecidableEq, Repr

/-- A delay list (R122 to R128). -/
structure DelayList where
  /-- entries in order of insertion, at most 256 (05 R122; reset empty) -/
  entries : List DlEntry
  /-- requests crossing into the PWM domain, in the order of R226 (09 R226; reset none) -/
  inflight : List (ReqKey × DlReq)
  /-- a re-sort runs: PWM cycles left, the present key before the first jump of the series and that after its last
  (05 R127; reset none) -/
  resort : Option (Nat × Int × Int)
  /-- inserts and cancels held during the re-sort (05 R127; reset none) -/
  held : List DlReq
  /-- overflow counter, 32 bits (05 R128; reset 0, width DC 10) -/
  overflow : W32
  deriving DecidableEq, Repr

/-- A request on its way to a compare unit, with the node that sent it (R226). -/
inductive CmpReq where
  | armRel (off : Int) (issuer : Option (Nat × Nat))
  | armAbs (key : Int) (issuer : Option (Nat × Nat))
  | disarm
  deriving DecidableEq, Repr

/-- A compare unit (R129 to R133). -/
structure CompareUnit where
  /-- armed (05 R131; reset disarmed) -/
  armed : Bool
  /-- target key, 64 bits (05 R131; reset 0) -/
  target : Int
  /-- hits since the last target write (05 R131; reset 0) -/
  hits : Nat
  /-- what the next evaluation fires whatever the key: none, a hit without LATE, a hit with LATE (05 R132; reset none) -/
  fire : Option Bool
  /-- CROSSING_ONLY waits for the key to move behind the target (05 R132; reset false) -/
  waitBehind : Bool
  /-- EITHER: the target was ahead in the forward direction when written (05 R131; reset false) -/
  below : Bool
  /-- the target has been written in this PWM cycle (05 R132; reset false) -/
  fresh : Bool
  /-- requests crossing into the PWM domain, in the order of R226 (09 R226; reset none) -/
  inflight : List (ReqKey × CmpReq)
  deriving DecidableEq, Repr

/-! ### Dispatcher and axis engine -/

/-- A run in flight (R148). -/
structure Run where
  /-- the triggering event (06 R148) -/
  trig : Event
  /-- dependency counters by node (06 R148) -/
  deps : List Nat
  /-- nodes that have completed (06 R148) -/
  completed : Nat
  /-- the bank sample (06 R158) -/
  bank : Bool
  /-- the deadline has passed by the next matching trigger (06 R150) -/
  missed : Bool
  /-- the recorded checkpoint requests in order: axis channel, node, digest (09 R221) -/
  ckpt : List (AxisId × Nat × List W32)
  deriving DecidableEq, Repr

/-- A graph slot (R139 to R163). -/
structure Slot where
  /-- slot state (06 R146; reset EMPTY) -/
  st : GState
  /-- the 64-byte image header, held in the slot registers (06 R139, R144; reset none) -/
  hdr : Bytes
  /-- node words (06 R140; reset none) -/
  nodes : List (BitVec 128)
  /-- link table: deps, succ_n, succ_first (06 R141; reset none) -/
  links : List (Nat × Nat × Nat)
  /-- successor array (06 R140; reset none) -/
  succs : List Nat
  /-- coefficient area, 32-bit words (06 R157; reset none) -/
  coef : List W32
  /-- state area, 32-bit words: stages and operation state (07 R165, 08 R187; reset none) -/
  state : List W32
  /-- runs and late counters, 32 bits (06 R150; reset 0) -/
  runs : W32
  lates : W32
  /-- flags LATE and OVERRUN (06 R152; reset 0) -/
  fLate : Bool
  fOverrun : Bool
  /-- GRAPH_STATUS bits 2:0, one dispatch cycle behind the nodes (06 R152, 07 R177; reset 0) -/
  shown : BitVec 3
  /-- consecutive late runs and discarded triggers (06 R151; reset 0) -/
  consec : Nat
  /-- the pending trigger of KEEP_ONE (06 R149; reset none) -/
  pendTrig : Option Event
  /-- a further matching event has come since the pending one, which ends its deadline 0 (06 R150; reset false) -/
  pendLate : Bool
  /-- a trigger to be released in the dispatch cycle after the run (06 R149; reset none) -/
  release : Option Event
  /-- the run in flight (06 R148; reset none) -/
  run : Option Run
  /-- checkpoints of a completed run that wait for their copy (09 R221; reset none) -/
  ckptDue : List (AxisId × Nat × List W32)
  /-- outcome of each scheduling node's previous request: node, accepted (09 R226; reset none) -/
  replies : List (Nat × Bool)
  /-- the mailbox whose GRAPH_STOP waits for the run (06 R146; reset none) -/
  stopper : Option MbId
  deriving DecidableEq, Repr

/-- An execution unit at work (R155, R189). -/
structure UnitJob where
  /-- the node's slot and index -/
  slot : Fin 64
  node : Nat
  /-- dispatch cycles left before the completion cycle (08 R189) -/
  left : Nat
  /-- the node has executed (08 R189) -/
  executed : Bool
  /-- the run it belongs to was discarded (06 R163) -/
  orphan : Bool
  /-- bank sample and triggering event of its run (06 R148, R158) -/
  bank : Bool
  trig : Event
  /-- an input node's snapshot of its source at the issue cycle: the elements and the flags they set (09 R210) -/
  snap : List Rat
  snapFlags : BitVec 3
  deriving DecidableEq, Repr

/-- The dispatcher (R146 to R163). -/
structure Dispatcher where
  /-- the graph slots (06 R146) -/
  slots : Vector Slot 64
  /-- the ready queue: priority, slot, node, in order of entry (06 R154; reset empty) -/
  ready : List (Nat × Fin 64 × Nat)
  /-- source nodes that enter the ready queue in the present dispatch cycle (06 R148, R154; reset none) -/
  entered : List (Nat × Fin 64 × Nat)
  /-- nodes that enter the ready queue in the next dispatch cycle (06 R154; reset none) -/
  fresh : List (Nat × Fin 64 × Nat)
  /-- the four execution units (06 R155; reset idle) -/
  units : Vector (Option UnitJob) 4
  /-- raised events on their way to the dispatcher, oldest first (01 R27; reset none) -/
  events : List Event
  /-- EMIT requests not yet raised, at most 16 (09 R220; reset none) -/
  emits : List (Nat × W16)
  /-- sticky flags set by the executions of the present dispatch cycle, by slot and node (07 R176; reset none) -/
  setNow : List (Fin 64 × Nat × BitVec 3)
  /-- dispatch cycles since reset, the model's own count, by which requests keep the order of R226 (reset 0) -/
  cycle : Nat
  deriving DecidableEq, Repr

/-! ### The axis channel -/

/-- PWM state of an axis channel (R228 to R251). -/
structure Pwm where
  /-- the carrier runs (10 R249; reset stopped) -/
  running : Bool
  /-- no period has started since the carrier started (10 R249; reset true) -/
  firstWait : Bool
  /-- duty shadows A, B, C (09 R216, 10 R249; reset 0) -/
  shadow : Vector Rat 3
  /-- duties loaded at the last period start (10 R234; reset 0) -/
  duty : Vector Rat 3
  /-- placed high-side width and first step of the present period, in steps (10 R234, R238; reset 0) -/
  width : Vector Int 3
  start : Vector Int 3
  /-- edges of the period fall on the 5 ns grid: which neighbours they take (10 R228; reset none, on their steps) -/
  grid : Option Nat
  /-- carry, in steps (10 R238; reset 0) -/
  carry : Vector Int 3
  /-- length of the present period in PWM cycles (10 R230; reset 0) -/
  length : Nat
  /-- PWM cycles since the last period start (12 R282; reset 0) -/
  since : Nat
  /-- per phase: in the fixed interval of a COT or COFT period (10 R235; reset false) -/
  fixedInt : Vector Bool 3
  /-- current thresholds of COT and COFT by phase, fraction of full scale (10 R236; reset 0) -/
  thr : Vector Rat 3
  /-- COT and COFT, by phase: PWM cycles since its period began, and that count when its variable interval began
  (10 R235, R248; reset 0) -/
  count : Vector Nat 3
  varAt : Vector Nat 3
  /-- output mask, 6 bits (10 R239, R249; reset 0) -/
  mask : BitVec 6
  /-- mask table index (10 R240; reset 0) -/
  idx : Nat
  /-- a mask written and COMMUT steps raised by nodes that the block takes in its next cycle (09 R217; reset none, 0) -/
  maskReq : Option (BitVec 6)
  stepReq : Nat
  /-- switch commands that leave the block, bit order of R217 (10 R239; reset 0) -/
  cmd : BitVec 6
  /-- turn-ons that wait out a dead time (10 R237; reset 0) -/
  pendOn : BitVec 6
  /-- switches whose complement's dead time has not run out since that complement was commanded off (10 R237; reset 0) -/
  dead : BitVec 6
  /-- pairs held off by the shoot-through interlock (10 R241; reset 0) -/
  held : BitVec 3
  /-- a latched trip waits for its release (10 R243; reset false) -/
  latched : Bool
  /-- local time of the PWM cycle in which trips were last released (10 R243; reset none) -/
  relAt : Option W64
  /-- the switches of a pulsed zero vector stay off until the next period start (14 R335; reset false) -/
  pulseCut : Bool
  deriving DecidableEq, Repr

/-- Gate-driver die state of an axis channel (R252 to R277). -/
structure Gate where
  /-- what drives each gate (11 R257, R263; reset off) -/
  drive : Vector GateDrive 6
  /-- switch commands as the die last received them (11 R257; reset off, 11 R275) -/
  cmd : BitVec 6
  /-- blanking runs, per switch (11 R260; reset 0) -/
  blank : BitVec 6
  /-- latched shorts by leg (11 R260; reset 0) -/
  short : BitVec 3
  /-- latched readback mismatches by leg (11 R258; reset 0) -/
  readback : BitVec 3
  /-- latched floating-supply undervoltage by phase (11 R266; reset 0) -/
  uvlo : BitVec 3
  /-- latched shoot-through attempts by phase (10 R241, 11 R272; reset 0) -/
  shoot : BitVec 3
  /-- floating supplies below the threshold now, by phase (11 R266; reset 0, 11 R254) -/
  floatLow : BitVec 3
  deriving DecidableEq, Repr

/-- A conversion set (R282 to R284). -/
structure ConvSet where
  /-- held, and not yet published (12 R284; reset false) -/
  waiting : Bool
  /-- conversions left to make (12 R283; reset 0) -/
  left : Nat
  /-- content code of the set as it was held (12 R282, R283; reset 0) -/
  content : Nat
  /-- calibrated codes so far with their overrange marks, in order (12 R283, R286; reset none) -/
  codes : List (Int × Bool)
  deriving DecidableEq, Repr

/-- A published conversion set: its number, its content code, its codes with their overrange marks (R283). -/
structure AdcSet where
  set : Nat
  content : Nat
  codes : List (Int × Bool)
  deriving DecidableEq, Repr

/-- Sensing state of an axis channel (R278 to R293). -/
structure Sense where
  /-- o_cal of currents A, B, C and voltages A, B, C (12 R286; reset 0) -/
  oCal : Vector Int 6
  /-- a channel failed calibration (12 R286; reset false) -/
  calFail : Bool
  /-- the two conversion sets (12 R282) -/
  sets : Vector ConvSet 2
  /-- the newest published set of each set number, newest first (09 R211, 12 R283; reset none) -/
  done : List AdcSet
  /-- active window comparators by phase (12 R288; reset 0) -/
  oc : BitVec 3
  deriving DecidableEq, Repr

/-- The digital filter of one feedback input (R295). -/
structure InFilter where
  /-- level at the pin (13 R294; reset low, a weak pull-down) -/
  pin : Bool
  /-- level of the last sample (13 R295; reset low) -/
  last : Bool
  /-- consecutive samples at that level, no further than the filter asks for (13 R295; reset 0) -/
  run : Nat
  /-- level last accepted (13 R295; reset none) -/
  level : Option Bool
  deriving DecidableEq, Repr

/-- A feedback channel (R294 to R314). -/
structure Feedback where
  /-- the inputs x_FBnn_0 to x_FBnn_2 and their filters (13 R294, R295; reset no level accepted) -/
  ins : Vector InFilter 3
  /-- the inputs have been sampled in this PWM cycle (13 R295; reset false) -/
  sampled : Bool
  /-- decoding runs (13 R319; reset idle) -/
  running : Bool
  /-- sensor supply (13 R296, R319; reset off) -/
  supply : SupplyState
  /-- inside the 2 ms after the supply switched on (13 R296; reset false) -/
  settling : Bool
  /-- position count (13 R299; reset 0) -/
  count : Int
  /-- accepted levels last decoded: A, B, Z or H1, H2, H3 (13 R295, R299, R302; reset low) -/
  a : Bool
  b : Bool
  z : Bool
  /-- armed for the first index (13 R300; reset true) -/
  armed : Bool
  /-- INVALID through the channel (13 R309; reset false) -/
  invalid : Bool
  /-- an index that set the count has been seen since INVALID (13 R309; reset false) -/
  indexSeen : Bool
  /-- consecutive errors and consecutive valid words or changes (13 R309; reset 0) -/
  errRun : Nat
  okRun : Nat
  /-- FALLBACK has switched to OBSERVER (13 R314; reset false) -/
  observer : Bool
  /-- the speed window: local time in ns and net count of each change, newest first (13 R310; reset none) -/
  window : List (Nat × Int)
  /-- net counts since the channel started (13 R310; reset 0) -/
  total : Int
  /-- direction of the last change: 1, -1 or 0 (13 R312; reset 0) -/
  dir : Int
  /-- changes still needed in the new direction before status returns to 0 (13 R312; reset 0) -/
  rev : Nat
  /-- last speed estimate, mechanical rev/s (13 R310; reset 0) -/
  est : Rat
  /-- local time of the last change, ns (13 R311; reset 0) -/
  lastAt : Nat
  /-- stop_ms has passed without a change (13 R311; reset false) -/
  stopped : Bool
  /-- last Hall sector (13 R302; reset none) -/
  sector : Option Nat
  /-- the Hall state last sampled since the channel started (13 R302; reset none) -/
  hall : Option (BitVec 3)
  /-- a trigger of the SSI channel waits for its clock burst (13 R303; reset false) -/
  ssiDue : Bool
  /-- an SSI burst or its recovery time runs (13 R303; reset false) -/
  burst : Bool
  /-- sample time of the burst in progress, local ns (13 R303; reset 0) -/
  burstAt : Nat
  /-- local time at which the recovery time of the last burst ends, ns (13 R303; reset 0) -/
  readyAt : Nat
  /-- SSI and SENT: a valid word has been applied since INVALID; ABZ: a sample has been seen since the channel started
  (13 R300, R304, R307; reset false) -/
  first : Bool
  /-- local time of the last valid sample and spacing of the last two, ns (13 R313; reset 0) -/
  sampleAt : Nat
  spacing : Nat
  /-- position last decoded, in revolutions (13 R307; reset 0) -/
  pos : Rat
  /-- a decoded position that the next PWM cycle applies: the sample time of a word, and whether it is an angle jump
  (13 R307; reset none) -/
  apply : Option (Option Nat × Bool)
  /-- status-nibble bits 3 and 2 of the frames of the enhanced serial message so far, newest first (13 R306; reset none) -/
  esm : List (Bool × Bool)
  deriving DecidableEq, Repr

/-- The sensorless supervisor of an axis (R325 to R339). -/
structure Supervisor where
  /-- drive state (14 R325, R337; reset IDLE) -/
  drive : Drive
  /-- the judge is locked (14 R326, R337; reset unlocked) -/
  locked : Bool
  /-- consecutive good and bad writes (14 R326; reset 0) -/
  good : Nat
  bad : Nat
  /-- the reference: angle in turns, speed in rev/s, local time in ns (14 R326; reset none) -/
  ref : Option (Rat × Rat × Nat)
  /-- the last write (14 R326; reset none) -/
  last : Option (Rat × Rat × Nat)
  /-- failed-catch count (14 R331, R337; reset 0) -/
  fails : Nat
  /-- the catch window holds the six switches off (14 R329; reset false) -/
  off : Bool
  /-- the time limit of the present drive state has run out: acq_ms, the catch window, COAST (14 R328, R332; reset false) -/
  due : Bool
  /-- the judge has lost lock and the transition is still to come (14 R326, R332; reset false) -/
  lost : Bool
  /-- local time of the PWM cycle of the last transition (14 R332; reset none) -/
  movedAt : Option W64
  /-- causes that wait for the next PWM cycle because this one has had its transition: the axis was enabled, FALLBACK has switched
  and leads to the state named (14 R332; reset false, none) -/
  start : Bool
  fall : Option Drive
  /-- drive state at the start of the PWM cycle, and whether a transition of this cycle is still to be announced (14 R332, R333;
  reset IDLE, false) -/
  shown : Drive
  say : Bool
  deriving DecidableEq, Repr

/-- A takeover in progress (R353). -/
structure Takeover where
  cause : TakeCause
  /-- step 5 has been reached: the current role is DUPLEX_ACTIVE (15 R353) -/
  role : Bool
  /-- the graph has written its first WR_DUTY since step 5 (15 R353) -/
  duty : Bool
  /-- RELEASED or 01 has arrived (15 R354) -/
  released : Bool
  deriving DecidableEq, Repr

/-- Values received from a partner member (R223, R343). -/
structure PartnerVals where
  vals : List Rat
  /-- local time of reception, ns -/
  time : Nat
  observing : Bool
  excluded : Bool
  deriving DecidableEq, Repr

/-- Redundancy state of an axis channel (R340 to R361). -/
structure Redun where
  /-- lanes whose newest group descriptor for this member disagrees: INCONSISTENT (15 R342; reset 0) -/
  badDesc : BitVec 3
  /-- newest coordinator values of the member in each lane (09 R223; reset none) -/
  partner : Vector (Option PartnerVals) 3
  /-- partner lanes whose values are no longer used (15 R344; reset 0) -/
  dropped : BitVec 3
  /-- of those, the ones that have sent a frame with OBSERVING or EXCLUDED since (15 R344; reset 0) -/
  flagged : BitVec 3
  /-- out-of-band counts by lane (15 R344; reset 0) -/
  counts : Vector Nat 3
  /-- this member has excluded itself (15 R344; reset false) -/
  excluded : Bool
  /-- an observation has started and has not yet ended with every period in band (15 R344; reset false) -/
  probation : Bool
  /-- observation: periods still to observe in band (15 R344; reset none) -/
  observing : Option Nat
  /-- DISAGREE (15 R343; reset false) -/
  disagree : Bool
  /-- sequence of the last checkpoint posted (15 R348; reset 0) -/
  ckptSeq : W32
  /-- mismatch counter (15 R351; reset 0) -/
  mismatch : Nat
  /-- takeover in progress (15 R353; reset none) -/
  takeover : Option Takeover
  /-- progress of a PLANNED handover (15 R354; reset none) -/
  planned : Planned
  /-- a checkpoint being committed: Granary slot and record (15 R349; reset none) -/
  commit : Option (Nat × Bytes)
  /-- the newest commit is torn (15 R350; reset false) -/
  torn : Bool
  /-- own health word as last published (15 R359; reset 0) -/
  health : W32
  /-- completed standby test rotations, modulo 256 (15 R360; reset 0) -/
  rotation : Byte
  /-- last gate pulse test and last comparator test failed (15 R359; reset false) -/
  gateFail : Bool
  cmpFail : Bool
  deriving DecidableEq, Repr

/-- One axis channel. -/
structure Axis where
  /-- current role (15 R341; reset UNUSED until the configured role is taken, 15 R361) -/
  role : Role
  /-- enabled since lane reset (02 R61; reset false) -/
  enabled : Bool
  /-- in its safe state (02 R61; reset false) -/
  safe : Bool
  /-- class A has put it in its safe state and no FAULT_CLEAR has returned OK since (16 R366; reset false) -/
  classA : Bool
  /-- the pattern held while in the safe state (11 R268, R269; reset OPEN) -/
  pattern : Pattern
  /-- AUTO decided that pattern at the entry into the safe state (11 R269; reset false) -/
  patAuto : Bool
  /-- outputs have begun since the enable, and follow the carrier (10 R244; reset false) -/
  driving : Bool
  /-- network-loss profile started for this axis, 0 none or SAFE, else its code (04 R105; reset 0) -/
  profile : Nat
  /-- a RAMP_ZERO profile has reached zero (04 R105; reset false) -/
  rampDone : Bool
  /-- local time at which the profile started, ns (04 R105; reset 0) -/
  profileAt : Nat
  /-- the payloads that a RAMP_ZERO profile moves to zero: consumer endpoint and payload when it started (04 R105; reset none) -/
  atHold : List (Nat × Bytes)
  /-- first fault source that named the axis since the last FAULT_CLEAR (02 R61; reset 0xFF) -/
  faultSrc : Byte
  acc : Acc
  pwm : Pwm
  gate : Gate
  sense : Sense
  fb : Feedback
  sup : Supervisor
  red : Redun
  deriving DecidableEq, Repr

/-- An auxiliary output (R246, R247). -/
structure Aux where
  /-- the carrier runs (10 R249; reset stopped) -/
  running : Bool
  /-- no period has started since the carrier started (10 R249; reset true) -/
  firstWait : Bool
  /-- the output waits for the next period start, after a start of the carrier or the release of a trip (10 R243, R249;
  reset false) -/
  wait : Bool
  /-- PWM cycles since the last period start, or since the carrier started (10 R235, R248; reset 0) -/
  since : Nat
  /-- sampled command (10 R247; reset off) -/
  on : Bool
  /-- pull_ms of level_pull runs (10 R247; reset false) -/
  pulling : Bool
  /-- level, fraction of 65,536 (10 R247; reset 0) -/
  level : Nat
  /-- placed width and first step of the present period, and carry, in steps (10 R247, R238; reset 0) -/
  width : Int
  start : Int
  carry : Int
  /-- edges of the period fall on the 5 ns grid: which neighbours they take (10 R228; reset none, on their steps) -/
  grid : Option Nat
  /-- in the fixed interval (10 R235; reset false) -/
  fixedInt : Bool
  /-- current threshold, fraction of full scale (12 R289; reset 0) -/
  thr : Rat
  /-- `since` when the variable interval began (10 R235; reset 0) -/
  varAt : Nat
  /-- switch command (10 R247; reset off) -/
  cmd : Bool
  /-- latched trip (10 R247; reset false) -/
  latched : Bool
  /-- local time of the PWM cycle in which trips were last released (10 R243; reset none) -/
  relAt : Option W64
  /-- switch command as the die last received it (11 R257; reset off) -/
  gcmd : Bool
  /-- gate driven (11 R272; reset off) -/
  gate : Bool
  deriving DecidableEq, Repr

/-- An encoder emulation output (R315 to R317). -/
structure Emul where
  /-- follows its accumulator (13 R319; reset false) -/
  running : Bool
  /-- emitted count (13 R316; reset 0) -/
  count : Int
  /-- pins x_EEA, x_EEB, x_EEZ (13 R319; reset low) -/
  a : Bool
  b : Bool
  z : Bool
  /-- local time of the last step, ns (13 R316; reset none) -/
  stepAt : Option Nat
  /-- a lag has been reported and has not yet fallen to 0 (13 R317; reset false) -/
  lagging : Bool
  deriving DecidableEq, Repr

/-! ### Analog front end, gate die, collector, lockstep, self-test -/

/-- A conversion waiting at an ADC (R283): axis channel, set number, input 0 to 5 (currents, then voltages). -/
structure Conv where
  nn : AxisId
  set : Fin 2
  input : Fin 6
  /-- local time of the hold -/
  heldAt : W64
  deriving DecidableEq, Repr

/-- What an ADC converts (R283, R285): a slot of its background rotation, a forced one, or the conversion at the head of its
queue. -/
inductive AdcNow where
  | background | forced | conv
  deriving DecidableEq, Repr

/-- The lane's analog front end (R281 to R293). -/
structure Afe where
  /-- conversions run (12 R293; reset false) -/
  running : Bool
  /-- the queue of each ADC (12 R283; reset empty) -/
  queues : Vector (List Conv) 6
  /-- next background slot of each ADC's rotation (12 R285; reset 0) -/
  bg : Vector Nat 6
  /-- what each ADC converts now (12 R285; reset background) -/
  now : Vector AdcNow 6
  /-- a forced background slot is due before the ADC's next queued set (12 R285; reset false) -/
  forced : Vector Bool 6
  /-- local time in ns at which the ADC's present rotation began (12 R285; reset 0) -/
  rotAt : Vector Nat 6
  /-- local time in ns of the ADC's last forced slot (12 R285; reset none) -/
  forceAt : Vector (Option Nat) 6
  /-- consecutive failed reference checks of each ADC (12 R287; reset 0) -/
  refRun : Vector Nat 6
  /-- ADCs that fail their reference check (12 R287; reset 0) -/
  refFail : BitVec 6
  /-- o_cal of the auxiliary inputs and of x_VBUS (12 R286; reset 0) -/
  auxCal : Vector Int 12
  vbusCal : Int
  /-- newest x_VBUS conversion in codes (12 R290; reset none) -/
  vbus : Option Int
  /-- newest auxiliary input conversions (12 R280; reset 0, DC 8) -/
  auxIn : Vector Int 12
  /-- bus overvoltage comparator active (12 R290; reset inactive) -/
  busOv : Bool
  /-- trip inputs x_TRIP_N0 to 3 active (10 R242; reset inactive) -/
  trips : BitVec 4
  /-- the delay line's last calibration was good (10 R228; reset true, DC 8) -/
  calGood : Bool
  deriving DecidableEq, Repr

/-- Lane-wide state of the gate-driver die (R265 to R276). -/
structure GateDie where
  /-- VGD groups valid now (11 R265; reset 0, DC 7) -/
  valid : BitVec 4
  /-- VGD groups that have been valid since lane reset (11 R265; reset 0) -/
  everValid : BitVec 4
  /-- latched group undervoltage (11 R265, R272; reset 0) -/
  uvlo : BitVec 4
  /-- x_GDEN is high (11 R272; reset low: weak pull-down, 25 R521) -/
  gden : Bool
  /-- the collector's heartbeat has been seen (11 R275; reset false) -/
  hbSeen : Bool
  /-- heartbeat lost: the safe states are held until lane reset (01 R21; reset false) -/
  hbLost : Bool
  /-- a gate-driver slice has started: every gate low until lane reset (11 R276; reset false) -/
  heldLow : Bool
  deriving DecidableEq, Repr

/-- The collector's record (R369). -/
structure FcRec where
  src : Fin 128
  cls : Nat
  time : W64
  ctx : Bytes
  deriving DecidableEq, Repr

/-- The fault collector (R362 to R378). Each stored register's complement copy is its bitwise inverse (R372). -/
structure Collector where
  /-- FC_FIRST, FC_TIME, FC_CTX: the record (16 R369; reset none) -/
  first : Option FcRec
  /-- FC_FIRST.OVERFLOW (16 R370; reset 0) -/
  overflow : Bool
  /-- FC_SEEN0 to 3 (16 R372; reset 0) -/
  seen : BitVec 128
  /-- FC_RAISE0 to 3 (16 R372; reset 0) -/
  raiseBits : BitVec 128
  /-- FC_MASK0 to 3 (16 R372; reset 0) -/
  mask : BitVec 128
  /-- lines that read FAULT; with `invalid` FC_PRESENT0 to 3 (16 R372; reset 0: every line counts as HEALTHY, R362) -/
  present : BitVec 128
  /-- lines whose invalid code has persisted (16 R364; reset 0) -/
  invalid : BitVec 128
  /-- of each line that reads FAULT the report that its source holds stable until the line returns to HEALTHY (16 R363; reset
  none) -/
  lines : List Report
  /-- the start-up check has passed (16 R373, R376; reset false) -/
  checked : Bool
  /-- the heartbeat line's level (01 R21; reset false, DC 8) -/
  beat : Bool
  deriving DecidableEq, Repr

/-- An input sample of the supervisor pair (R379). -/
structure PairInput where
  readData : W64
  irq : W32
  stall : Bool
  debug : Bool
  release : Bool
  deriving DecidableEq, Repr

/-- A word in the delay register: the sampled inputs, the marker and one parity bit (R379, R380). -/
structure DelayWord where
  input : PairInput
  marker : BitVec 2
  parity : Bool
  deriving DecidableEq, Repr

/-- A window that the primary core has run: its number and length in cycles, the primary core's signature, the shadow core's once
that core has run it too, and the cycles left until the comparators deliver (R381, R383, R384). -/
structure PairWindow where
  num : W64
  length : Nat
  sigPrimary : W64
  sigShadow : Option W64
  wait : Nat
  deriving DecidableEq, Repr

/-- A request in the commit buffer, the window in which it was issued, and whether that has compared clean (R385, R386). -/
structure HeldReq where
  req : BusReq
  window : W64
  clean : Bool
  deriving DecidableEq, Repr

/-- The supervisor pair's checking logic (R379 to R390). -/
structure Lockstep where
  /-- supervisor cycles of the two cores since their release from reset, 64 bits (17 R381; reset 0) -/
  cycles : W64
  /-- number w of the window that the primary core runs, 64 bits (17 R381; reset 0) -/
  window : W64
  /-- cycles that the primary core has run of its window, and the shadow core of the one it covers (17 R381; reset 0) -/
  done : Nat
  doneShadow : Nat
  /-- windows that the primary core has run and the comparators have not judged, oldest first (17 R384; reset none) -/
  closed : List PairWindow
  /-- the input register, which the primary core takes (17 R379, R390; reset empty) -/
  input : Option PairInput
  /-- the two stages of the delay register (17 R379, R390; reset empty) -/
  stage1 : Option DelayWord
  stage2 : Option DelayWord
  /-- what the shadow core takes in this cycle (17 R379; reset none) -/
  shadowIn : Option PairInput
  /-- the marker's Gray counter (17 R380, R390; reset 0) -/
  marker : BitVec 2
  /-- data of a load that the commit buffer answers, which enters through the input register (17 R386; reset none) -/
  forward : Option W64
  /-- signature registers of the primary and the shadow core (17 R382; reset all ones, the seed of a window) -/
  sigPrimary : W64
  sigShadow : W64
  /-- the commit buffer, oldest request first, at most 128 (17 R385, R390; reset empty) -/
  buffer : List HeldReq
  /-- the request that the commit buffer has released last (17 R385; reset none) -/
  sent : Option BusReq
  /-- the commit buffer stalls both cores (17 R385; reset false) -/
  stall : Bool
  /-- delay fault latched (17 R380; reset false) -/
  delay : Bool
  /-- comparator disagreement latched (17 R384; reset false) -/
  disagree : Bool
  /-- the pair is held from a failed window until it restarts (17 R389; reset false) -/
  failed : Bool
  /-- the injection test of LANE_INIT has passed since lane reset (17 R390; reset false) -/
  proved : Bool
  deriving DecidableEq, Repr

/-- A self-test run (R391 to R398). -/
structure TestRun where
  kind : RunKind
  /-- slices still to start, in order (18 R393) -/
  todo : List Nat
  /-- the slice in progress (18 R392) -/
  now : Option Nat
  passed : BitVec 32
  failed : BitVec 32
  /-- a wake request has arrived (18 R397) -/
  wake : Bool
  deriving DecidableEq, Repr

/-- The self-test controller (R391 to R400). -/
structure SelfTest where
  /-- the run in progress (18 R391; reset none) -/
  run : Option TestRun
  /-- state of the seal on which the present start was based (18 R395; reset NONE) -/
  sealState : Seal
  /-- its untested mask (18 R395; reset 0x00FF_FFFF) -/
  untested : W32
  /-- its carried mask (18 R394; reset 0) -/
  carried : W32
  /-- a start-up test has run in this power-up (18 R396; reset false) -/
  tested : Bool
  deriving DecidableEq, Repr

/-! ### Links, network, safety layer, inputs, streams -/

/-- One lane link as the lane sees it: the partner of the same index (R15 to R19, R30). -/
structure Link where
  /-- what the partner's handover line reads (01 R15; reset 01) -/
  line : Rail
  /-- the line has read 10 since lane reset (01 R29; reset false) -/
  everAlive : Bool
  /-- the line has read 10 and not 01 since: the partner is not lost (04 R91; reset false) -/
  alive : Bool
  /-- the partner is in LANE_ACTIVE (04 R95; reset false) -/
  active : Bool
  /-- the link is up, has been up since this lane entered LANE_ACTIVE, has come up since lane reset (01 R18; reset down) -/
  up : Bool
  everUp : Bool
  cameUp : Bool
  /-- a class 2 frame has been accepted from the partner (01 R30; reset false) -/
  gotTime : Bool
  /-- last accepted sequence by class 0 to 3 (01 R17; reset none) -/
  rxSeq : Vector (Option W16) 4
  /-- discards (01 R17; reset 0) -/
  discards : Nat
  /-- last sent sequence by class (01 R17; reset 0) -/
  txSeq : Vector W16 4
  /-- frames waiting to be sent by class (01 R19; reset none) -/
  txq : Vector (List LinkPayload) 4
  /-- the frame on the wire (01 R17; reset none) -/
  wire : Option LinkFrame
  /-- frames the link could not carry (09 R221; reset 0) -/
  lostTx : Nat
  /-- axis channels of the partner of which a health word since the link came up has reported DUPLEX_ACTIVE (04 R110;
  reset 0) -/
  heard : BitVec 12
  deriving DecidableEq, Repr

/-- A lane's reception state for one channel (R413, R416, R432). -/
structure Channel where
  /-- view of the Green (04 R92; reset absent) -/
  view : GreenView
  /-- a valid frame arrived in the present and in the previous cluster cycle (04 R92; reset false) -/
  gotNow : Bool
  gotPrev : Bool
  /-- consecutive ended cluster cycles without a valid frame (04 R92; reset 0) -/
  missed : Nat
  /-- lanes whose lane ports' slots have carried a valid frame in the present and in the previous cluster cycle (03 R68; reset 0) -/
  lanesNow : BitVec 3
  lanesPrev : BitVec 3
  /-- discards (19 R416; reset 0) -/
  discards : Nat
  /-- link delays d computed in the last 8 cycles, newest first: age in cycles, ns (20 R432; reset unknown) -/
  delays : List (Nat × Rat)
  /-- the latest d, ns (20 R432, R441; reset unknown) -/
  latest : Option Rat
  /-- offset e of the master's SYNC frame of the present cycle, whether dev_ns was present, and that frame's rank
  (20 R432, R434; reset none) -/
  off : Option (Rat × Bool × Nat)
  /-- newest reported state and counters of external ports 0 to 15 (19 R413; reset UNKNOWN, 0) -/
  ports : Vector PortState 16
  counters : Vector (List W32) 16
  /-- cycles since the last STATUS frame, none when none arrived (19 R413; reset none) -/
  statusAge : Option Nat
  /-- local time of the newest STATUS frame, ns (19 R413; reset 0) -/
  statusAt : Nat
  /-- download CRC and id the Green reports installed (19 R413; reset 0) -/
  instCrc : W32
  instId : W32
  /-- schedule download: cycles left to send (19 R421; reset none) -/
  download : Option Nat
  /-- download of the cascade record: cycles left to send (22 R471; reset none) -/
  cascade : Option Nat
  deriving DecidableEq, Repr

/-- A lane's side of the network (R401 to R445). -/
structure Net where
  chan : Vector Channel 2
  /-- integration state (20 R437; reset LISTEN) -/
  integ : Integ
  /-- this lane is time master and sets MASTER (20 R435; reset false) -/
  master : Bool
  /-- cycle counter 0 to 63 (20 R439; reset 0) -/
  cycle : Nat
  /-- global time of the last cycle start, ns (20 R439; reset 0) -/
  cycleAt : Int
  /-- cycles in the present integration state, and consecutive good cycles in it (20 R438; reset 0) -/
  inState : Nat
  goodRun : Nat
  /-- consecutive cycles with the rate correction at its limit (20 R438; reset 0) -/
  limitRun : Nat
  /-- cycles since a master SYNC or COLDSTART frame (20 R438; reset 0) -/
  quiet : Nat
  /-- a valid SYNC frame of lower rank has arrived in this cycle (20 R435; reset false) -/
  lowerHeard : Bool
  /-- occurrences of the own SYNC slot since a valid SYNC frame of lower rank (20 R435; reset 0) -/
  lowerAge : Nat
  /-- cycle offset of the last cycle that had one, ns (20 R434, R438; reset 0) -/
  lastOff : Rat
  /-- CHANNEL_SKEW and COPY_MISMATCH counters (20 R434, 19 R417; reset 0) -/
  skews : Nat
  copyMismatch : Nat
  /-- first valid copies of the present cycle: slot, cycle, payload (19 R417; reset none) -/
  copies : List (Nat × Nat × Bytes)
  /-- the hold of R104 and when it started (04 R104; reset none) -/
  hold : Hold
  /-- service connections that have received a request (19 R419; reset none) -/
  svcSeen : BitVec 4
  /-- requests discarded because the mailbox was not IDLE (19 R418; reset 0) -/
  svcDrops : Nat
  /-- frames last sent on a lane port: channel and frame (19 R407, R421; reset none) -/
  sent : List (GreenId × CttFrame)
  /-- the SERVICE responses sent in the present cycle: cycle, slot, payload, for their copies on the other channel (19 R418; reset
  none) -/
  svcOut : List (Nat × Nat × Bytes)
  /-- containers packed for DATA slots: slot and bytes (21 R452; reset none) -/
  packed : List (Nat × Bytes)
  /-- trunks: has delivered a valid frame; lost (22 R476; reset 0) -/
  trunkSeen : BitVec 4
  trunkLost : BitVec 4
  /-- the hold after a trunk loss has ended (22 R476; reset 0) -/
  trunkEnded : BitVec 4
  /-- trunks with a valid frame in the present cycle; ended cycles in a row without one (22 R476; reset 0) -/
  trunkNow : BitVec 4
  trunkMissed : Vector Nat 4
  /-- arrival groups whose event was raised in this PWM cycle, and arrivals that wait for a later one: group and endpoint
  (21 R458; reset none) -/
  arrNow : BitVec 16
  arrivals : List (Nat × Nat)
  deriving DecidableEq, Repr

/-- A safety endpoint (R446 to R461). -/
structure Endpoint where
  /-- state (21 R456; reset CLOSED) -/
  st : EpState
  /-- version of the last PDU accepted or sent (21 R456; reset 0) -/
  version : Byte
  /-- the six counters (21 R456; reset 0) -/
  counters : Vector W32 6
  /-- sequence last accepted or sent; none before the first after CONN_OPEN (21 R452, R454; reset none) -/
  seq : Option W16
  /-- newest valid payload of a consumer (21 R453; reset none) -/
  payload : Option Bytes
  /-- a consumer that has been under a hold and has accepted no PDU since: HELD flag (04 R104, R106, 22 R476; reset false) -/
  inHold : Bool
  /-- a consumer that delivered when the last hold ended and has delivered no PDU since (04 R105, R106; reset false) -/
  kept : Bool
  /-- the watchdog of a consumer runs (21 R455; reset false) -/
  watch : Bool
  /-- PRODUCER_HELD on the newest accepted PDU (21 R453; reset false) -/
  heldFlag : Bool
  /-- consecutive accepted PDUs in FAILED (21 R457; reset 0) -/
  okRun : Nat
  /-- staging buffer of a producer (09 R219; reset: none written) -/
  staging : Bytes
  /-- newest complete payload of a producer (09 R219; reset none) -/
  complete : Option Bytes
  /-- that payload has become older than refresh_us (21 R452; reset false) -/
  stale : Bool
  /-- newest offer advertised by an accepted PDU (21 R460; reset none) -/
  offer : Option Nat
  deriving DecidableEq, Repr

/-- A dual-contact input pair (R462 to R469). -/
structure Pair where
  /-- value word: CAUSE 4:2, FORCED 1, VALUE 0 (21 R468; reset START, forced; VALUE is 0, the Default of safe_value) -/
  cause : Nat
  forced : Bool
  value : Bool
  /-- local time at which the newest cause arose (21 R467; reset none) -/
  causeAt : Option W64
  /-- filtered levels (21 R462; reset low, DC 8) -/
  f1 : Bool
  f2 : Bool
  /-- last raw levels, and consecutive samples at a level other than the filtered one (21 R462; reset low, 0) -/
  r1 : Bool
  r2 : Bool
  n1 : Nat
  n2 : Nat
  /-- the discrepancy timer runs (21 R465; reset false) -/
  discr : Bool
  /-- local times of rejected changes, newest first, ns (21 R466; reset none) -/
  rejects : List Nat
  /-- the restart timer runs uninterrupted, and has run out (21 R467; reset false) -/
  restart : Bool
  restartDone : Bool
  /-- a FAULT_CLEAR has returned OK since the cause (21 R467; reset false) -/
  cleared : Bool
  /-- contacts that have passed a test since reset (21 R469; reset 0) -/
  tested : BitVec 2
  deriving DecidableEq, Repr

/-- The lane's inputs and test pulses (R462). -/
structure Inputs where
  pairs : Vector Pair 16
  /-- test pulses run (21 R469; reset false) -/
  pulsing : Bool
  /-- the test-pulse output that is low now (21 R462; reset none) -/
  low : Option (Fin 4)
  /-- local time in ns at which the exclusion after the last pulse ends (21 R462; reset 0) -/
  exclTo : Nat
  deriving DecidableEq, Repr

/-- A stream channel (R478 to R493). -/
structure StreamCh where
  /-- state and cause (23 R487; reset STOPPED, NONE) -/
  st : StState
  cause : StCause
  /-- beat index and address of the latest halt or stop (23 R487; reset 0) -/
  haltBeat : Nat
  haltAddr : Nat
  /-- next beat of the pass, and the pass's start offsets on the two sides (23 R478, R486; reset 0) -/
  beat : Nat
  srcAt : Nat
  dstAt : Nat
  /-- retries used by the present beat (23 R489; reset 0) -/
  retries : Nat
  /-- first unread source offset of the pass (23 R485; reset 0) -/
  nextSrc : Nat
  /-- the 64-bit holding register: at most 8 bytes (23 R485; reset none) -/
  holding : Bytes
  /-- bytes of the source unit last read that the holding register has no room for yet, at most 7 (23 R485; reset none) -/
  incoming : Bytes
  /-- the latched consumer payload of the pass (23 R484; reset none) -/
  latch : Option Bytes
  /-- a trigger is pending (23 R486; reset false) -/
  pendTrig : Bool
  /-- the halt cannot be resumed (23 R491; reset false) -/
  noResume : Bool
  /-- the lower word of the present beat is already written into a coefficient area (23 R483; reset false) -/
  half : Bool
  /-- the virtual address whose TLB walk delays the beat (23 R478; reset none) -/
  walking : Option Nat
  deriving DecidableEq, Repr

/-- The stream engine (R478). -/
structure Streams where
  chans : Vector StreamCh 16
  /-- TLB entries: channel and page, at most 256 (23 R478; reset empty) -/
  tlb : List (Nat × Nat)
  /-- the channel served last: the turn passes on in ascending order from it (23 R478; reset 15, so that channel 0 is first:
  DESIGN CHOICE, notes/assumptions/76.md) -/
  last : Fin 16
  deriving DecidableEq, Repr

/-- The memories of a lane that the block reads by address (R23, R37, R349, R481). -/
structure Memories where
  /-- trace window, 1 MiB (02 R37, 23 R481; reset: DC 6) -/
  trace : Mem
  /-- stream memory, 1 MiB (23 R481; reset: DC 6) -/
  stream : Mem
  /-- the Granary, 64 KiB (01 R23, 15 R349; power-on: DC 6) -/
  granary : Mem
  /-- health words of the 36 device axes as HEALTH_READ holds them (15 R359; reset 0) -/
  health : Vector W32 36
  deriving DecidableEq, Repr

/-- The Almanac as the window holds it (R66 to R73). -/
structure Almanac where
  /-- generation, 32 bits (03 R66; reset 0) -/
  generation : W32
  /-- status and capability of each entry, the fields that change, in the order of R73's inventory (03 R67;
  reset: the ROM contents with every status PRESENT, R73, written as the empty list) -/
  entries : List (Byte × W32)
  deriving DecidableEq, Repr

/-- The test access port of a lane (R526, R527). -/
structure Tap where
  /-- instruction register (25 R526; reset IDCODE, PRESUMED: IEEE 1149.1, log 11) -/
  ir : TapIr
  /-- the pins are under EXTEST (25 R527; reset false) -/
  pins : Bool
  /-- boundary-scan register: the levels that SAMPLE/PRELOAD has captured at the logic-die digital pins, in the order of
  `scanLevels` (25 R526; reset none captured) -/
  scan : List Bool
  /-- what SAMPLE/PRELOAD has loaded for the output cells to drive under EXTEST, in the order of `drivePins` (25 R526;
  reset none) -/
  preload : List Bool
  deriving DecidableEq, Repr

/-- Lane-wide control (R15, R39, R62, R108, R497, R504 to R511). -/
structure Sys where
  /-- lane state, 3 bits (02 R39; reset LANE_INIT) -/
  lstate : LState
  /-- device mode, 3 bits (02 R38, R39; reset OFF) -/
  mode : Mode
  /-- underlying mode while in WORKSHOP (04 R95; reset OFF) -/
  under : Mode
  /-- the supply is valid (24 R497; reset valid) -/
  powered : Bool
  /-- held in lane reset by x_RST_N (24 R502; reset released) -/
  inReset : Bool
  /-- parked (24 R511; reset false) -/
  parked : Bool
  /-- x_RUN counts as high (24 R504; reset false, 25 R521: weak pull-down) -/
  run : Bool
  /-- x_PWRHOLD (24 R508; reset low) -/
  pwrHold : Bool
  /-- LANE_TEST is a rejoin (04 R109; reset false) -/
  rejoining : Bool
  /-- the runtime tests of the rejoin have passed and a time source is awaited (04 R109; reset false) -/
  rejoinTime : Bool
  /-- a rejoin has been used in this drive cycle (04 R108; reset false) -/
  rejoined : Bool
  /-- the automatic clear of AUTO is still to come in this LANE_SAFE (04 R108; reset false) -/
  autoClear : Bool
  /-- the committed lane record failed its check at start-up (03 R80; reset false) -/
  laneRecBad : Bool
  /-- records that failed their check: type and instance (03 R80; reset none) -/
  bad : List (Nat × Nat)
  /-- debug halt (10 R248; reset false) -/
  halted : Bool
  /-- fault sources 113 to 116 present by temperature (26 R541; reset 0) -/
  hot : BitVec 4
  /-- the lane has reached LANE_ACTIVE since lane reset (04 R95; reset false) -/
  wasActive : Bool
  /-- simplex axes that drove before LANE_SAFE, for SIMPLEX_AUTO (04 R109; reset 0) -/
  drove : BitVec 12
  /-- clocks that have failed: crystal, PLLs, monitor (01 R26; reset 0) -/
  badClocks : BitVec 7
  /-- an internal rail deviates: the condition of source 25 (16 R362, 24 R497; reset false) -/
  railBad : Bool
  /-- the lane's home ports at Green A and Green B without power while the lane runs on the other: the condition of source 26
  (16 R362, 24 R496; reset 0) -/
  portLost : BitVec 2
  /-- the start sequence has ended in LANE_INIT: failed self-check or FAILED seal (16 R376, 18 R396; reset false) -/
  stuck : Bool
  deriving DecidableEq, Repr

/-- One lane. -/
structure Lane where
  /-- lane index (R3) -/
  idx : LaneId
  sys : Sys
  hp : HostPort
  ses : Session
  fl : Flash
  tm : Timebase
  dls : Vector DelayList 16
  cus : Vector CompareUnit 24
  dsp : Dispatcher
  ax : Vector Axis 12
  aux : Vector Aux 8
  emu : Vector Emul 2
  afe : Afe
  gd : GateDie
  fc : Collector
  lk : Lockstep
  tst : SelfTest
  links : Vector Link 3
  net : Net
  eps : Vector Endpoint 512
  inp : Inputs
  str : Streams
  mem : Memories
  alm : Almanac
  tap : Tap
  /-- the model's own counter of free values, not the spec's (DC 5; reset 0) -/
  free : Nat
  deriving DecidableEq, Repr

/-! ### The Greens and the power branches -/

/-- The PMA role of a port's PHY (R402). -/
inductive PmaRole where
  | master | slave
  deriving DecidableEq, Repr

/-- A port of a Green (R409 to R415). -/
structure GPort where
  /-- state (19 R414, R424; reset DOWN; lane ports OPEN) -/
  st : PortState
  /-- CLOSED under R411, kept while the link is down (19 R411; reset false) -/
  shut : Bool
  /-- the eight counters (19 R415; reset 0) -/
  counters : Vector W32 8
  /-- cycles of the latest violations, newest first (19 R411; reset none) -/
  viols : List Nat
  /-- clean cycles so far while closed (19 R411; reset 0) -/
  clean : Nat
  /-- in this cycle: a frame started in a window; a violation started (19 R411; reset false) -/
  hit : Bool
  miss : Bool
  /-- deviation of the port: of the previous cycle, and first of the present one, ns (20 R430; reset none) -/
  devPrev : Option Rat
  devNow : Option Rat
  /-- trunk port: trunk delays computed in the last 8 cycles, newest first: age in cycles, ns (20 R432, 22 R474; reset unknown) -/
  delays : List (Nat × Rat)
  /-- the role of its PHY; a lane port has none (19 R402, 22 R472; reset MASTER) -/
  pma : Option PmaRole
  deriving DecidableEq, Repr

/-- The frame that an unsynchronised Green began to forward last: its port and start, and what the Green held before it, should a
lower port win the arbitration (R440). -/
structure Arbitration where
  port : Fin 19
  start : Int
  was : GPort
  refT : Rat
  refG : Rat
  slew : Rat
  cycle : Nat
  cycleAt : Rat
  lastFwd : List (Fin 19 × Nat × Int)
  follow : Option (Nat × Rat)
  coldNow : Bool
  quiet : Nat
  deriving DecidableEq, Repr

/-- A Green (R401 to R445). -/
structure Green where
  /-- its supply is valid (24 R497; reset valid) -/
  powered : Bool
  /-- its clock is good (19 R426; reset true) -/
  clockOk : Bool
  /-- its TEST pin is high (25 R523; reset low) -/
  testPin : Bool
  /-- held in reset by over-temperature (26 R541; reset false) -/
  hot : Bool
  ports : Vector GPort 19
  /-- the stored schedule: slot entries of 16 bytes (19 R420; factory: none) -/
  sched : Option (List Bytes)
  /-- the stored bytes 0x10 to 0x17 of the lane record, and the download CRC (19 R420; factory: none) -/
  section8 : Bytes
  dlCrc : W32
  /-- the stored cascade record (22 R471; factory: none) -/
  cascade : Option Bytes
  /-- chunks received from each lane port, with the time of arrival in ns (19 R421; reset none) -/
  chunks : List (Nat × Int × SchedChunk)
  /-- synchronised (20 R441; reset false) -/
  synced : Bool
  /-- the Green's global time was refG ns at refT ns of its own clock (20 R433; reset 0) -/
  refT : Rat
  refG : Rat
  /-- rate correction, and offset slewed in the present cycle, ns per ns (20 R433, R434; reset 0) -/
  rate : Rat
  slew : Rat
  /-- cycle counter, and its start on the Green's global time, ns (19 R413; reset 0) -/
  cycle : Nat
  cycleAt : Rat
  /-- cycles since reset (19 R411; reset 0) -/
  cycles : Nat
  /-- unsynchronised: the port being forwarded (20 R440; reset none) -/
  block : Option (Fin 19)
  /-- the frame last forwarded while unsynchronised, within its arbitration (20 R440; reset none) -/
  arb : Option Arbitration
  /-- unsynchronised: of each port and slot the frame last forwarded: port, start_ns of the slot, and the frame's start on the
  Green's own clock (20 R441; reset none) -/
  lastFwd : List (Fin 19 × Nat × Int)
  /-- the SYNC frames with MASTER forwarded in this cycle: rank and offset (20 R436; reset none) -/
  follow : Option (Nat × Rat)
  /-- a COLDSTART frame was forwarded in this cycle (20 R441; reset false) -/
  coldNow : Bool
  /-- consecutive cycles without a followed SYNC or a COLDSTART frame (20 R441; reset 0) -/
  quiet : Nat
  /-- forwarded frames that reach beyond their slot's end, by ingress port (19 R410; reset none) -/
  arriving : List (Fin 19)
  /-- external port of the next STATUS frame (19 R413; reset 0) -/
  statusPort : Nat
  /-- egress: the copies of the frame last forwarded or sent, by egress port (19 R409, R413; reset none) -/
  egress : List (Nat × CttFrame)
  /-- the model's own counter of free values, not the spec's (DC 5; reset 0) -/
  free : Nat
  deriving DecidableEq, Repr

/-- The branches of a home port (R12). -/
structure HomePort where
  /-- limiter of the lane branch and of the star branch tripped (01 R12; reset false) -/
  laneTrip : Bool
  starTrip : Bool
  deriving DecidableEq, Repr

/-- The device. -/
structure State where
  /-- Ochre, Madder and Woad (R3) -/
  lanes : Vector Lane 3
  /-- Green A and Green B -/
  greens : Vector Green 2
  /-- branches of the home ports A00 to A02, then B00 to B02 (R12) -/
  homes : Vector HomePort 6
  /-- power class with which the PD of each of the 32 external ports, A then B, has answered the classification that its PSE's
  power follows (24 R494, R495; reset 9, DC 7) -/
  pd : Vector (Option Nat) 32
  /-- commands that wait, first in, first out (the block form of the model) -/
  pending : List Instr
  deriving DecidableEq, Repr


/-! ### The machine right after reset -/

/-- A mailbox after reset: IDLE, unnegotiated (R41, R47). -/
def Mailbox.cold : Mailbox :=
  { st := .idle, inBuf := [], outBuf := [], nego := none, stored := none, cmd := none, resp := none, notices := [],
    dropped := false, discard := false }

/-- The host port after reset (R38). -/
def HostPort.cold : HostPort :=
  { irqStatus := 0, irqEn := 0, err := 0, traceWp := 0, scratch := 0, restarts := 0, ready := false, dataOut := [],
    mbs := Vector.replicate 8 Mailbox.cold, order := [], coefJobs := [], waiting := [] }

/-- No session (R81). -/
def Session.cold : Session := { st := .closed, holder := none, items := [], job := none, handle := 0 }

/-- A factory part's flash, one power-up counted (R74, R82, R503). -/
def Flash.factory : Flash :=
  { recs := [], images := [], book := [], nextSeq := 1, sealed := false, wrong := 0, locked := false, sealRec := none,
    powerCycles := 1 }

/-- Time after reset: both times 0, NONE (R111, R112). -/
def Timebase.cold : Timebase := { loc := 0, glob := 0, frac := 0, sync := .none, rate := 0, slew := 0 }

/-- An accumulator after reset: 0 and INVALID (R117). -/
def Acc.cold : Acc :=
  { pos := 0, elecFix := 0, valid := false, speed := 0, base := 0, bound := 0, written := none }

/-- An empty delay list (R136). -/
def DelayList.cold : DelayList := { entries := [], inflight := [], resort := none, held := [], overflow := 0 }

/-- A disarmed compare unit (R136). -/
def CompareUnit.cold : CompareUnit :=
  { armed := false, target := 0, hits := 0, fire := none, waitBehind := false, below := false, fresh := false, inflight := [] }

/-- An EMPTY slot (R146). -/
def Slot.cold : Slot :=
  { st := .empty, hdr := [], nodes := [], links := [], succs := [], coef := [], state := [], runs := 0, lates := 0,
    fLate := false, fOverrun := false, shown := 0, consec := 0, pendTrig := none, pendLate := false, release := none,
    run := none, ckptDue := [], replies := [], stopper := none }

/-- The dispatcher after reset: every slot EMPTY (R159). -/
def Dispatcher.cold : Dispatcher :=
  { slots := Vector.replicate 64 Slot.cold, ready := [], entered := [], fresh := [], units := Vector.replicate 4 none, events := [],
    emits := [], setNow := [], cycle := 0 }

/-- PWM of a channel after reset: carrier stopped, duty shadows 0, switches off (R249). -/
def Pwm.cold : Pwm :=
  { running := false, firstWait := true, shadow := Vector.replicate 3 0, duty := Vector.replicate 3 0,
    width := Vector.replicate 3 0, start := Vector.replicate 3 0, grid := none, carry := Vector.replicate 3 0, length := 0,
    since := 0, fixedInt := Vector.replicate 3 false, thr := Vector.replicate 3 0,
    count := Vector.replicate 3 0, varAt := Vector.replicate 3 0, mask := 0, idx := 0,
    maskReq := none, stepReq := 0, cmd := 0,
    pendOn := 0, dead := 0, held := 0, latched := false, relAt := none, pulseCut := false }

/-- A channel of the gate-driver die after reset: every latch clear, every gate off (R275). -/
def Gate.cold : Gate :=
  { drive := Vector.replicate 6 .off, cmd := 0, blank := 0, short := 0, readback := 0, uvlo := 0, shoot := 0, floatLow := 0 }

/-- A conversion set that holds nothing. -/
def ConvSet.cold : ConvSet := { waiting := false, left := 0, content := 0, codes := [] }

/-- Sensing after reset (R293). -/
def Sense.cold : Sense :=
  { oCal := Vector.replicate 6 0, calFail := false, sets := Vector.replicate 2 ConvSet.cold, done := [], oc := 0 }

/-- An input filter after reset: nothing sampled (R295). -/
def InFilter.cold : InFilter := { pin := false, last := false, run := 0, level := none }

/-- A feedback channel after reset: idle, supply off (R319). -/
def Feedback.cold : Feedback :=
  { ins := Vector.replicate 3 InFilter.cold, sampled := false, running := false, supply := .off, settling := false, count := 0, a := false, b := false, z := false, armed := true,
    invalid := false, indexSeen := false, errRun := 0, okRun := 0, observer := false, window := [], total := 0, dir := 0,
    rev := 0, est := 0, lastAt := 0, stopped := false, sector := none, hall := none, ssiDue := false, burst := false, burstAt := 0, readyAt := 0, first := false,
    sampleAt := 0, spacing := 0, pos := 0, apply := none, esm := [] }

/-- The supervisor after reset: IDLE, unlocked, count 0 (R337). -/
def Supervisor.cold : Supervisor :=
  { drive := .idle, locked := false, good := 0, bad := 0, ref := none, last := none, fails := 0, off := false,
    due := false, lost := false, movedAt := none, start := false, fall := none, shown := .idle, say := false }

/-- Redundancy state after reset (R361). -/
def Redun.cold : Redun :=
  { badDesc := 0, partner := Vector.replicate 3 none, dropped := 0, flagged := 0, counts := Vector.replicate 3 0, excluded := false,
    probation := false, observing := none, disagree := false, ckptSeq := 0, mismatch := 0, takeover := none, planned := .none,
    commit := none, torn := false, health := 0, rotation := 0, gateFail := false, cmpFail := false }

/-- An axis channel after reset: DISABLED, all switches off. -/
def Axis.cold : Axis :=
  { role := .unused, enabled := false, safe := false, classA := false, pattern := .opened, patAuto := false,
    driving := false, profile := 0, rampDone := false,
    profileAt := 0, atHold := [], faultSrc := 0xFF, acc := Acc.cold, pwm := Pwm.cold, gate := Gate.cold, sense := Sense.cold,
    fb := Feedback.cold, sup := Supervisor.cold, red := Redun.cold }

/-- An auxiliary output after reset: off (R249). -/
def Aux.cold : Aux :=
  { running := false, firstWait := true, wait := false, since := 0, on := false, pulling := false, level := 0, width := 0, start := 0, grid := none, carry := 0,
    fixedInt := false, thr := 0, varAt := 0,
    cmd := false, latched := false, relAt := none, gcmd := false, gate := false }

/-- An encoder emulation output after reset: low (R319). -/
def Emul.cold : Emul := { running := false, count := 0, a := false, b := false, z := false, stepAt := none, lagging := false }

/-- The analog front end after reset: conversions stopped (R293). -/
def Afe.cold : Afe :=
  { running := false, queues := Vector.replicate 6 [], bg := Vector.replicate 6 0, now := Vector.replicate 6 .background,
    forced := Vector.replicate 6 false, rotAt := Vector.replicate 6 0, forceAt := Vector.replicate 6 none,
    auxCal := Vector.replicate 12 0, vbusCal := 0,
    refRun := Vector.replicate 6 0, refFail := 0, vbus := none, auxIn := Vector.replicate 12 0, busOv := false, trips := 0,
    calGood := true }

/-- The gate-driver die after reset: x_GDEN low by its pull-down, no group valid yet (R265, R521). -/
def GateDie.cold : GateDie :=
  { valid := 0, everValid := 0, uvlo := 0, gden := false, hbSeen := false, hbLost := false, heldLow := false }

/-- The collector after reset: no record, every bit 0 (R372). -/
def Collector.cold : Collector :=
  { first := none, overflow := false, seen := 0, raiseBits := 0, mask := 0, present := 0, invalid := 0, lines := [], checked := false, beat := false }

/-- The pair's checking logic after reset: delay stages and commit buffer empty, the signatures seeded (R382, R390). -/
def Lockstep.cold : Lockstep :=
  { cycles := 0, window := 0, done := 0, doneShadow := 0, closed := [], input := none, stage1 := none, stage2 := none, shadowIn := none, marker := 0, forward := none,
    sigPrimary := 0xFFFFFFFFFFFFFFFF, sigShadow := 0xFFFFFFFFFFFFFFFF, buffer := [], sent := none, stall := false,
    delay := false, disagree := false, failed := false, proved := false }

/-- The self-test controller after reset: no run, no seal. -/
def SelfTest.cold : SelfTest := { run := none, sealState := .none, untested := 0x00FFFFFF, carried := 0, tested := false }

/-- A lane link after reset: the partner's line reads 01, the link is down (R15, R30). -/
def Link.cold : Link :=
  { line := .r01, everAlive := false, alive := false, active := false, up := false, everUp := false, cameUp := false, gotTime := false,
    rxSeq := Vector.replicate 4 none, discards := 0, txSeq := Vector.replicate 4 0, txq := Vector.replicate 4 [],
    wire := none, lostTx := 0, heard := 0 }

/-- A channel after reset: its Green absent, its ports UNKNOWN (R92, R413). -/
def Channel.cold : Channel :=
  { view := .absent, gotNow := false, gotPrev := false, missed := 0, lanesNow := 0, lanesPrev := 0, discards := 0, delays := [], latest := none, off := none,
    ports := Vector.replicate 16 .unknown, counters := Vector.replicate 16 (List.replicate 8 0), statusAge := none, statusAt := 0,
    instCrc := 0, instId := 0, download := none, cascade := none }

/-- The network side after reset: LISTEN (R437). -/
def Net.cold : Net :=
  { chan := Vector.replicate 2 Channel.cold, integ := .listen, master := false, cycle := 0, cycleAt := 0, inState := 0,
    goodRun := 0, limitRun := 0, quiet := 0, lowerHeard := false, lowerAge := 0, lastOff := 0, skews := 0, copyMismatch := 0, copies := [], hold := .none,
    svcSeen := 0, svcDrops := 0, sent := [], svcOut := [], packed := [], trunkSeen := 0, trunkLost := 0, trunkEnded := 0,
    trunkNow := 0, trunkMissed := Vector.replicate 4 0, arrNow := 0, arrivals := [] }

/-- A CLOSED endpoint (R456). -/
def Endpoint.cold : Endpoint :=
  { st := .closed, version := 0, counters := Vector.replicate 6 0, seq := none, payload := none, inHold := false, kept := false, watch := false, heldFlag := false,
    okRun := 0, staging := [], complete := none, stale := false, offer := none }

/-- An input pair after reset: cause START, safe value (R468). -/
def Pair.cold : Pair :=
  { cause := 5, forced := true, value := false, causeAt := none, f1 := false, f2 := false, r1 := false, r2 := false, n1 := 0, n2 := 0,
    discr := false, rejects := [], restart := false, restartDone := false, cleared := false, tested := 0 }

/-- The inputs after reset. -/
def Inputs.cold : Inputs := { pairs := Vector.replicate 16 Pair.cold, pulsing := false, low := none, exclTo := 0 }

/-- A STOPPED channel (R487). -/
def StreamCh.cold : StreamCh :=
  { st := .stopped, cause := .none, haltBeat := 0, haltAddr := 0, beat := 0, srcAt := 0, dstAt := 0, retries := 0,
    nextSrc := 0, holding := [], incoming := [], latch := none, pendTrig := false, noResume := false, half := false, walking := none }

/-- The stream engine after reset (R492). -/
def Streams.cold : Streams := { chans := Vector.replicate 16 StreamCh.cold, tlb := [], last := 15 }

/-- The memories after a power-on reset. -/
def Memories.cold : Memories := { trace := [], stream := [], granary := [], health := Vector.replicate 36 0 }

/-- The Almanac of LANE_INIT: generation 0, ROM contents (R73). -/
def Almanac.cold : Almanac := { generation := 0, entries := [] }

/-- The test access port after its reset (R527). -/
def Tap.cold : Tap := { ir := .idcode, pins := false, scan := [], preload := [] }

/-- Lane control right after a power-on reset: LANE_INIT, device mode OFF, x_RUN not yet high (R38, R502). -/
def Sys.cold : Sys :=
  { lstate := .init, mode := .off, under := .off, powered := true, inReset := false, parked := false, run := false,
    pwrHold := false, rejoining := false, rejoinTime := false, rejoined := false, autoClear := false,
    laneRecBad := false, bad := [], halted := false, hot := 0, wasActive := false, drove := 0, badClocks := 0, railBad := false, portLost := 0, stuck := false }

/-- A lane right after a power-on reset. -/
def Lane.cold (l : LaneId) : Lane :=
  { idx := l, sys := Sys.cold, hp := HostPort.cold, ses := Session.cold, fl := Flash.factory, tm := Timebase.cold,
    dls := Vector.replicate 16 DelayList.cold, cus := Vector.replicate 24 CompareUnit.cold, dsp := Dispatcher.cold,
    ax := Vector.replicate 12 Axis.cold, aux := Vector.replicate 8 Aux.cold, emu := Vector.replicate 2 Emul.cold,
    afe := Afe.cold, gd := GateDie.cold, fc := Collector.cold, lk := Lockstep.cold, tst := SelfTest.cold,
    links := Vector.replicate 3 Link.cold, net := Net.cold, eps := Vector.replicate 512 Endpoint.cold, inp := Inputs.cold,
    str := Streams.cold, mem := Memories.cold, alm := Almanac.cold, tap := Tap.cold, free := 0 }

/-- A Green port after reset: DOWN (R424). -/
def GPort.cold : GPort :=
  { st := .down, shut := false, counters := Vector.replicate 8 0, viols := [], clean := 0, hit := false, miss := false,
    devPrev := none, devNow := none, delays := [], pma := some .master }

/-- A Green right after a power-on reset of a factory part: external ports DOWN, lane ports OPEN, no schedule, not
synchronised (R420, R424, R441). -/
def Green.cold : Green :=
  { powered := true, clockOk := true, testPin := false, hot := false,
    ports := Vector.replicate 16 GPort.cold ++ Vector.replicate 3 { GPort.cold with st := .opened, pma := none },
    sched := none, section8 := [], dlCrc := 0, cascade := none, chunks := [], synced := false, refT := 0, refG := 0,
    rate := 0, slew := 0, cycle := 0, cycleAt := 0, cycles := 0, block := none, arb := none, lastFwd := [], follow := none,
    coldNow := false, quiet := 0, arriving := [], statusPort := 0, egress := [], free := 0 }

/-- The device right after a power-on reset of every region, no command waiting (notes/assumptions/4.md). -/
def State.reset : State :=
  { lanes := #v[Lane.cold 0, Lane.cold 1, Lane.cold 2], greens := Vector.replicate 2 Green.cold,
    homes := Vector.replicate 6 { laneTrip := false, starTrip := false },
    pd := Vector.replicate 32 (some 9), pending := [] }

end Sys2Proof.Machine
end

