-- ==== Sys2Proof/Machine/Ops.lean ====
section
/-! DEFINITION. The plain operations the meanings share: reading and writing one place of a vector, bits, bytes in the
order of R6, CRC-32C (R7), SHA-256 (R83), memories in their canonical form, and free values. -/

namespace Sys2Proof.Machine

/-! ### Places of vectors, bits -/

/-- Entry `i` of a vector. -/
def vget {α : Type} {n : Nat} (v : Vector α n) (i : Fin n) : α := v[i.val]

/-- The vector with entry `i` replaced. -/
def vset {α : Type} {n : Nat} (v : Vector α n) (i : Fin n) (x : α) : Vector α n := v.set i.val x i.isLt

/-- The vector with entry `i` changed by `f`. -/
def vmod {α : Type} {n : Nat} (v : Vector α n) (i : Fin n) (f : α → α) : Vector α n := vset v i (f (vget v i))

/-- Every index of a vector of length `n`, rising. -/
def idxs (n : Nat) : List (Fin n) := List.finRange n

/-- An index made from a number, taken modulo `n + 1`. -/
def fin {n : Nat} (k : Nat) : Fin (n + 1) := Fin.ofNat (n + 1) k

/-- Bit `i` of a word (R5). -/
def bit {w : Nat} (v : BitVec w) (i : Nat) : Bool := v.getLsbD i

/-- The word with bit `i` set to `b`. -/
def bitPut {w : Nat} (v : BitVec w) (i : Nat) (b : Bool) : BitVec w :=
  if b then v ||| BitVec.ofNat w (2 ^ i) else v &&& ~~~ BitVec.ofNat w (2 ^ i)

/-- Bit `i` of a number. -/
def natBit (n i : Nat) : Bool := n / 2 ^ i % 2 = 1

/-- Bits `[lo + w - 1 : lo]` of a number. -/
def natBits (n lo w : Nat) : Nat := n / 2 ^ lo % 2 ^ w

/-- A truth value as a number. -/
def b2n (b : Bool) : Nat := if b then 1 else 0

/-- A counter that stays at `cap`. -/
def satInc (n cap : Nat) : Nat := if n < cap then n + 1 else cap

/-! ### Bytes in the order of R6 -/

/-- The low `n` bytes of `v`, least significant first (R6). -/
def leBytes : Nat → Nat → Bytes
  | 0, _ => []
  | n + 1, v => BitVec.ofNat 8 v :: leBytes n (v / 256)

/-- The value of bytes that hold the least significant first (R6). -/
def ofLe : Bytes → Nat
  | [] => 0
  | b :: bs => b.toNat + 256 * ofLe bs

/-- `n` bytes from offset `off`; bytes past the end read 0. -/
def slice (bs : Bytes) (off n : Nat) : Bytes :=
  let t := (bs.drop off).take n
  t ++ List.replicate (n - t.length) 0

/-- The `n`-byte field at offset `off` (R6). -/
def fieldAt (bs : Bytes) (off n : Nat) : Nat := ofLe (slice bs off n)

/-- Two's complement reading of a `w`-bit number. -/
def toSigned (w v : Nat) : Int := if 2 ^ (w - 1) ≤ v then (v : Int) - 2 ^ w else v

/-- The `w`-bit pattern of an integer. -/
def ofSigned (w : Nat) (v : Int) : Nat := (v % (2 ^ w : Nat)).toNat

/-- Bytes with those from `off` replaced by `new`, the length unchanged. -/
def putAt (bs : Bytes) (off : Nat) (new : Bytes) : Bytes :=
  bs.take off ++ new ++ bs.drop (off + new.length)

/-! ### CRC-32C -/

/-- One bit of the reflected CRC-32C, polynomial 0x1EDC_6F41 (R7). -/
def crcBit (c : Nat) : Nat := if c % 2 = 1 then (c / 2) ^^^ 0x82F63B78 else c / 2

/-- One byte of CRC-32C. -/
def crcByte (c : Nat) (b : Byte) : Nat :=
  crcBit (crcBit (crcBit (crcBit (crcBit (crcBit (crcBit (crcBit (c ^^^ b.toNat))))))))

/-- CRC-32C of a run of bytes (R7). -/
def crc32c (bs : Bytes) : Nat := (bs.foldl crcByte 0xFFFFFFFF) ^^^ 0xFFFFFFFF

/-! ### SHA-256, from the standard that R83 names (notes/assumptions/12.md) -/

/-- Primes below 320, in order: the first 64 give the round constants. -/
def shaPrimes : List Nat :=
  (List.range 312).filter fun n => 2 ≤ n ∧ (List.range n).all fun d => d < 2 ∨ n % d ≠ 0

/-- The greatest `r` below `2 ^ k` above `acc` with `r ^ p ≤ n`, bit by bit. -/
def shaRoot (p n : Nat) : Nat → Nat → Nat
  | 0, acc => acc
  | k + 1, acc => let t := acc + 2 ^ k; if t ^ p ≤ n then shaRoot p n k t else shaRoot p n k acc

/-- Round constants: the first 32 bits of the fraction of the cube root of each prime. -/
def shaK : List W32 := shaPrimes.map fun q => BitVec.ofNat 32 (shaRoot 3 (q * 2 ^ 96) 40 0)

/-- Initial words: the first 32 bits of the fraction of the square root of the first eight primes. -/
def shaInit : List W32 := (shaPrimes.take 8).map fun q => BitVec.ofNat 32 (shaRoot 2 (q * 2 ^ 64) 40 0)

/-- A 32-bit word from four bytes, most significant first. -/
def shaWord (bs : Bytes) : W32 := BitVec.ofNat 32 (ofLe (slice bs 0 4).reverse)

/-- The message cut into blocks of 16 words. -/
def shaBlocks : Nat → Bytes → List (List W32)
  | 0, _ => []
  | n + 1, bs => ((List.range 16).map fun i => shaWord (bs.drop (4 * i))) :: shaBlocks n (bs.drop 64)

/-- The message schedule: 64 words, newest first while it is built. -/
def shaSchedule : Nat → List W32 → List W32
  | 0, w => w.reverse
  | n + 1, w =>
    let a := w.getD 1 0
    let b := w.getD 14 0
    let s1 := (a.rotateRight 17) ^^^ (a.rotateRight 19) ^^^ (a >>> 10)
    let s0 := (b.rotateRight 7) ^^^ (b.rotateRight 18) ^^^ (b >>> 3)
    shaSchedule n ((s1 + w.getD 6 0 + s0 + w.getD 15 0) :: w)

/-- One round. -/
def shaRound (v : List W32) (kw : W32 × W32) : List W32 :=
  let a := v.getD 0 0; let b := v.getD 1 0; let c := v.getD 2 0; let d := v.getD 3 0
  let e := v.getD 4 0; let f := v.getD 5 0; let g := v.getD 6 0; let h := v.getD 7 0
  let t1 := h + ((e.rotateRight 6) ^^^ (e.rotateRight 11) ^^^ (e.rotateRight 25)) + ((e &&& f) ^^^ ((~~~ e) &&& g)) +
    kw.1 + kw.2
  let t2 := ((a.rotateRight 2) ^^^ (a.rotateRight 13) ^^^ (a.rotateRight 22)) + ((a &&& b) ^^^ (a &&& c) ^^^ (b &&& c))
  [t1 + t2, a, b, c, d + t1, e, f, g]

/-- SHA-256 of a run of bytes (R83). -/
def sha256 (bs : Bytes) : Bytes :=
  let len := bs.length
  let n := (len + 9 + 63) / 64
  let padded := bs ++ [0x80] ++ List.replicate (64 * n - len - 9) 0 ++ (leBytes 8 (8 * len)).reverse
  let out := (shaBlocks n padded).foldl (fun h blk =>
    let r := (shaK.zip (shaSchedule 48 blk.reverse)).foldl shaRound h
    (h.zip r).map fun p => p.1 + p.2) shaInit
  out.flatMap fun w => (leBytes 4 w.toNat).reverse

/-! ### Memories -/

/-- What an unlisted address of a memory reads as (notes/assumptions/6.md). -/
def memDefault : Byte := 0

/-- The canonical form of a memory: addresses strictly rising, no entry that an unlisted address would read as. -/
def memOk : Mem → Bool
  | [] => true
  | [c] => c.2 != memDefault
  | c :: d :: m => c.2 != memDefault && c.1 < d.1 && memOk (d :: m)

/-- One byte of a memory. -/
def memRead : Mem → Nat → Byte
  | [], _ => memDefault
  | c :: m, a => if c.1 = a then c.2 else memRead m a

/-- One byte written, the canonical form kept. -/
def memWrite : Mem → Nat → Byte → Mem
  | [], a, b => if b = memDefault then [] else [(a, b)]
  | c :: m, a, b =>
    if a < c.1 then (if b = memDefault then c :: m else (a, b) :: c :: m)
    else if a = c.1 then (if b = memDefault then m else (a, b) :: m)
    else c :: memWrite m a b

/-- `n` bytes from address `a`. -/
def memReadN (m : Mem) (a : Nat) : Nat → Bytes
  | 0 => []
  | n + 1 => memRead m a :: memReadN m (a + 1) n

/-- Bytes written from address `a` upwards. -/
def memWriteN (m : Mem) (a : Nat) : Bytes → Mem
  | [] => m
  | b :: bs => memWriteN (memWrite m a b) (a + 1) bs

/-- Words written from an index of a word area upwards; an index past its end writes nothing. -/
def putWords (st : List W32) (i : Nat) : List W32 → List W32
  | [] => st
  | w :: ws => putWords (st.set i w) (i + 1) ws

/-! ### Lanes and Greens of the state -/

/-- Lane `l`. -/
def State.lane (s : State) (l : LaneId) : Lane := vget s.lanes l

/-- Green `g`. -/
def State.green (s : State) (g : GreenId) : Green := vget s.greens g

/-- The state with lane `l` replaced. -/
def State.setLane (s : State) (l : LaneId) (x : Lane) : State := { s with lanes := vset s.lanes l x }

/-- The state with Green `g` changed. -/
def State.onGreen (s : State) (g : GreenId) (f : Green → Green) : State := { s with greens := vmod s.greens g f }

/-! ### Parts of a lane -/

/-- Axis channel `nn`. -/
def Lane.axis (l : Lane) (nn : AxisId) : Axis := vget l.ax nn

/-- The lane with axis channel `nn` changed. -/
def Lane.onAxis (l : Lane) (nn : AxisId) (f : Axis → Axis) : Lane := { l with ax := vmod l.ax nn f }

/-- Slot `k` of the dispatcher. -/
def Lane.slot (l : Lane) (k : Fin 64) : Slot := vget l.dsp.slots k

/-- The lane with a slot changed. -/
def Lane.onSlot (l : Lane) (k : Fin 64) (f : Slot → Slot) : Lane :=
  { l with dsp := { l.dsp with slots := vmod l.dsp.slots k f } }

/-- Mailbox `m`. -/
def Lane.mb (l : Lane) (m : MbId) : Mailbox := vget l.hp.mbs m

/-- The lane with a mailbox changed. -/
def Lane.onMb (l : Lane) (m : MbId) (f : Mailbox → Mailbox) : Lane :=
  { l with hp := { l.hp with mbs := vmod l.hp.mbs m f } }

/-- The lane with the link to lane `k` changed. -/
def Lane.onLink (l : Lane) (k : LaneId) (f : Link → Link) : Lane := { l with links := vmod l.links k f }

/-- The lane with a channel of the network changed. -/
def Lane.onChan (l : Lane) (g : GreenId) (f : Channel → Channel) : Lane :=
  { l with net := { l.net with chan := vmod l.net.chan g f } }

/-- The lane with a safety endpoint changed. -/
def Lane.onEp (l : Lane) (e : Fin 512) (f : Endpoint → Endpoint) : Lane := { l with eps := vmod l.eps e f }

/-- The lane with a stream channel changed. -/
def Lane.onStream (l : Lane) (c : Fin 16) (f : StreamCh → StreamCh) : Lane :=
  { l with str := { l.str with chans := vmod l.str.chans c f } }

/-- The lane with an input pair changed. -/
def Lane.onPair (l : Lane) (k : Fin 16) (f : Pair → Pair) : Lane :=
  { l with inp := { l.inp with pairs := vmod l.inp.pairs k f } }

/-- A free value of the lane: a number below `n` that nothing constrains (below 1 it is 0). -/
def Lane.freeBelow (l : Lane) (n : Nat) : Nat := Config.freeNat l.idx l.free % n

/-- The lane with one free value used up. -/
def Lane.useFree (l : Lane) : Lane := { l with free := l.free + 1 }

/-- The device axis of channel `nn` of a lane (R4). -/
def Lane.dev (l : Lane) (nn : AxisId) : Nat := deviceAxis l.idx nn

/-- The channel of this lane that a device axis names, if it names one (R4). -/
def Lane.ownAxis (l : Lane) (a : Nat) : Option AxisId :=
  if a / 12 = l.idx.val ∧ a < 36 then some (channelOfAxis a) else none

/-- The group of a member is INCONSISTENT (R342). -/
def Redun.incons (d : Redun) : Bool := d.badDesc ≠ 0

/-- Changes applied in turn, one for each member of a list. -/
def each {α β : Type} (xs : List α) (f : α → β → β) (b : β) : β := xs.foldl (fun b x => f x b) b

end Sys2Proof.Machine
end

