-- ==== Sys2Proof/Machine/Records.lean ====
section
/-! DEFINITION. The configuration records: the fields of every record type by offset, their defaults, and the records in
force (R10, R74 to R76, R80). -/

namespace Sys2Proof.Machine

/-! ### The lane record, type 1, 128 bytes (R103, R291, R368, R406, R427) -/

/-- Offset 0x10, 4 bytes. -/
def scheduleId (r : Bytes) : Nat := fieldAt r 0x10 4
/-- Offset 0x14, 1 bytes. -/
def cycleSteps (r : Bytes) : Nat := fieldAt r 0x14 1
/-- Offset 0x15, 1 bytes. -/
def violLimit (r : Bytes) : Nat := fieldAt r 0x15 1
/-- Offset 0x16, 1 bytes. -/
def violCycles (r : Bytes) : Nat := fieldAt r 0x16 1
/-- Offset 0x17, 1 bytes. -/
def reopenCycles (r : Bytes) : Nat := fieldAt r 0x17 1
/-- Offset 0x18, 8 bytes. -/
def serviceConns (r : Bytes) : Nat := fieldAt r 0x18 8
/-- Offset 0x20, 2 bytes. -/
def svcTimeoutMs (r : Bytes) : Nat := fieldAt r 0x20 2
/-- Offset 0x30, 1 bytes. -/
def rank (r : Bytes) : Nat := fieldAt r 0x30 1
/-- Offset 0x31, 1 bytes. -/
def timeFlags (r : Bytes) : Nat := fieldAt r 0x31 1
/-- Offset 0x32, 2 bytes. -/
def passiveLimitNs (r : Bytes) : Nat := fieldAt r 0x32 2
/-- Offset 0x34, 2 bytes. -/
def rateLimitPpm (r : Bytes) : Nat := fieldAt r 0x34 2
/-- Offset 0x36, 1 bytes. -/
def listenCycles (r : Bytes) : Nat := fieldAt r 0x36 1
/-- Offset 0x37, 1 bytes. -/
def coldstartCycles (r : Bytes) : Nat := fieldAt r 0x37 1
/-- Offset 0x38, 1 bytes. -/
def masterLossCycles (r : Bytes) : Nat := fieldAt r 0x38 1
/-- Offset 0x40, 2 bytes. -/
def holdMs (r : Bytes) : Nat := fieldAt r 0x40 2
/-- Offset 0x42, 2 bytes. -/
def rampMs (r : Bytes) : Nat := fieldAt r 0x42 2
/-- Offset 0x44, 8 bytes. -/
def lossProfiles (r : Bytes) : Nat := fieldAt r 0x44 8
/-- Offset 0x4C, 1 bytes. -/
def rejoinMode (r : Bytes) : Nat := fieldAt r 0x4C 1
/-- Offset 0x4D, 1 bytes. -/
def rejoinFlags (r : Bytes) : Nat := fieldAt r 0x4D 1
/-- Offset 0x4E, 2 bytes. -/
def rejoinDelayMs (r : Bytes) : Nat := fieldAt r 0x4E 2
/-- Offset 0x50, 2 bytes. -/
def rejoinObserve (r : Bytes) : Nat := fieldAt r 0x50 2
/-- Offset 0x52, 1 bytes. -/
def greenLossCycles (r : Bytes) : Nat := fieldAt r 0x52 1
/-- Offset 0x60, 2 bytes. -/
def auxGain10 (r : Bytes) : Nat := fieldAt r 0x60 2
/-- Offset 0x62, 2 bytes. -/
def busOvDv (r : Bytes) : Nat := fieldAt r 0x62 2
/-- Offset 0x64, 2 bytes. -/
def busMinDv (r : Bytes) : Nat := fieldAt r 0x64 2
/-- Offset 0x66, 2 bytes. -/
def auxPeriodUs (r : Bytes) : Nat := fieldAt r 0x66 2
/-- Offset 0x68, 2 bytes. -/
def emitEnable (r : Bytes) : Nat := fieldAt r 0x68 2
/-- Offset 0x70, 16 bytes. -/
def raiseField (r : Bytes) : Nat := fieldAt r 0x70 16

/-- The Default column of the lane record: offset, size, value. -/
def laneDefaults : List (Nat × Nat × Nat) :=
  [(0x14, 1, 4), (0x15, 1, 3), (0x16, 1, 16), (0x17, 1, 8), (0x20, 2, 1000), (0x30, 1, 255),
   (0x32, 2, 200), (0x34, 2, 200), (0x36, 1, 8), (0x37, 1, 4), (0x38, 1, 2), (0x40, 2, 500),
   (0x42, 2, 2000), (0x4C, 1, 1), (0x4E, 2, 100), (0x50, 2, 64), (0x52, 1, 3), (0x62, 2, 1300),
   (0x64, 2, 200), (0x66, 2, 100)]

/-! ### The axis record, type 2, 256 bytes (R231, R255, R291, R297, R322, R340) -/

/-- Offset 0x10, 1 bytes. -/
def cfgRole (r : Bytes) : Nat := fieldAt r 0x10 1
/-- Offset 0x11, 1 bytes. -/
def peer0 (r : Bytes) : Nat := fieldAt r 0x11 1
/-- Offset 0x12, 1 bytes. -/
def peer1 (r : Bytes) : Nat := fieldAt r 0x12 1
/-- Offset 0x13, 1 bytes. -/
def triCount (r : Bytes) : Nat := fieldAt r 0x13 1
/-- Offset 0x14, 4 bytes. -/
def triTol (r : Bytes) : Nat := fieldAt r 0x14 4
/-- Offset 0x18, 1 bytes. -/
def monMode (r : Bytes) : Nat := fieldAt r 0x18 1
/-- Offset 0x19, 1 bytes. -/
def mismatchCount (r : Bytes) : Nat := fieldAt r 0x19 1
/-- Offset 0x1A, 2 bytes. -/
def monAngleTol (r : Bytes) : Nat := fieldAt r 0x1A 2
/-- Offset 0x1C, 2 bytes. -/
def monSpeedTol (r : Bytes) : Nat := fieldAt r 0x1C 2
/-- Offset 0x1E, 2 bytes. -/
def monOffset (r : Bytes) : Nat := fieldAt r 0x1E 2
/-- Offset 0x20, 2 bytes. -/
def ckptAgeUs (r : Bytes) : Nat := fieldAt r 0x20 2
/-- Offset 0x22, 1 bytes. -/
def staleAction (r : Bytes) : Nat := fieldAt r 0x22 1
/-- Offset 0x23, 1 bytes. -/
def standbyFlags (r : Bytes) : Nat := fieldAt r 0x23 1
/-- Offset 0x24, 2 bytes. -/
def takeWaitUs (r : Bytes) : Nat := fieldAt r 0x24 2
/-- Offset 0x26, 2 bytes. -/
def testMs (r : Bytes) : Nat := fieldAt r 0x26 2
/-- Offset 0x30, 1 bytes. -/
def carrier (r : Bytes) : Nat := fieldAt r 0x30 1
/-- Offset 0x31, 1 bytes. -/
def pwmFlags (r : Bytes) : Nat := fieldAt r 0x31 1
/-- Offset 0x32, 1 bytes. -/
def tripMask (r : Bytes) : Nat := fieldAt r 0x32 1
/-- Offset 0x33, 1 bytes. -/
def tripMode (r : Bytes) : Nat := fieldAt r 0x33 1
/-- Offset 0x34, 4 bytes. -/
def periodCycles (r : Bytes) : Nat := fieldAt r 0x34 4
/-- Offset 0x38, 2 bytes. -/
def deadA (r : Bytes) : Nat := fieldAt r 0x38 2
/-- Offset 0x3A, 2 bytes. -/
def deadB (r : Bytes) : Nat := fieldAt r 0x3A 2
/-- Offset 0x3C, 2 bytes. -/
def deadC (r : Bytes) : Nat := fieldAt r 0x3C 2
/-- Offset 0x3E, 2 bytes. -/
def minPulseNs (r : Bytes) : Nat := fieldAt r 0x3E 2
/-- Offset 0x40, 4 bytes. -/
def tFixedNs (r : Bytes) : Nat := fieldAt r 0x40 4
/-- Offset 0x44, 4 bytes. -/
def tLimitNs (r : Bytes) : Nat := fieldAt r 0x44 4
/-- Offset 0x48, 1 bytes. -/
def maskInit (r : Bytes) : Nat := fieldAt r 0x48 1
/-- Offset 0x49, 1 bytes. -/
def maskSteps (r : Bytes) : Nat := fieldAt r 0x49 1
/-- Offset 0x50, 4 bytes. -/
def offsetCycles (r : Bytes) : Nat := fieldAt r 0x50 4
/-- Offset 0x54, 1 bytes. -/
def pwmTimebase (r : Bytes) : Nat := fieldAt r 0x54 1
/-- Offset 0x70, 1 bytes. -/
def srcStep (r : Bytes) : Nat := fieldAt r 0x70 1
/-- Offset 0x71, 1 bytes. -/
def snkStep (r : Bytes) : Nat := fieldAt r 0x71 1
/-- Offset 0x72, 1 bytes. -/
def softStep (r : Bytes) : Nat := fieldAt r 0x72 1
/-- Offset 0x73, 1 bytes. -/
def gateFlags (r : Bytes) : Nat := fieldAt r 0x73 1
/-- Offset 0x74, 2 bytes. -/
def scMv (r : Bytes) : Nat := fieldAt r 0x74 2
/-- Offset 0x76, 2 bytes. -/
def blankNs (r : Bytes) : Nat := fieldAt r 0x76 2
/-- Offset 0x78, 2 bytes. -/
def scellMv (r : Bytes) : Nat := fieldAt r 0x78 2
/-- Offset 0x7A, 2 bytes. -/
def scellFastMv (r : Bytes) : Nat := fieldAt r 0x7A 2
/-- Offset 0x7C, 1 bytes. -/
def tltoLevel (r : Bytes) : Nat := fieldAt r 0x7C 1
/-- Offset 0x7D, 1 bytes. -/
def tltoTime (r : Bytes) : Nat := fieldAt r 0x7D 1
/-- Offset 0x7E, 2 bytes. -/
def rbNs (r : Bytes) : Nat := fieldAt r 0x7E 2
/-- Offset 0x80, 1 bytes. -/
def uvloHs (r : Bytes) : Nat := fieldAt r 0x80 1
/-- Offset 0x90, 1 bytes. -/
def gain (r : Bytes) : Nat := fieldAt r 0x90 1
/-- Offset 0x91, 1 bytes. -/
def senseFlags (r : Bytes) : Nat := fieldAt r 0x91 1
/-- Offset 0x92, 1 bytes. -/
def set0Trigger (r : Bytes) : Nat := fieldAt r 0x92 1
/-- Offset 0x93, 1 bytes. -/
def set0Content (r : Bytes) : Nat := fieldAt r 0x93 1
/-- Offset 0x94, 4 bytes. -/
def set0Position (r : Bytes) : Nat := fieldAt r 0x94 4
/-- Offset 0x98, 1 bytes. -/
def set1Trigger (r : Bytes) : Nat := fieldAt r 0x98 1
/-- Offset 0x99, 1 bytes. -/
def set1Content (r : Bytes) : Nat := fieldAt r 0x99 1
/-- Offset 0x9C, 4 bytes. -/
def set1Position (r : Bytes) : Nat := fieldAt r 0x9C 4
/-- Offset 0xA0, 2 bytes. -/
def ocPos (r : Bytes) : Nat := fieldAt r 0xA0 2
/-- Offset 0xA2, 2 bytes. -/
def ocNeg (r : Bytes) : Nat := fieldAt r 0xA2 2
/-- Offset 0xA4, 2 bytes. -/
def ocFilterNs (r : Bytes) : Nat := fieldAt r 0xA4 2
/-- Offset 0xA6, 2 bytes. -/
def offsetA (r : Bytes) : Nat := fieldAt r 0xA6 2
/-- Offset 0xA8, 2 bytes. -/
def offsetB (r : Bytes) : Nat := fieldAt r 0xA8 2
/-- Offset 0xAA, 2 bytes. -/
def offsetC (r : Bytes) : Nat := fieldAt r 0xAA 2
/-- Offset 0xB0, 1 bytes. -/
def protocol (r : Bytes) : Nat := fieldAt r 0xB0 1
/-- Offset 0xB1, 1 bytes. -/
def fbFlags (r : Bytes) : Nat := fieldAt r 0xB1 1
/-- Offset 0xB2, 1 bytes. -/
def angleSource (r : Bytes) : Nat := fieldAt r 0xB2 1
/-- Offset 0xB3, 1 bytes. -/
def polePairs (r : Bytes) : Nat := fieldAt r 0xB3 1
/-- Offset 0xB4, 4 bytes. -/
def elecOffset (r : Bytes) : Nat := fieldAt r 0xB4 4
/-- Offset 0xB8, 4 bytes. -/
def cpr (r : Bytes) : Nat := fieldAt r 0xB8 4
/-- Offset 0xBC, 4 bytes. -/
def indexCount (r : Bytes) : Nat := fieldAt r 0xBC 4
/-- Offset 0xC0, 1 bytes. -/
def indexMode (r : Bytes) : Nat := fieldAt r 0xC0 1
/-- Offset 0xC1, 1 bytes. -/
def zGate (r : Bytes) : Nat := fieldAt r 0xC1 1
/-- Offset 0xC2, 2 bytes. -/
def indexTol (r : Bytes) : Nat := fieldAt r 0xC2 2
/-- Offset 0xC4, 1 bytes. -/
def filterCycles (r : Bytes) : Nat := fieldAt r 0xC4 1
/-- Offset 0xC5, 1 bytes. -/
def errLimit (r : Bytes) : Nat := fieldAt r 0xC5 1
/-- Offset 0xC6, 1 bytes. -/
def recCount (r : Bytes) : Nat := fieldAt r 0xC6 1
/-- Offset 0xC7, 1 bytes. -/
def ssiTrigger (r : Bytes) : Nat := fieldAt r 0xC7 1
/-- Offset 0xC8, 2 bytes. -/
def timeout10us (r : Bytes) : Nat := fieldAt r 0xC8 2
/-- Offset 0xCA, 2 bytes. -/
def stopMs (r : Bytes) : Nat := fieldAt r 0xCA 2
/-- Offset 0xCC, 2 bytes. -/
def speedWindowUs (r : Bytes) : Nat := fieldAt r 0xCC 2
/-- Offset 0xCE, 2 bytes. -/
def ssiKhz (r : Bytes) : Nat := fieldAt r 0xCE 2
/-- Offset 0xD0, 1 bytes. -/
def stBits (r : Bytes) : Nat := fieldAt r 0xD0 1
/-- Offset 0xD1, 1 bytes. -/
def mtBits (r : Bytes) : Nat := fieldAt r 0xD1 1
/-- Offset 0xD2, 1 bytes. -/
def errBit (r : Bytes) : Nat := fieldAt r 0xD2 1
/-- Offset 0xD3, 1 bytes. -/
def errLevel (r : Bytes) : Nat := fieldAt r 0xD3 1
/-- Offset 0xD4, 1 bytes. -/
def ssiStatus (r : Bytes) : Nat := fieldAt r 0xD4 1
/-- Offset 0xD5, 1 bytes. -/
def ssiCrc (r : Bytes) : Nat := fieldAt r 0xD5 1
/-- Offset 0xD6, 1 bytes. -/
def monoUs (r : Bytes) : Nat := fieldAt r 0xD6 1
/-- Offset 0xD7, 1 bytes. -/
def sentNibbles (r : Bytes) : Nat := fieldAt r 0xD7 1
/-- Offset 0xD8, 2 bytes. -/
def sentTickNs (r : Bytes) : Nat := fieldAt r 0xD8 2
/-- Offset 0xDA, 1 bytes. -/
def sentEsm (r : Bytes) : Nat := fieldAt r 0xDA 1
/-- Offset 0xDB, 1 bytes. -/
def sentDiagId (r : Bytes) : Nat := fieldAt r 0xDB 1
/-- Offset 0xE0, 1 bytes. -/
def safeState (r : Bytes) : Nat := fieldAt r 0xE0 1
/-- Offset 0xE1, 1 bytes. -/
def startMode (r : Bytes) : Nat := fieldAt r 0xE1 1
/-- Offset 0xE2, 1 bytes. -/
def commFlags (r : Bytes) : Nat := fieldAt r 0xE2 1
/-- Offset 0xE3, 1 bytes. -/
def modeList (r : Bytes) : Nat := fieldAt r 0xE3 1
/-- Offset 0xE4, 2 bytes. -/
def modeTag (r : Bytes) : Nat := fieldAt r 0xE4 2
/-- Offset 0xE6, 2 bytes. -/
def catchUs (r : Bytes) : Nat := fieldAt r 0xE6 2
/-- Offset 0xE8, 2 bytes. -/
def lockTol (r : Bytes) : Nat := fieldAt r 0xE8 2
/-- Offset 0xEA, 1 bytes. -/
def lockCount (r : Bytes) : Nat := fieldAt r 0xEA 1
/-- Offset 0xEB, 1 bytes. -/
def lossCount (r : Bytes) : Nat := fieldAt r 0xEB 1
/-- Offset 0xEC, 2 bytes. -/
def writeTimeoutUs (r : Bytes) : Nat := fieldAt r 0xEC 2
/-- Offset 0xEE, 1 bytes. -/
def coastPeriods (r : Bytes) : Nat := fieldAt r 0xEE 1
/-- Offset 0xEF, 1 bytes. -/
def acqMs (r : Bytes) : Nat := fieldAt r 0xEF 1
/-- Offset 0xF0, 2 bytes. -/
def hfiEnterDhz (r : Bytes) : Nat := fieldAt r 0xF0 2
/-- Offset 0xF2, 2 bytes. -/
def hfiExitDhz (r : Bytes) : Nat := fieldAt r 0xF2 2
/-- Offset 0xF4, 2 bytes. -/
def coastMinDhz (r : Bytes) : Nat := fieldAt r 0xF4 2
/-- Offset 0xF6, 2 bytes. -/
def catchMinDhz (r : Bytes) : Nat := fieldAt r 0xF6 2
/-- Offset 0xF8, 2 bytes. -/
def brakeLimit (r : Bytes) : Nat := fieldAt r 0xF8 2
/-- Offset 0xFA, 2 bytes. -/
def clearMs (r : Bytes) : Nat := fieldAt r 0xFA 2
/-- Offset 0xFC, 2 bytes. -/
def announceUs (r : Bytes) : Nat := fieldAt r 0xFC 2

/-- The Default column of the axis record: offset, size, value. -/
def axisDefaults : List (Nat × Nat × Nat) :=
  [(0x10, 1, 1), (0x11, 1, 255), (0x12, 1, 255), (0x13, 1, 8), (0x14, 4, 1073742074), (0x18, 1, 2),
   (0x19, 1, 4), (0x1A, 2, 364), (0x1C, 2, 200), (0x20, 2, 500), (0x23, 1, 3), (0x24, 2, 200),
   (0x26, 2, 100), (0x32, 1, 16), (0x34, 4, 10000), (0x38, 2, 6400), (0x3A, 2, 6400), (0x3C, 2, 6400),
   (0x3E, 2, 200), (0x48, 1, 63), (0x49, 1, 6), (0x54, 1, 1), (0x70, 1, 15), (0x71, 1, 15),
   (0x72, 1, 1), (0x73, 1, 3), (0x74, 2, 1000), (0x76, 2, 2000), (0x7E, 2, 1000), (0x80, 1, 1),
   (0x90, 1, 2), (0x91, 1, 1), (0x92, 1, 1), (0xA0, 2, 7372), (0xA2, 2, 58164), (0xA4, 2, 100),
   (0xB1, 1, 1), (0xB2, 1, 1), (0xB3, 1, 4), (0xC1, 1, 3), (0xC2, 2, 4), (0xC4, 1, 2),
   (0xC5, 1, 3), (0xC6, 1, 4), (0xCA, 2, 100), (0xCC, 2, 50), (0xD2, 1, 255), (0xE0, 1, 3),
   (0xE6, 2, 300), (0xE8, 2, 1820), (0xEA, 1, 4), (0xEB, 1, 4), (0xEC, 2, 200), (0xEE, 1, 4),
   (0xEF, 1, 20), (0xF0, 2, 100), (0xF2, 2, 200), (0xF4, 2, 200), (0xF6, 2, 50), (0xF8, 2, 4096),
   (0xFA, 2, 200)]

/-! ### The auxiliary coil record, type 3, 64 bytes (R246) -/

/-- Offset 0x10, 1 bytes. -/
def auxCarrier (r : Bytes) : Nat := fieldAt r 0x10 1
/-- Offset 0x11, 1 bytes. -/
def auxSource (r : Bytes) : Nat := fieldAt r 0x11 1
/-- Offset 0x12, 2 bytes. -/
def auxIndex (r : Bytes) : Nat := fieldAt r 0x12 2
/-- Offset 0x14, 2 bytes. -/
def auxBit (r : Bytes) : Nat := fieldAt r 0x14 2
/-- Offset 0x16, 1 bytes. -/
def auxLoss (r : Bytes) : Nat := fieldAt r 0x16 1
/-- Offset 0x17, 1 bytes. -/
def auxFlags (r : Bytes) : Nat := fieldAt r 0x17 1
/-- Offset 0x18, 4 bytes. -/
def auxPeriod (r : Bytes) : Nat := fieldAt r 0x18 4
/-- Offset 0x1C, 4 bytes. -/
def auxFixedNs (r : Bytes) : Nat := fieldAt r 0x1C 4
/-- Offset 0x20, 4 bytes. -/
def auxLimitNs (r : Bytes) : Nat := fieldAt r 0x20 4
/-- Offset 0x24, 2 bytes. -/
def pullMs (r : Bytes) : Nat := fieldAt r 0x24 2
/-- Offset 0x26, 2 bytes. -/
def levelPull (r : Bytes) : Nat := fieldAt r 0x26 2
/-- Offset 0x28, 2 bytes. -/
def levelHold (r : Bytes) : Nat := fieldAt r 0x28 2
/-- Offset 0x2A, 2 bytes. -/
def auxMinPulseNs (r : Bytes) : Nat := fieldAt r 0x2A 2
/-- Offset 0x2C, 1 bytes. -/
def auxTripMask (r : Bytes) : Nat := fieldAt r 0x2C 1
/-- Offset 0x2D, 1 bytes. -/
def auxSense (r : Bytes) : Nat := fieldAt r 0x2D 1

/-- The Default column of the auxiliary coil record: offset, size, value. -/
def auxDefaults : List (Nat × Nat × Nat) :=
  [(0x10, 1, 1), (0x18, 4, 10000), (0x24, 2, 100), (0x26, 2, 65535), (0x28, 2, 32768), (0x2A, 2, 200),
   (0x2D, 1, 255)]

/-! ### The input pair record, type 4, 32 bytes (R464) -/

/-- Offset 0x10, 1 bytes. -/
def pairMode (r : Bytes) : Nat := fieldAt r 0x10 1
/-- Offset 0x11, 1 bytes. -/
def tp1 (r : Bytes) : Nat := fieldAt r 0x11 1
/-- Offset 0x12, 1 bytes. -/
def tp2 (r : Bytes) : Nat := fieldAt r 0x12 1
/-- Offset 0x13, 1 bytes. -/
def safeValue (r : Bytes) : Nat := fieldAt r 0x13 1
/-- Offset 0x14, 2 bytes. -/
def discrepancyMs (r : Bytes) : Nat := fieldAt r 0x14 2
/-- Offset 0x16, 2 bytes. -/
def filterUs (r : Bytes) : Nat := fieldAt r 0x16 2
/-- Offset 0x18, 1 bytes. -/
def chatterCount (r : Bytes) : Nat := fieldAt r 0x18 1
/-- Offset 0x19, 1 bytes. -/
def pairFlags (r : Bytes) : Nat := fieldAt r 0x19 1
/-- Offset 0x1A, 2 bytes. -/
def chatterWindowMs (r : Bytes) : Nat := fieldAt r 0x1A 2
/-- Offset 0x1C, 2 bytes. -/
def restartMs (r : Bytes) : Nat := fieldAt r 0x1C 2

/-- The Default column of the input pair record: offset, size, value. -/
def pairDefaults : List (Nat × Nat × Nat) :=
  [(0x11, 1, 255), (0x12, 1, 255), (0x14, 2, 100), (0x16, 2, 1000), (0x18, 1, 4), (0x1A, 2, 100),
   (0x1C, 2, 500)]

/-! ### The encoder emulation record, type 5, 32 bytes (R315) -/

/-- Offset 0x10, 1 bytes. -/
def emulAxis (r : Bytes) : Nat := fieldAt r 0x10 1
/-- Offset 0x11, 1 bytes. -/
def emulSource (r : Bytes) : Nat := fieldAt r 0x11 1
/-- Offset 0x12, 1 bytes. -/
def emulFlags (r : Bytes) : Nat := fieldAt r 0x12 1
/-- Offset 0x13, 1 bytes. -/
def invalidMode (r : Bytes) : Nat := fieldAt r 0x13 1
/-- Offset 0x14, 4 bytes. -/
def lines (r : Bytes) : Nat := fieldAt r 0x14 4
/-- Offset 0x18, 4 bytes. -/
def zPosition (r : Bytes) : Nat := fieldAt r 0x18 4
/-- Offset 0x1C, 2 bytes. -/
def lagLimit (r : Bytes) : Nat := fieldAt r 0x1C 2

/-- The Default column of the encoder emulation record: offset, size, value. -/
def emulDefaults : List (Nat × Nat × Nat) :=
  [(0x11, 1, 3), (0x14, 4, 1024), (0x1C, 2, 64)]

/-! ### The compare record, type 6, 32 bytes (R129) -/

/-- Offset 0x10, 1 bytes. -/
def cmpSource (r : Bytes) : Nat := fieldAt r 0x10 1
/-- Offset 0x11, 1 bytes. -/
def cmpDirection (r : Bytes) : Nat := fieldAt r 0x11 1
/-- Offset 0x12, 1 bytes. -/
def cmpFlags (r : Bytes) : Nat := fieldAt r 0x12 1
/-- Offset 0x13, 1 bytes. -/
def cmpAction (r : Bytes) : Nat := fieldAt r 0x13 1
/-- Offset 0x14, 4 bytes. -/
def cmpPeriod (r : Bytes) : Nat := fieldAt r 0x14 4

/-- The Default column of the compare record: offset, size, value. -/
def compareDefaults : List (Nat × Nat × Nat) :=
  [(0x10, 1, 3)]

/-! ### The delay list record, type 7, 32 bytes (R122) -/

/-- Offset 0x10, 1 bytes. -/
def dlSource (r : Bytes) : Nat := fieldAt r 0x10 1
/-- Offset 0x11, 1 bytes. -/
def dlAxis (r : Bytes) : Nat := fieldAt r 0x11 1
/-- Offset 0x12, 1 bytes. -/
def dlDirection (r : Bytes) : Nat := fieldAt r 0x12 1
/-- Offset 0x14, 4 bytes. -/
def dlLead (r : Bytes) : Nat := fieldAt r 0x14 4

/-- The Default column of the delay list record: offset, size, value. -/
def delayDefaults : List (Nat × Nat × Nat) :=
  [(0x10, 1, 1)]

/-! ### The safety connection record, type 8, 64 bytes (R450) -/

/-- Offset 0x10, 2 bytes. -/
def connId (r : Bytes) : Nat := fieldAt r 0x10 2
/-- Offset 0x12, 1 bytes. -/
def connRole (r : Bytes) : Nat := fieldAt r 0x12 1
/-- Offset 0x13, 1 bytes. -/
def connVersions (r : Bytes) : Nat := fieldAt r 0x13 1
/-- Offset 0x14, 4 bytes. -/
def producerId (r : Bytes) : Nat := fieldAt r 0x14 4
/-- Offset 0x18, 4 bytes. -/
def consumerId (r : Bytes) : Nat := fieldAt r 0x18 4
/-- Offset 0x1C, 2 bytes. -/
def connSlot (r : Bytes) : Nat := fieldAt r 0x1C 2
/-- Offset 0x1E, 1 bytes. -/
def connLength (r : Bytes) : Nat := fieldAt r 0x1E 1
/-- Offset 0x1F, 1 bytes. -/
def connGroup (r : Bytes) : Nat := fieldAt r 0x1F 1
/-- Offset 0x20, 4 bytes. -/
def maxAgeUs (r : Bytes) : Nat := fieldAt r 0x20 4
/-- Offset 0x24, 4 bytes. -/
def watchdogUs (r : Bytes) : Nat := fieldAt r 0x24 4
/-- Offset 0x28, 4 bytes. -/
def refreshUs (r : Bytes) : Nat := fieldAt r 0x28 4
/-- Offset 0x2C, 1 bytes. -/
def recoverMode (r : Bytes) : Nat := fieldAt r 0x2C 1
/-- Offset 0x2D, 1 bytes. -/
def recoverCount (r : Bytes) : Nat := fieldAt r 0x2D 1
/-- Offset 0x2E, 1 bytes. -/
def connFlags (r : Bytes) : Nat := fieldAt r 0x2E 1
/-- Offset 0x30, 2 bytes. -/
def peerEndpoint (r : Bytes) : Nat := fieldAt r 0x30 2

/-- The Default column of the safety connection record: offset, size, value. -/
def connDefaults : List (Nat × Nat × Nat) :=
  [(0x13, 1, 33), (0x1E, 1, 4), (0x1F, 1, 255), (0x20, 4, 1000), (0x24, 4, 1000), (0x2D, 1, 4),
   (0x30, 2, 65535)]

/-! ### The stream descriptor record, type 10, 32 bytes (R479) -/

/-- Offset 0x10, 4 bytes. -/
def srcVa (r : Bytes) : Nat := fieldAt r 0x10 4
/-- Offset 0x14, 4 bytes. -/
def dstVa (r : Bytes) : Nat := fieldAt r 0x14 4
/-- Offset 0x18, 3 bytes. -/
def passCount (r : Bytes) : Nat := fieldAt r 0x18 3
/-- Offset 0x1B, 1 bytes. -/
def beatWidth (r : Bytes) : Nat := fieldAt r 0x1B 1
/-- Offset 0x1C, 1 bytes. -/
def wrapField (r : Bytes) : Nat := fieldAt r 0x1C 1
/-- Offset 0x1D, 1 bytes. -/
def retryMax (r : Bytes) : Nat := fieldAt r 0x1D 1
/-- Offset 0x1E, 1 bytes. -/
def streamTrigger (r : Bytes) : Nat := fieldAt r 0x1E 1
/-- Offset 0x1F, 1 bytes. -/
def streamFlags (r : Bytes) : Nat := fieldAt r 0x1F 1

/-- The Default column of the stream descriptor record: offset, size, value. -/
def streamDefaults : List (Nat × Nat × Nat) :=
  [(0x1B, 1, 15), (0x1D, 1, 3)]

/-! ### The cascade record, type 13, 64 bytes (R470) -/

/-- Offset 0x10, 1 bytes. -/
def cascadeIndex (r : Bytes) : Nat := fieldAt r 0x10 1
/-- Offset 0x11, 1 bytes. -/
def cascadeDevices (r : Bytes) : Nat := fieldAt r 0x11 1
/-- Offset 0x12, 1 bytes. -/
def trunkLossCycles (r : Bytes) : Nat := fieldAt r 0x12 1
/-- Offset 0x14, 4 bytes. -/
def trunkA (r : Bytes) : Nat := fieldAt r 0x14 4
/-- Offset 0x18, 4 bytes. -/
def trunkB (r : Bytes) : Nat := fieldAt r 0x18 4
/-- Offset 0x1C, 2 bytes. -/
def trunkWindowNs (r : Bytes) : Nat := fieldAt r 0x1C 2

/-- The Default column of the cascade record: offset, size, value. -/
def cascadeDefaults : List (Nat × Nat × Nat) :=
  [(0x11, 1, 1), (0x12, 1, 3), (0x14, 4, 4294967295), (0x18, 4, 4294967295), (0x1C, 2, 1600)]

/-! ### Sizes, defaults and the records in force -/

/-- A record of zeros with the listed fields set. -/
def buildRec (size : Nat) (ds : List (Nat × Nat × Nat)) : Bytes :=
  ds.foldl (fun r d => putAt r d.1 (leBytes d.2.1 d.2.2)) (List.replicate size 0)

/-- Fixed record sizes (R74); 0 for the types of variable size and the reserved codes. -/
def recSize : Nat → Nat
  | 1 => 128 | 2 => 256 | 3 => 64 | 4 => 32 | 5 => 32 | 6 => 32 | 7 => 32 | 8 => 64 | 10 => 32 | 12 => 64 | 13 => 64
  | _ => 0

/-- Whether a record type has the instance, on lane `l` (R74). -/
def recInstanceOk (l : LaneId) (t inst : Nat) : Bool :=
  match t with
  | 1 => inst = 0 | 2 => inst / 12 = l.val && inst < 36 | 3 => inst < 8 | 4 => inst < 16 | 5 => inst < 2 | 6 => inst < 24
  | 7 => inst < 16 | 8 => inst < 512 | 9 => inst < 2 | 10 => inst < 16 | 11 => inst < 64 | 12 => inst = 0 | 13 => inst = 0
  | _ => false

/-- A heavy channel: 10 or 11 (R28, R252). -/
def isHeavy (nn : Nat) : Bool := 10 ≤ nn

/-- The values that differ on channels 10 and 11 (R255). -/
def heavyDefaults : List (Nat × Nat × Nat) := [(0x72, 1, 0), (0x7C, 1, 100), (0x7D, 1, 20)]

/-- The Default column of a record of a fixed size (R10). -/
def defaultRec (t inst : Nat) : Bytes :=
  match t with
  | 1 => buildRec 128 laneDefaults
  | 2 => buildRec 256 (if isHeavy (inst % 12) then axisDefaults ++ heavyDefaults else axisDefaults)
  | 3 => buildRec 64 auxDefaults
  | 4 => buildRec 32 pairDefaults
  | 5 => buildRec 32 emulDefaults
  | 6 => buildRec 32 compareDefaults
  | 7 => buildRec 32 delayDefaults
  | 8 => buildRec 64 connDefaults
  | 10 => buildRec 32 streamDefaults
  | 12 => buildRec 64 []
  | 13 => buildRec 64 cascadeDefaults
  | _ => []

/-- The record of a type and instance among a set. -/
def findRec (rs : List Rec) (t inst : Nat) : Option Rec := rs.find? fun r => r.rtype = t && r.inst = inst

/-- Its only part, or the defaults where the set has none. -/
def recOr (rs : List Rec) (t inst : Nat) : Bytes :=
  match findRec rs t inst with
  | some r => r.parts.headD []
  | none => defaultRec t inst

/-- The records in force: the committed ones that passed their check (R80). With the lane record failed, every section of
it is at its defaults. -/
def Lane.inForce (l : Lane) : List Rec :=
  l.fl.recs.filter fun r => !(l.sys.bad.contains (r.rtype, r.inst)) && !(l.sys.laneRecBad && r.rtype = 1)

/-- The record in force of a type and instance (R10, R80). -/
def Lane.cfg (l : Lane) (t inst : Nat) : Bytes := recOr l.inForce t inst

/-- The lane record in force. -/
def Lane.laneRec (l : Lane) : Bytes := l.cfg 1 0
/-- The axis record in force of channel `nn`. -/
def Lane.axisRec (l : Lane) (nn : AxisId) : Bytes := l.cfg 2 (l.dev nn)
/-- The auxiliary coil record in force. -/
def Lane.auxRec (l : Lane) (x : Fin 8) : Bytes := l.cfg 3 x.val
/-- The input pair record in force. -/
def Lane.pairRec (l : Lane) (k : Fin 16) : Bytes := l.cfg 4 k.val
/-- The encoder emulation record in force. -/
def Lane.emulRec (l : Lane) (e : Fin 2) : Bytes := l.cfg 5 e.val
/-- The compare record in force. -/
def Lane.cmpRec (l : Lane) (u : Fin 24) : Bytes := l.cfg 6 u.val
/-- The delay list record in force. -/
def Lane.dlRec (l : Lane) (d : Fin 16) : Bytes := l.cfg 7 d.val
/-- The safety connection record in force. -/
def Lane.connRec (l : Lane) (e : Fin 512) : Bytes := l.cfg 8 e.val
/-- The stream descriptor in force. -/
def Lane.streamRec (l : Lane) (c : Fin 16) : Bytes := l.cfg 10 c.val
/-- The cascade record in force. -/
def Lane.cascadeRec (l : Lane) : Bytes := l.cfg 13 0

/-- The axis record is in use (R80). -/
def Lane.axisUsed (l : Lane) (nn : AxisId) : Bool := !(l.sys.bad.contains (2, l.dev nn))

/-- Network-loss profile of a channel (R103, R105). -/
def lossProfile (r : Bytes) (nn : AxisId) : Nat := natBits (lossProfiles r) (4 * nn.val) 4

/-- Connection ID that serves mailbox 4 + m (R406). -/
def serviceConn (r : Bytes) (m : Nat) : Nat := fieldAt r (0x18 + 2 * m) 2

/-- Entry k of the mask table (R231). -/
def maskTable (r : Bytes) (k : Nat) : Nat := fieldAt r (0x4A + k) 1

/-- Dead time of a phase in steps (R231). -/
def deadOf (r : Bytes) (p : Phase) : Nat := if p = 0 then deadA r else if p = 1 then deadB r else deadC r

/-- Trigger, content and position of a conversion set (R291). -/
def setTrigger (r : Bytes) (k : Fin 2) : Nat := if k = 0 then set0Trigger r else set1Trigger r
def setContent (r : Bytes) (k : Fin 2) : Nat := if k = 0 then set0Content r else set1Content r
def setPosition (r : Bytes) (k : Fin 2) : Nat := if k = 0 then set0Position r else set1Position r

/-- o_user of a phase (R286, R291). -/
def offsetOf (r : Bytes) (p : Phase) : Int :=
  toSigned 16 (if p = 0 then offsetA r else if p = 1 then offsetB r else offsetC r)

/-- A slot entry of a schedule (R407). -/
structure SlotEntry where
  startNs : Nat
  lengthNs : Nat
  owner : Nat
  kind : Nat
  rep : Nat
  base : Nat
  acceptNs : Nat
  flags : Nat
  deriving DecidableEq, Repr

/-- The fields of 16 bytes of a schedule. -/
def slotEntry (b : Bytes) : SlotEntry :=
  { startNs := fieldAt b 0 4, lengthNs := fieldAt b 4 4, owner := fieldAt b 8 1, kind := fieldAt b 9 1,
    rep := fieldAt b 10 1, base := fieldAt b 11 1, acceptNs := fieldAt b 12 2, flags := fieldAt b 14 1 }

/-- The 16-byte entries of a run of bytes, at most `n`. -/
def chunk16 : Nat → Bytes → List Bytes
  | 0, _ => []
  | n + 1, bs => if bs.length < 16 then [] else bs.take 16 :: chunk16 n (bs.drop 16)

/-- The slot entries of a schedule record, in slot order (R407). -/
def Rec.entries (r : Rec) : List Bytes := r.parts.flatMap fun p => chunk16 61 (p.drop 16)

/-- A slot is used on a channel (R407). -/
def SlotEntry.used (e : SlotEntry) : Bool := 0 < e.lengthNs

/-- A slot occurs in the cycle with counter `c` (R407). -/
def SlotEntry.occurs (e : SlotEntry) (c : Nat) : Bool := e.used && 0 < e.rep && c % e.rep = e.base

/-- The schedule in force for channel `g`: its slot entries. -/
def Lane.schedule (l : Lane) (g : GreenId) : List SlotEntry :=
  match findRec l.inForce 9 g.val with
  | some r => r.entries.map slotEntry
  | none => []

/-- A schedule for channel `g` is in force and names an identifier. -/
def Lane.hasSchedule (l : Lane) : Bool := scheduleId l.laneRec ≠ 0 && !((l.schedule 0).isEmpty && (l.schedule 1).isEmpty)

/-- Slot `i` of channel `g`. -/
def Lane.slotOf (l : Lane) (g : GreenId) (i : Nat) : Option SlotEntry := (l.schedule g)[i]?

/-- The cluster cycle in ns (R406). -/
def cycleNs (r : Bytes) : Nat := 62500 * cycleSteps r

/-- One part with revision and crc taken as 0 (R75, R76). -/
def bareRec (p : Bytes) : Bytes := putAt p 8 (List.replicate 8 0)

/-- The record CRC (R76). -/
def Rec.crc (r : Rec) : Nat := crc32c (r.parts.flatMap bareRec)

/-- A part with its revision set and its crc made to fit (R75). -/
def sealPart (rev : Nat) (p : Bytes) : Bytes :=
  let q := putAt p 8 (leBytes 4 rev)
  putAt q 12 (leBytes 4 (crc32c (bareRec p)))

/-- Whether the crc of a part holds (R75). -/
def partCrcOk (p : Bytes) : Bool := fieldAt p 12 4 = crc32c (bareRec p)

end Sys2Proof.Machine
end

