-- ==== Sys2Proof/Machine/Signals.lean ====
section
/-! DEFINITION. Signals that any block of a lane gives: events to the dispatcher (R134, R135), interrupt bits (R38),
notices (R60), changes of lane state and device mode (R39, R95). -/

namespace Sys2Proof.Machine

/-! ### Codes -/

/-- Lane state as R39 encodes it. -/
def lstateCode : LState → Nat
  | .off => 0 | .init => 1 | .active => 2 | .safe => 3 | .test => 4

/-- Device mode as R39 encodes it. -/
def modeCode : Mode → Nat
  | .off => 0 | .start => 1 | .run => 2 | .degraded => 3 | .shutdown => 4 | .workshop => 5

/-- Role as R341 encodes it. -/
def roleCode : Role → Nat
  | .unused => 0 | .simplex => 1 | .triplex => 2 | .duplexActive => 3 | .duplexStandby => 4

/-- The role a record's byte names (R341). -/
def roleOf (n : Nat) : Role :=
  match n with
  | 1 => .simplex | 2 => .triplex | 3 => .duplexActive | 4 => .duplexStandby | _ => .unused

/-- Sync state as R112 encodes it. -/
def syncCode : SyncState → Nat
  | .none => 0 | .synced => 1 | .holdover => 2 | .lane => 3

/-! ### Events -/

/-- An event put in its place: events of one PWM cycle in ascending number, cycles in order (R27, R135). -/
def insertEvent (e : Event) : List Event → List Event
  | [] => [e]
  | d :: ds => if e.time = d.time ∧ e.num < d.num then e :: d :: ds else d :: insertEvent e ds

/-- The lane raises event `num` with a context (R134); `late` is the LATE flag. -/
def Lane.eventL (l : Lane) (num ctx : Nat) (late : Bool) : Lane :=
  let e : Event := { num := BitVec.ofNat 8 num, ctx := BitVec.ofNat 16 ctx, late := late, time := l.tm.loc }
  { l with dsp := { l.dsp with events := insertEvent e l.dsp.events } }

/-- The lane raises event `num` with a context, without LATE. -/
def Lane.event (l : Lane) (num ctx : Nat) : Lane := l.eventL num ctx false

/-- A PDU of arrival group g has been delivered to endpoint e: event 128 + g, one for each group in a PWM cycle; a later one waits
(R458). -/
def Lane.arrive (l : Lane) (g e : Nat) : Lane :=
  if bit l.net.arrNow g then { l with net := { l.net with arrivals := l.net.arrivals ++ [(g, e)] } }
  else { l with net := { l.net with arrNow := bitPut l.net.arrNow g true } }.event (128 + g) e

/-- A PWM cycle begins: of each group the oldest waiting arrival is raised (R458). -/
def Lane.arriveTick (l : Lane) : Lane :=
  l.net.arrivals.foldl (fun l x => l.arrive x.1 x.2) { l with net := { l.net with arrNow := 0, arrivals := [] } }

/-! ### Clocks and service -/

/-- Clock k of the lane runs and is proven: the start sequence has passed its step 2, and crystal and PLL k (1 supervisor, 2 axis
engine, 3 PWM, 4 analog front end, 5 lane links) are good. No block but the collector and the clock monitors runs without
(R26, R500). DESIGN CHOICE: x_PWRHOLD, which step 3 drives high, stands for the proof (notes/assumptions/81.md). -/
def Lane.clockOn (l : Lane) (k : Nat) : Bool := l.sys.pwrHold && !bit l.sys.badClocks 0 && !bit l.sys.badClocks k

/-- The lane has power and is out of lane reset. -/
def Lane.awake (l : Lane) : Bool := l.sys.lstate ≠ .off && !l.sys.inReset

/-- Slice k of a self-test run is in progress (R391): its block is isolated, its outputs
at their reset values, its inputs ignored. -/
def Lane.inSlice (l : Lane) (k : Nat) : Bool :=
  match l.tst.run with
  | some r => r.now = some k
  | none => false

/-- Slices that take the host port or the supervisor pair away: 18 and 20 to 22 (R64, R393). -/
def blockingSlice (k : Nat) : Bool := k = 18 || (20 ≤ k && k ≤ 22)

/-- A slice blocks the host port and Gamar (R64). -/
def Lane.portBlocked (l : Lane) : Bool :=
  match l.tst.run with
  | some r => (match r.now with | some k => blockingSlice k | none => false)
  | none => false

/-- The host port has power, is out of reset and has its clock (R62, R500). -/
def Lane.portOn (l : Lane) : Bool := l.awake && l.clockOn 1

/-- Gamar runs: ready, not halted in debug, its pair neither held nor under test (R47, R62, R64, R389). -/
def Lane.gamarRuns (l : Lane) : Bool :=
  l.portOn && l.hp.ready && !l.sys.halted && !l.lk.failed && !l.portBlocked

/-! ### Interrupts and notices -/

/-- Bits of HP_IRQ_STATUS set (R38). -/
def Lane.irq (l : Lane) (bits : W32) : Lane := { l with hp := { l.hp with irqStatus := l.hp.irqStatus ||| bits } }

/-- Bits of HP_ERR set (R38). -/
def Lane.hpErr (l : Lane) (bits : W32) : Lane := { l with hp := { l.hp with err := l.hp.err ||| bits } }

/-- A notice queued on one mailbox: 16 are held, and a full queue drops its oldest (R60). -/
def Mailbox.notify (m : Mailbox) (n : Notice) : Mailbox :=
  if m.nego.isNone then m
  else if m.notices.length < 16 then { m with notices := m.notices ++ [n] }
  else { m with notices := m.notices.drop 1 ++ [n], dropped := true }

/-- A notice queued on every negotiated mailbox, with NOTICE set when a host mailbox takes it (R38, R60). -/
def Lane.queueNotice (l : Lane) (n : Notice) : Lane :=
  let host := (idxs 8).any fun m => m.val < 4 && (l.mb m).nego.isSome
  let l := { l with hp := { l.hp with mbs := l.hp.mbs.map fun m => m.notify n } }
  if host then l.irq 0x10 else l

/-- Gamar queues a notice; with Gamar unavailable it waits (R60, R378). -/
def Lane.notify (l : Lane) (n : Notice) : Lane :=
  if l.gamarRuns then l.queueNotice n else { l with hp := { l.hp with waiting := l.hp.waiting ++ [n] } }

/-- Gamar, available again and with a mailbox to give them to, queues the notices that waited (R378). DESIGN CHOICE: after a
restart, which leaves no mailbox negotiated, they wait for the first HELLO (notes/assumptions/81.md). -/
def Lane.noticeSync (l : Lane) : Lane :=
  if l.gamarRuns && !l.hp.waiting.isEmpty && (idxs 8).any (fun m => (l.mb m).nego.isSome) then
    each l.hp.waiting (fun n l => l.queueNotice n) { l with hp := { l.hp with waiting := [] } }
  else l

/-! ### Lane state and device mode -/

/-- The lane state changes: notice and STATE (R38, R60). -/
def Lane.toState (l : Lane) (v : LState) : Lane :=
  if l.sys.lstate = v then l
  else ({ l with sys := { l.sys with lstate := v } }.notify (.laneState (lstateCode v))).irq 0x20

/-- The reported device mode changes: notice and STATE (R95). -/
def Lane.toMode (l : Lane) (v : Mode) : Lane :=
  if l.sys.mode = v then l
  else ({ l with sys := { l.sys with mode := v } }.notify (.deviceMode (modeCode v))).irq 0x20

/-- A partner lane as this lane sees it is in LANE_ACTIVE: it has been seen to enter it and is not lost (R91, R95). -/
def Lane.partnerActive (l : Lane) (k : LaneId) : Bool := (vget l.links k).active

/-- The two partners of a lane. -/
def Lane.partners (l : Lane) : List LaneId := (idxs 3).filter fun k => k ≠ l.idx

/-- Whether the lane's view is RUN: every partner in LANE_ACTIVE, both Greens present and restored (R92, R95). -/
def Lane.allWell (l : Lane) : Bool :=
  l.partners.all l.partnerActive && (idxs 2).all fun g => (vget l.net.chan g).view = .present

/-- RUN or DEGRADED judged afresh from the lane's view; in WORKSHOP only the underlying mode moves (R95). -/
def Lane.judgeMode (l : Lane) : Lane :=
  let v := if l.allWell then Mode.run else Mode.degraded
  match l.sys.mode with
  | .run | .degraded => l.toMode v
  | .workshop => { l with sys := { l.sys with under := v } }
  | _ => l

/-- Both Greens lost, in the meaning of R92. -/
def Lane.bothLost (l : Lane) : Bool :=
  let a := (vget l.net.chan 0).view
  let b := (vget l.net.chan 1).view
  (a = .lost && b ≠ .present) || (b = .lost && a ≠ .present)

/-- Both partners are lost or not present, and the lane is in LANE_ACTIVE (R100). -/
def Lane.singleLane (l : Lane) : Bool :=
  l.sys.lstate = .active && l.partners.all fun k => (vget l.links k).line = .r01

end Sys2Proof.Machine
end

