-- ==== Sys2Proof/Machine/Keys.lean ====
section
/-! DEFINITION. Accumulators as registers hold them (R114, R115), keys and their comparison (R118 to R120), the insert into
a delay list (R124, R128), and the announcements of the sensorless supervisor (R333). -/

namespace Sys2Proof.Machine

/-! ### Accumulators (R114, R115) -/

/-- The mechanical accumulator: revolutions and fraction as one 64-bit number (R114). -/
def Acc.mech (a : Acc) : Nat := ((a.pos * 4294967296).floor % (2 ^ 64 : Int)).toNat

/-- The electrical accumulator as one 64-bit number (R115, R218). -/
def Axis.elec (a : Axis) (r : Bytes) : Nat :=
  (((a.acc.mech : Int) * polePairs r + elecOffset r + a.acc.elecFix) % (2 ^ 64 : Int)).toNat

/-- A value of 2^-32 turn as turns, taken modulo one. -/
def turnsOf (n : Nat) : Rat := mkRat (n % 4294967296 : Nat) 4294967296

/-- The 48-bit key of an accumulator, signed (R119). -/
def angleKey (n : Nat) : Int := toSigned 48 (n / 65536 % 2 ^ 48)

/-! ### Angle sources (R314) -/

/-- The angle source in effect: 0 NONE, 1 FEEDBACK, 2 OBSERVER (R314). -/
def Lane.angleSrc (l : Lane) (nn : AxisId) : Nat :=
  match angleSource (l.axisRec nn) with
  | 1 => 1
  | 2 => 2
  | 3 => if (l.axis nn).fb.observer then 2 else 1
  | _ => 0

/-! ### Keys (R118 to R120) -/

/-- The present key of a source for an axis channel (R119). -/
def Lane.presentKey (l : Lane) (src : Nat) (nn : AxisId) : Int :=
  match src with
  | 0 => l.tm.glob.toNat
  | 1 => l.tm.loc.toNat
  | 2 => angleKey ((l.axis nn).elec (l.axisRec nn))
  | _ => angleKey (l.axis nn).acc.mech

/-- A source is an angle. -/
def srcAngle (src : Nat) : Bool := src = 2 || src = 3

/-- key - present as R120 compares them: 64 bits for times, 48 bits for angles. -/
def keyDiff (src : Nat) (key present : Int) : Int :=
  if srcAngle src then toSigned 48 (ofSigned 48 (key - present)) else toSigned 64 (ofSigned 64 (key - present))

/-- How far ahead of the present key a key lies in a direction: below 0 it lies behind (R120). -/
def ahead (src : Nat) (reverse : Bool) (key present : Int) : Int :=
  if reverse then -(keyDiff src key present) else keyDiff src key present

/-- The key can be one of its source (R119). -/
def keyOk (src : Nat) (key : Int) : Bool :=
  if srcAngle src then -(2 ^ 47) ≤ key && key < 2 ^ 47 else 0 ≤ key && key < 2 ^ 64

/-- The source of an accumulator that is INVALID releases nothing (R117). -/
def Lane.sourceValid (l : Lane) (src : Nat) (nn : AxisId) : Bool := !srcAngle src || (l.axis nn).acc.valid

/-- A key lies in the span that a jump skipped, start exclusive, end inclusive, in a direction (R127, R133). -/
def inSpan (src : Nat) (reverse : Bool) (before after key : Int) : Bool :=
  let d := ahead src reverse after before
  let k := ahead src reverse key before
  0 < k && k ≤ d

/-! ### Delay lists (R122 to R128) -/

/-- Source, axis channel and direction of list d. -/
def Lane.dlSrc (l : Lane) (d : Fin 16) : Nat := dlSource (l.dlRec d)
def Lane.dlNn (l : Lane) (d : Fin 16) : AxisId := channelOfAxis (dlAxis (l.dlRec d))
def Lane.dlRev (l : Lane) (d : Fin 16) : Bool := dlDirection (l.dlRec d) = 1

/-- The present key of list d. -/
def Lane.dlPresent (l : Lane) (d : Fin 16) : Int := l.presentKey (l.dlSrc d) (l.dlNn d)

/-- Delay list d. -/
def Lane.dl (l : Lane) (d : Fin 16) : DelayList := vget l.dls d

/-- The lane with delay list d changed. -/
def Lane.onDl (l : Lane) (d : Fin 16) (f : DelayList → DelayList) : Lane := { l with dls := vmod l.dls d f }

/-- A key less the list's lead in its direction is behind the present key or equals it (R124). -/
def Lane.dlDue (l : Lane) (d : Fin 16) (key : Int) : Bool :=
  ahead (l.dlSrc d) (l.dlRev d) key (l.dlPresent d) ≤ dlLead (l.dlRec d)

/-- The answer of a request kept for its node (R226). -/
def Lane.reply (l : Lane) (issuer : Option (Nat × Nat)) (ok : Bool) : Lane :=
  match issuer with
  | none => l
  | some (k, j) => l.onSlot (fin k) fun s => { s with replies := (j, ok) :: s.replies.filter fun x => x.1 ≠ j }

/-- An insert of a key and a tag (R124, R128): refused when the list is full or the key is none of its source. -/
def Lane.dlInsert (l : Lane) (d : Fin 16) (key : Int) (tag : W16) (issuer : Option (Nat × Nat)) : Lane :=
  if 256 ≤ (l.dl d).entries.length || !keyOk (l.dlSrc d) key then
    (l.onDl d fun x => { x with overflow := x.overflow + 1 }).reply issuer false
  else
    let due := l.dlDue d key
    let late := due && ahead (l.dlSrc d) (l.dlRev d) key (l.dlPresent d) < 0
    (l.onDl d fun x => { x with entries := x.entries ++ [{ key := key, tag := tag, due := due, late := late }] }).reply
      issuer true

/-! ### Announcements (R333) -/

/-- Drive state as R325 encodes it. -/
def driveCode : Drive → Nat
  | .idle => 0 | .hfi => 1 | .polarity => 2 | .catching => 3 | .observer => 4 | .coast => 5 | .failed => 6

/-- The supervisor of an axis runs (chapter 14, before R325): angle source OBSERVER, or FALLBACK switched to it, with a
start_mode. -/
def Lane.supRuns (l : Lane) (nn : AxisId) : Bool := l.angleSrc nn = 2 && startMode (l.axisRec nn) ≠ 0

/-- The first self-test slice of a shutdown or service run has started: delay lists, compare units, carriers, sensing, feedback,
endpoints, test pulses and the lane ports have stopped (R137, R250, R293, R320, R398, R425, R469). -/
def Lane.keeperStopped (l : Lane) : Bool :=
  match l.tst.run with
  | some r => r.kind ≠ .startup && (r.now.isSome || r.passed ≠ 0 || r.failed ≠ 0)
  | none => false

/-- Drive state s is announced in the axis's mode_list (R333). -/
def Lane.announce (l : Lane) (nn : AxisId) (s : Drive) : Lane :=
  let r := l.axisRec nn
  if natBit (commFlags r) 2 && !l.keeperStopped then
    let d : Fin 16 := fin (modeList r)
    l.dlInsert d (l.dlPresent d) (BitVec.ofNat 16 (modeTag r + driveCode s)) none
  else l

end Sys2Proof.Machine
end

