-- ==== Sys2Proof/Machine/Gates.lean ====
section
/-! DEFINITION. The outputs of an axis: the state AXIS_STATUS reports (R61), trips (R242), the switch commands of the PWM
block with dead time (R237), the drive of each gate in the die with its latches, supplies and patterns (R252 to R277), and
the entry into the safe state (R270, R346). -/

namespace Sys2Proof.Machine

/-! ### Switches: 2p is the high side of phase p, 2p + 1 its low side (R217) -/

/-- Phase of a switch. -/
def phaseOf (sw : Switch) : Phase := fin (sw.val / 2)
/-- A high side. -/
def isHigh (sw : Switch) : Bool := sw.val % 2 = 0
/-- The complementary switch of the same leg. -/
def other (sw : Switch) : Switch := if isHigh sw then fin (sw.val + 1) else fin (sw.val - 1)
/-- VGD group of an axis channel (R253). -/
def groupOf (nn : AxisId) : Nat := nn.val / 3
/-- VGD group of an auxiliary output (R253). -/
def auxGroup (x : Fin 8) : Nat := x.val / 2

/-! ### The state of an axis -/

/-- A gate fault of the axis is latched: UVLO, short, shoot-through attempt or readback mismatch (R269). -/
def Axis.bridgeFault (a : Axis) : Bool := a.gate.short ≠ 0 || a.gate.readback ≠ 0 || a.gate.uvlo ≠ 0 || a.gate.shoot ≠ 0

/-- The lane has a latched undervoltage of the group that supplies the axis (R265, R269). -/
def Lane.bridgeFault (l : Lane) (nn : AxisId) : Bool := (l.axis nn).bridgeFault || bit l.gd.uvlo (groupOf nn)

/-- OC_EN of the axis (R288). -/
def ocEnabled (r : Bytes) : Bool := natBit (senseFlags r) 0

/-- A trip source selected in the axis's trip_mask is active (R242); without OC_EN bit 4 has no source (R288). -/
def Lane.tripSource (l : Lane) (nn : AxisId) : Bool :=
  let m := tripMask (l.axisRec nn)
  ((idxs 4).any fun k => natBit m k && bit l.afe.trips k) || (natBit m 4 && ocEnabled (l.axisRec nn) && (l.axis nn).sense.oc ≠ 0) ||
    (natBit m 5 && l.afe.busOv)

/-- The axis is tripped (R242). -/
def Lane.tripped (l : Lane) (nn : AxisId) : Bool := l.tripSource nn || (l.axis nn).pwm.latched

/-- The state byte of AXIS_STATUS: the highest row of R61 that applies. -/
def Lane.axisState (l : Lane) (nn : AxisId) : Nat :=
  let a := l.axis nn
  if l.sys.halted then 0
  else if !l.axisUsed nn then 7
  else if a.safe then 1
  else if a.enabled && l.tripped nn then 2
  else if a.red.takeover.isSome then 3
  else if a.red.observing.isSome then 4
  else if a.role = .duplexStandby then 5
  else if a.enabled then 6
  else 7

/-- The axis counts as in its safe state: SAFE or DISABLED (R61, last paragraph). A halted lane is judged without the
halt. -/
def Lane.restful (l : Lane) (nn : AxisId) : Bool :=
  let v := { l with sys := { l.sys with halted := false } }.axisState nn
  v = 1 || v = 7

/-- The die holds the pattern of a safe state on the axis: SAFE, observation (R344), or a lost heartbeat (R21). -/
def Lane.patternHeld (l : Lane) (nn : AxisId) : Bool :=
  (l.axis nn).safe || (l.axis nn).red.observing.isSome || l.gd.hbLost

/-- The pattern of an entry into the safe state now: all off as standby or without a record in use (R80, R346), else
safe_state with AUTO decided (R268, R269). -/
def Lane.entryPattern (l : Lane) (nn : AxisId) : Pattern :=
  if !l.axisUsed nn || (l.axis nn).role = .duplexStandby then .opened
  else match safeState (l.axisRec nn) % 16 with
    | 0 => .opened
    | 1 => .shortLow
    | 2 => .shortHigh
    | _ => if l.bridgeFault nn then .opened else .shortLow

/-- AUTO decides the pattern of an entry into the safe state now (R269). -/
def Lane.autoPattern (l : Lane) (nn : AxisId) : Bool :=
  l.axisUsed nn && (l.axis nn).role ≠ .duplexStandby && 3 ≤ safeState (l.axisRec nn) % 16

/-! ### The gates -/

/-- The die can drive the gates of a group at all: valid, x_GDEN high, heartbeat seen, no gate-driver slice begun
(R265, R272, R275, R276). -/
def Lane.dieAlive (l : Lane) (g : Nat) : Bool := bit l.gd.valid g && l.gd.gden && l.gd.hbSeen && !l.gd.heldLow

/-- A latch holds the switch off (R258, R260, R266, R272); the hold of a shoot-through attempt ends at the safe-state
command (R241, R245). -/
def latchOff (g : Gate) (sw : Switch) (patterned : Bool) : Bool :=
  let p := (phaseOf sw).val
  bit g.short p || bit g.readback p || (isHigh sw && (bit g.uvlo p || bit g.floatLow p)) || (!patterned && bit g.shoot p)

/-- The switches a pattern turns on (R268). -/
def patternOn (p : Pattern) (sw : Switch) : Bool :=
  match p with
  | .opened => false
  | .shortLow => !isHigh sw
  | .shortHigh => isHigh sw

/-- What the die wants of a gate: on when nothing holds it off and its pattern, or the command of an enabled axis, turns
it on; a pattern waits for dead time (R257, R270, R275). The latched undervoltage of a group holds every gate of it off until
it is cleared (R265, R272). -/
def Lane.gateWant (l : Lane) (nn : AxisId) (sw : Switch) : Bool :=
  let a := l.axis nn
  l.dieAlive (groupOf nn) && !bit l.gd.uvlo (groupOf nn) && !latchOff a.gate sw (l.patternHeld nn) &&
    (if l.patternHeld nn then patternOn a.pattern sw && !bit a.pwm.dead sw.val else a.enabled && bit a.gate.cmd sw.val)

/-- The drive of a gate that is to be off: a switch in a short or two-level turn-off finishes it (R257, R270), a heavy
channel under TLTO_ALWAYS passes through the plateau (R263), a gate without supply is pulled low at once (R265). -/
def offDrive (heavyTlto alive : Bool) (d : GateDrive) : GateDrive :=
  if !alive then .off
  else match d with
    | .on => if heavyTlto then .plateau else .off
    | .soft => .soft
    | .plateau => .plateau
    | .off => .off

/-- TLTO_ALWAYS is set on a heavy channel (R255, R263). -/
def tltoAlways (r : Bytes) (nn : AxisId) : Bool := isHeavy nn.val && natBit (gateFlags r) 3

/-- Every gate of the axis driven as the die wants it. A pattern that turns a switch off starts the dead time of its
complement (R270); one that it turns on begins its blanking (R260). -/
def Lane.driveGates (l : Lane) (nn : AxisId) : Lane :=
  let r := l.axisRec nn
  let alive := bit l.gd.valid (groupOf nn)
  let held := l.patternHeld nn
  let a := l.axis nn
  let dead := each (idxs 6) (fun sw d =>
    if held && vget a.gate.drive sw = .on && !l.gateWant nn sw && deadOf r (phaseOf sw) ≠ 0
    then bitPut d (other sw).val true else d) a.pwm.dead
  let l := l.onAxis nn fun a => { a with pwm := { a.pwm with dead := dead } }
  let drive := Vector.ofFn fun sw : Fin 6 =>
    if l.gateWant nn sw then GateDrive.on else offDrive (tltoAlways r nn) alive (vget (l.axis nn).gate.drive sw)
  let blank := each (idxs 6) (fun sw b =>
    if held && vget drive sw = .on && vget (l.axis nn).gate.drive sw ≠ .on then bitPut b sw.val true else b) (l.axis nn).gate.blank
  l.onAxis nn fun a => { a with gate := { a.gate with drive := drive, blank := blank } }

/-- An auxiliary output is off whatever its command: LANE_SAFE, LANE_OFF, SHUTDOWN, a lost heartbeat (R21, R247). -/
def Lane.auxOff (l : Lane) : Bool :=
  l.sys.lstate = .safe || l.sys.lstate = .off || l.sys.mode = .shutdown || l.gd.hbLost

/-- Every auxiliary gate driven as the die wants it; the latched undervoltage of its group holds it off (R247, R265, R272). -/
def Lane.driveAux (l : Lane) : Lane :=
  let v := Vector.ofFn fun x : Fin 8 =>
    let u := vget l.aux x
    { u with gate := u.gcmd && l.dieAlive (auxGroup x) && !bit l.gd.uvlo (auxGroup x) && !l.auxOff }
  { l with aux := v }

/-- Every gate of the lane driven as the die wants it. -/
def Lane.driveAll (l : Lane) : Lane := (each (idxs 12) (fun nn l => l.driveGates nn) l).driveAux

/-! ### Switch commands of the PWM block -/

/-- The PWM block's commands move to the switches wanted on: a turn-off is at once and starts the dead time of the
complement, a turn-on waits for the dead time that still runs (R237). -/
def pwmMove (r : Bytes) (want : BitVec 6) (p : Pwm) : Pwm :=
  let offs := p.cmd &&& ~~~ want
  let dead := each (idxs 6) (fun sw d =>
    if bit offs sw.val && deadOf r (phaseOf sw) ≠ 0 then bitPut d (other sw).val true else d) p.dead
  { p with cmd := (p.cmd &&& want) ||| (want &&& ~~~ dead), pendOn := want &&& dead &&& ~~~ p.cmd, dead := dead }

/-- Every switch commanded off, every waiting turn-on cancelled (R242). -/
def Lane.pwmOff (l : Lane) (nn : AxisId) : Lane :=
  let r := l.axisRec nn
  l.onAxis nn fun a =>
    { a with driving := false, pwm := { pwmMove r 0 a.pwm with pendOn := 0, carry := Vector.replicate 3 0 } }

/-! ### Entering the safe state -/

/-- What every entry into the safe state does to the supervisor: IDLE unless FAILED, the count kept (R336). -/
def Supervisor.toIdle (s : Supervisor) : Supervisor :=
  if s.drive = .failed then { s with off := false, due := false, lost := false, start := false, fall := none }
  else { Supervisor.cold with fails := s.fails, movedAt := s.movedAt, shown := s.shown, say := s.shown ≠ .idle }

/-- The drive state of the axis passes to IDLE, unless it is FAILED: a safe-state entry wins over a transition that the PWM cycle has
had, which is then not announced (R328, R332, R336). The observer source then reports an error (R327). -/
def Lane.supIdle (l : Lane) (nn : AxisId) : Lane :=
  let s := (l.axis nn).sup
  let l := l.onAxis nn fun a => { a with sup := a.sup.toIdle }
  if s.drive = .idle || s.drive = .failed then l
  else l.onAxis nn fun a => { a with
    acc := { a.acc with valid := a.acc.valid && !l.supRuns nn }, sup := { a.sup with movedAt := some l.tm.loc } }

/-- The supervisor of an axis returns to IDLE from whatever state it is in, the failed-catch count kept (R331, R337). -/
def Lane.supHome (l : Lane) (nn : AxisId) : Lane :=
  l.onAxis nn fun a => { a with sup :=
    { Supervisor.cold with fails := a.sup.fails, movedAt := some l.tm.loc, shown := a.sup.shown, say := a.sup.shown ≠ .idle } }

/-- The axis enters its safe state; an axis already in it changes nothing further (R366), an axis without a record in use
stays DISABLED with its switches off (R80). A takeover and an observation of the axis end; a planned handover goes its way, which only
ABORT ends (R354). -/
def Lane.enterSafe (l : Lane) (nn : AxisId) : Lane :=
  if (l.axis nn).safe then l
  else if !l.axisUsed nn then (l.pwmOff nn).driveGates nn
  else
    let pat := l.entryPattern nn
    let l := (l.pwmOff nn).supIdle nn
    let l := l.onAxis nn fun a =>
      { a with safe := true, pattern := pat, patAuto := l.autoPattern nn, gate := { a.gate with cmd := 0 },
               red := { a.red with takeover := none, observing := none } }
    l.driveGates nn

/-- A bridge fault that latches while the axis is in AUTO's short switches it to OPEN (R269). -/
def Lane.autoOpen (l : Lane) (nn : AxisId) : Lane :=
  let a := l.axis nn
  if l.patternHeld nn && a.patAuto && a.pattern ≠ .opened && l.bridgeFault nn then
    (l.onAxis nn fun a => { a with pattern := .opened }).driveGates nn
  else l.driveGates nn

/-- The axis takes a role. The pattern that the die holds follows it: a member that becomes DUPLEX_STANDBY in its safe state
holds all switches off, one that ceases to be takes its configured pattern (R346). -/
def Lane.setRole (l : Lane) (nn : AxisId) (role : Role) : Lane :=
  let was := (l.axis nn).role
  let l := l.onAxis nn fun a => { a with role := role }
  if (l.axis nn).safe && (was = .duplexStandby) ≠ (role = .duplexStandby) then
    (l.onAxis nn fun a => { a with pattern := l.entryPattern nn, patAuto := l.autoPattern nn }).driveGates nn
  else l

/-- The axis leaves its safe state with its switches off and its pattern open; the dead time of the complements of the switches that
turn off runs (R237, R270). -/
def Lane.leaveSafe (l : Lane) (nn : AxisId) : Lane :=
  let l := (l.onAxis nn fun a => { a with pattern := .opened }).driveGates nn
  (l.onAxis nn fun a => { a with safe := false }).driveGates nn

/-- The network-loss profile of an axis ends: AXIS_ENABLE, and an entry to LANE_ACTIVE or a takeover from which the axis drives
afresh (R106). -/
def Lane.endProfile (l : Lane) (nn : AxisId) : Lane := l.onAxis nn fun a => { a with profile := 0, rampDone := false }

/-- Every auxiliary output commanded off (R247, R365). -/
def Lane.auxAllOff (l : Lane) : Lane :=
  { l with aux := l.aux.map fun (x : Aux) => { x with cmd := false, on := false, pulling := false } }.driveAux

/-- What lets an axis be enabled (R267): a valid group, floating supplies above their threshold, no latched gate fault,
x_GDEN high. -/
def Lane.gateReady (l : Lane) (nn : AxisId) : Bool :=
  bit l.gd.valid (groupOf nn) && (l.axis nn).gate.floatLow = 0 && !l.bridgeFault nn && l.gd.gden

end Sys2Proof.Machine
end

