-- ==== Sys2Proof/Machine/Faults.lean ====
section
/-! DEFINITION. The fault collector as every block uses it: the source table (R367), the reactions, the record, the seen
bits and the events of one monitor cycle (R365 to R373), and the entry into LANE_SAFE. -/

namespace Sys2Proof.Machine

/-! ### The fault-source table (R367) -/

/-- A source number of the Reserved rows. -/
def srcReserved (s : Nat) : Bool :=
  (13 ≤ s && s ≤ 15) || (27 ≤ s && s ≤ 31) || s = 94 || s = 95 || (105 ≤ s && s ≤ 111) || 122 ≤ s

/-- A gate fault source, 32 + 4 nn + k. -/
def srcGate (s : Nat) : Bool := 32 ≤ s && s ≤ 79

/-- A level source (R363). -/
def srcLevel (s : Nat) : Bool :=
  s = 0 || s = 2 || s = 12 || (16 ≤ s && s ≤ 22) || (24 ≤ s && s ≤ 26) || (32 ≤ s && s ≤ 91) || (96 ≤ s && s ≤ 103) ||
    (113 ≤ s && s ≤ 116) || s = 120

/-- The Class column: 0 W, 1 N, 2 A, 3 L (R365). -/
def srcClass (s : Nat) : Nat :=
  if s ≤ 5 then 3 else if s ≤ 7 then 2 else if s = 8 then 0 else if s = 9 then 3 else if s = 10 then 2
  else if s = 12 then 3 else if 16 ≤ s && s ≤ 22 then 3 else if s = 25 then 3 else if srcGate s then 2
  else if s = 104 then 1 else if s = 114 || s = 116 then 3 else if s = 118 || s = 121 then 2 else 0

/-- The Raised to column; none for "—" and reserved sources. -/
def srcRaised (s : Nat) : Option Nat :=
  if s = 6 || s = 7 || s = 8 || s = 10 || s = 24 then some 3
  else if srcGate s then some 3
  else if 80 ≤ s && s ≤ 91 then some 2
  else if s = 112 then some 3
  else if s = 117 then some 2
  else if s = 118 || s = 119 || s = 121 then some 3
  else none

/-- The Eligible column: transient-eligible for R108. -/
def srcEligible (s : Nat) : Bool :=
  s = 0 || s = 1 || (4 ≤ s && s ≤ 10) || s = 25 || (srcGate s && s % 4 = 0) || (80 ≤ s && s ≤ 91) || s = 112 || s = 114 ||
    (116 ≤ s && s ≤ 119) || s = 121

/-- The axis channel a source number belongs to (R365). -/
def srcAxis (s : Nat) : Option AxisId :=
  if srcGate s then some (fin ((s - 32) / 4)) else if 80 ≤ s && s ≤ 91 then some (fin (s - 80)) else none

/-! ### One report -/

/-- A report with its WIRE and COMPLEMENT flags (R364, R372). -/
structure Flagged where
  rep : Report
  wire : Bool
  complement : Bool
  deriving DecidableEq, Repr

/-- A plain report of a source with its context (R369). -/
def report (src axis detail index data : Nat) : Flagged :=
  { rep := { src := fin src, axis := BitVec.ofNat 8 axis, detail := BitVec.ofNat 8 detail, index := BitVec.ofNat 16 index,
             data := BitVec.ofNat 64 data, units := [] }, wire := false, complement := false }

/-- The axis channel of this lane that a report concerns: from the source number, else from context byte 0 (R365). -/
def Lane.reportAxis (l : Lane) (f : Flagged) : Option AxisId :=
  match srcAxis f.rep.src.val with
  | some nn => some nn
  | none => l.ownAxis f.rep.axis.toNat

/-- The class a report has now: the raised class where FC_RAISE holds its bit; source 0 does not pass through FC_RAISE
(R368, R372); class A that names no axis is class W (R365). -/
def Lane.reportClass (l : Lane) (f : Flagged) : Nat :=
  let s := f.rep.src.val
  let c := if bit l.fc.raiseBits s then (srcRaised s).getD (srcClass s) else srcClass s
  if c = 2 && (l.reportAxis f).isNone then 0 else c

/-- The report is new: its source exists and is not masked, and its line stood at HEALTHY or has now become invalid (R364, R370,
R377). -/
def Lane.reportNew (l : Lane) (f : Flagged) : Bool :=
  let s := f.rep.src.val
  !srcReserved s && !bit l.fc.mask s && !bit l.fc.invalid s && (f.wire || !bit l.fc.present s)

/-! ### Reactions -/

/-- Runs of a slot end: RUNNING passes to STOPPING, or to STOPPED with no run in flight; a pending trigger is dropped (R146, R160).
DESIGN CHOICE: it is no discarded trigger of R149, and is not counted (notes/assumptions/81.md). -/
def Slot.stop (s : Slot) : Slot :=
  if s.st = .running then
    { s with st := if s.run.isSome then .stopping else .stopped, pendTrig := none, pendLate := false,
             release := none }
  else s

/-- RUN_WHEN_SAFE and AUTOSTART of the slot's image (R139). -/
def Slot.runWhenSafe (s : Slot) : Bool := natBit (fieldAt s.hdr 0x11 1) 1
def Slot.autostart (s : Slot) : Bool := natBit (fieldAt s.hdr 0x11 1) 0
def Slot.keepOne (s : Slot) : Bool := natBit (fieldAt s.hdr 0x11 1) 2
/-- gate_axis of the slot's image (R139). -/
def Slot.gateAxis (s : Slot) : Nat := fieldAt s.hdr 0x12 1

/-- Every slot that must not run outside LANE_ACTIVE stops; in LANE_TEST and SHUTDOWN all do (R160, R162). -/
def Lane.stopSlots (l : Lane) (every : Bool) : Lane :=
  { l with dsp := { l.dsp with slots := l.dsp.slots.map fun (s : Slot) => if every || !s.runWhenSafe then s.stop else s } }

/-- Entry into LANE_SAFE: every axis enters its safe state, every auxiliary output goes off, slots without RUN_WHEN_SAFE
stop; the handover lines follow the lane state (R15, R162, R365). -/
def Lane.enterLaneSafe (l : Lane) : Lane :=
  if l.sys.lstate = .safe then l
  else
    let drove := each (idxs 12) (fun nn d =>
      bitPut d nn.val ((l.axis nn).role = .simplex && (l.axis nn).enabled && !(l.axis nn).safe)) l.sys.drove
    let l := { l with sys := { l.sys with drove := drove, rejoining := false, rejoinTime := false,
                                          autoClear := rejoinMode l.laneRec = 2 } }
    let l := l.toState .safe
    let l := each (idxs 12) (fun nn l => l.enterSafe nn) l
    (l.auxAllOff).stopSlots false

/-- The lane stays in LANE_INIT until lane reset (R376, R396, R500). -/
def Lane.stick (l : Lane) : Lane := { l with sys := { l.sys with stuck := true } }

/-- What a class L report does, by lane state (R365, R376): nothing further in LANE_SAFE, nothing during a start-up test,
a bad clock keeps LANE_INIT for good, everything else leads to LANE_SAFE. -/
def Lane.reactL (l : Lane) (badClock : Bool) : Lane :=
  match l.sys.lstate with
  | .off => l
  | .safe => l
  | .init => if badClock then l.stick else l.enterLaneSafe
  | .test => if l.sys.rejoining then l.enterLaneSafe else l
  | .active => l.enterLaneSafe

/-- Sources 16 to 21: the clocks that LANE_SAFE itself needs (R376, R500). -/
def srcClock (s : Nat) : Bool := 16 ≤ s && s ≤ 21

/-- The first source that named an axis since the last clear (R61). DESIGN CHOICE: of several in one collector cycle, the first in
the order of the reports (notes/assumptions/81.md). -/
def Lane.nameAxis (l : Lane) (f : Flagged) : Lane :=
  match l.reportAxis f with
  | none => l
  | some nn => l.onAxis nn fun a =>
      if a.faultSrc = 0xFF then { a with faultSrc := BitVec.ofNat 8 f.rep.src.val } else a

/-! ### The record -/

/-- The 16 context bytes of a report (R369). -/
def Lane.context (l : Lane) (f : Flagged) : Bytes :=
  [BitVec.ofNat 8 (match srcAxis f.rep.src.val with | some nn => l.dev nn | none => f.rep.axis.toNat), f.rep.detail] ++
    leBytes 2 f.rep.index.toNat ++
    [BitVec.ofNat 8 (b2n f.wire + 2 * b2n f.complement), BitVec.ofNat 8 (lstateCode l.sys.lstate),
     BitVec.ofNat 8 (modeCode l.sys.mode), 0] ++ leBytes 8 f.rep.data.toNat

/-- The record of a report with the class it had. -/
def Lane.record (l : Lane) (f : Flagged) (cls : Nat) : FcRec :=
  { src := f.rep.src, cls := cls, time := l.tm.loc, ctx := l.context f }

/-- Of two reports with their classes, the one to latch: higher class, then lower source (R370). -/
def latchBetter (a b : Flagged × Nat) : Flagged × Nat :=
  if b.2 > a.2 || (b.2 = a.2 && b.1.rep.src.val < a.1.rep.src.val) then b else a

/-- The report to latch among new ones. -/
def latchPick : List (Flagged × Nat) → Option (Flagged × Nat)
  | [] => none
  | x :: xs => match latchPick xs with
    | none => some x
    | some y => some (latchBetter x y)

/-- The lowest source among some. -/
def lowestSrc : List Nat → Option Nat
  | [] => none
  | x :: xs => match lowestSrc xs with
    | none => some x
    | some y => some (if x ≤ y then x else y)

/-- Steps 3 to 6 of R370 for the new reports of a cycle, with the classes they were given: record, overflow, seen bits,
events 208 and 209, FAULT and the notices. -/
def Lane.recordAll (l : Lane) (news : List (Flagged × Nat)) : Lane :=
  let srcs := news.map fun x => x.1.rep.src.val
  let (rec', latched) := match l.fc.first with
    | some r => (some r, false)
    | none => match latchPick news with
      | none => (none, false)
      | some x => (some (l.record x.1 x.2), true)
  let others := match rec' with
    | none => []
    | some r => srcs.filter fun s => s ≠ r.src.val
  let ovf := l.fc.overflow || !others.isEmpty
  let newSeen := srcs.filter fun s => !bit l.fc.seen s
  let rose := ovf && !l.fc.overflow
  let seen := srcs.foldl (fun v s => bitPut v s true) l.fc.seen
  let l := { l with fc := { l.fc with first := rec', overflow := ovf, seen := seen } }
  let l := match latched, rec' with
    | true, some r => (l.event 208 r.src.val).irq 0x40
    | _, _ => l
  let l := match rose, lowestSrc others with
    | true, some s => l.event 209 s
    | _, _ => l
  each newSeen (fun s l => l.notify (.fault s)) l

/-- The contexts that level sources hold at FAULT after new reports: the first report of each, until its line returns to HEALTHY
(R363). -/
def holdLines (lines : List Report) : List Flagged → List Report
  | [] => lines
  | x :: xs =>
    let s := x.rep.src
    holdLines (if srcLevel s.val && !x.wire && !lines.any (fun r => r.src = s) then lines ++ [x.rep] else lines) xs

/-- The lines of level sources that now read FAULT, each with the context its source holds, and the lines that are invalid, masked
ones too (R363, R364, R377). -/
def Lane.raiseLines (l : Lane) (fs : List Flagged) : Lane :=
  let fs := fs.filter fun x => !srcReserved x.rep.src.val
  { l with fc := { l.fc with
      present := fs.foldl (fun v x => if srcLevel x.rep.src.val && !x.wire then bitPut v x.rep.src.val true else v) l.fc.present,
      invalid := fs.foldl (fun v x => if x.wire then bitPut v x.rep.src.val true else v) l.fc.invalid,
      lines := holdLines l.fc.lines fs } }

/-- Class A puts the axis in its safe state, which then lasts until a FAULT_CLEAR and an AXIS_ENABLE (R365, R366). -/
def Lane.reactA (l : Lane) (nn : AxisId) : Lane :=
  if (l.axis nn).safe then l else (l.enterSafe nn).onAxis nn fun a => { a with classA := true }

/-- Step 2 of R370: class L covers the lane, class A its axis; during a rejoin any new fault ends it (R110). -/
def Lane.react (l : Lane) (news : List (Flagged × Nat)) : Lane :=
  let ls := news.filter fun x => x.2 = 3
  let l := if ls.isEmpty then l else l.reactL (l.sys.badClocks.toNat % 64 ≠ 0 || ls.any fun x => srcClock x.1.rep.src.val)
  let l := each news (fun x l => if x.2 = 2 then (match l.reportAxis x.1 with | some nn => l.reactA nn | none => l) else l) l
  if l.sys.rejoining && !news.isEmpty then l.enterLaneSafe else l

/-- One monitor cycle of the collector with the reports given (R370). Each source counts once; a lane that is off or held
in reset collects nothing. -/
def Lane.collect (l : Lane) (fs : List Flagged) : Lane :=
  if l.sys.lstate = .off || l.sys.inReset then l
  else
    let fresh := (fs.filter l.reportNew).foldl (fun (acc : List Flagged) f =>
      if acc.any (fun g => g.rep.src = f.rep.src) then acc else acc ++ [f]) []
    let news := fresh.map fun f => (f, l.reportClass f)
    let l := l.raiseLines fs
    let l := each fresh (fun f l => l.nameAxis f) l
    (l.react news).recordAll news

/-- One report. -/
def Lane.fault (l : Lane) (src axis detail index data : Nat) : Lane := l.collect [report src axis detail index data]

/-- A level source's block drives HEALTHY (R362). -/
def Lane.healthy (l : Lane) (src : Nat) : Lane :=
  { l with fc := { l.fc with present := bitPut l.fc.present src false, lines := l.fc.lines.filter fun r => r.src.val ≠ src } }

/-- x_FAULT_N is low: before the start-up check has passed, while any seen bit is set, in the lane that a failed seal keeps in
LANE_INIT, and while the collector is under test (R373, R391, R396). -/
def Lane.faultPin (l : Lane) : Bool := !l.fc.checked || l.fc.seen ≠ 0 || l.sys.stuck || l.inSlice 23

/-! ### Conditions still present (R374) -/

/-- Whether an INVALID channel counts as present (R309): decided by its state and its supply; see Feedback. -/
def Axis.fbPresent (a : Axis) : Bool := a.fb.running && a.fb.invalid && a.fb.supply ≠ .tripped

/-- FC_PRESENT0 to 3: the lines that are not HEALTHY (R364, R372). -/
def Collector.notHealthy (c : Collector) : BitVec 128 := c.present ||| c.invalid

/-- The bits of FC_PRESENT that keep a fault from being cleared (R374). -/
def Lane.blocking (l : Lane) : Bool :=
  (idxs 128).any fun s => bit l.fc.notHealthy s && !bit l.fc.mask s &&
    !(80 ≤ s.val && s.val ≤ 91 && !(l.axis (fin (s.val - 80))).fbPresent)

/-- A latched trip whose selected source is still active (R243, R374). -/
def Lane.tripBlocks (l : Lane) : Bool :=
  ((idxs 12).any fun nn => (l.axis nn).pwm.latched && l.tripSource nn) ||
    ((idxs 8).any fun x => (vget l.aux x).latched && (auxTripMask (l.auxRec x) % 16 &&& l.afe.trips.toNat) ≠ 0)

end Sys2Proof.Machine
end

