-- ==== Sys2Proof/Machine/Almanac.lean ====
section
/-! DEFINITION. The Almanac (R66 to R73): the entries as the ROM gives them, the live status and capability of each, the
window's bytes, and `State.onLane`, the one way a command changes a lane with the Almanac kept current. -/

namespace Sys2Proof.Machine

/-- Status values (R69). -/
def stAbsent : Nat := 0
def stPresent : Nat := 1
def stAvailable : Nat := 2
def stExcluded : Nat := 3
def stDegraded : Nat := 4

/-- How bad a status is: EXCLUDED, DEGRADED, NOT_PRESENT, PRESENT, AVAILABLE, worst first (R69). -/
def badness (s : Nat) : Nat :=
  if s = stExcluded then 4 else if s = stDegraded then 3 else if s = stAbsent then 2 else if s = stPresent then 1 else 0

/-- The worst of some statuses (R69). -/
def worst (ss : List Nat) : Nat := ss.foldl (fun a b => if badness b > badness a then b else a) stAvailable

/-! ### What an entry describes -/

/-- An entry's fixed part: type, instance, count, handle (R67). -/
structure AlmSpec where
  etype : Nat
  inst : Nat
  count : Nat
  handle : Nat
  deriving DecidableEq, Repr

/-- One entry per instance. -/
def specRun (t n : Nat) (h : Nat → Nat) : List AlmSpec := (List.range n).map fun i => ⟨t, h i, 1, h i⟩

/-- The 144 entries of lane `l` in order of type (R68, R73). -/
def almSpecs (l : LaneId) : List AlmSpec :=
  [⟨1, l.val, 1, l.val⟩] ++ (((List.range 3).filter fun k => k ≠ l.val).map fun k => ⟨2, k, 1, k⟩) ++
  specRun 3 2 id ++ specRun 4 32 id ++ specRun 5 12 (fun i => 12 * l.val + i) ++ specRun 6 8 id ++ specRun 7 12 id ++
  specRun 8 2 id ++ specRun 9 16 id ++ specRun 10 24 id ++ specRun 11 16 id ++
  [⟨12, 0, 64, 0⟩, ⟨13, 0, 512, 0⟩, ⟨14, 0, 16, 0⟩, ⟨15, 0, 8, 0⟩] ++ specRun 16 5 id ++ specRun 17 6 id ++
  [⟨18, 0, 4096, 0⟩, ⟨19, 0, 24, 0⟩]

/-- Highest and lowest version of an interface (R53, R70, R405, R448). -/
def ifaceMax (c : Nat) : Nat := [0x0302, 0x0200, 0x0102, 0x0100, 0x0103, 0x0102].getD c 0
def ifaceMin (c : Nat) : Nat := [0x0200, 0x0100, 0x0100, 0x0100, 0x0100, 0x0100].getD c 0

/-- Memory sizes in KiB (R23, R68). -/
def memKiB (c : Nat) : Nat := [8192, 4096, 256, 512, 64].getD c 0

/-! ### Live status and capability -/

/-- A record of the instance failed its check (R80). -/
def Lane.badRec (l : Lane) (t i : Nat) : Bool := l.sys.bad.contains (t, i)

/-- PRESENT before LANE_ACTIVE, AVAILABLE in it. -/
def Lane.inService (l : Lane) : Nat := if l.sys.lstate = .active then stAvailable else stPresent

/-- Status of a partner lane (R18, R69). -/
def partnerStatus (k : Link) : Nat :=
  if !k.cameUp then stAbsent else if k.line = .r01 then stExcluded
  else if !k.up || k.line = .r00 || k.line = .r11 then stDegraded else stAvailable

/-- Status of an axis channel (R28, R61, R80, R96, R286, R342), the worst that applies: a class A fault, a trip or the safe state of a
class L fault takes it out of service (R69). -/
def Lane.axisStatusEntry (l : Lane) (nn : AxisId) : Nat :=
  let a := l.axis nn
  let peer := laneOfAxis (peer0 (l.axisRec nn))
  if !l.axisUsed nn || a.sense.calFail || a.red.excluded || a.classA || l.axisState nn = 2 ||
    (l.sys.lstate = .safe && a.safe) then stExcluded
  else if a.red.incons then stDegraded
  else if a.role = .duplexActive && l.partners.any (fun k => k.val = peer && (vget l.links k).line = .r01) then stDegraded
  else match l.axisState nn with
    | 3 => stAvailable | 4 => stAvailable | 5 => stAvailable | 6 => stAvailable
    | _ => stPresent

/-- Status of a slot within the grouped entry. -/
def slotStatus (s : Slot) : Nat :=
  match s.st with
  | .empty => stAbsent | .stopped => stPresent | .running => stAvailable | .stopping => stAvailable | .halted => stDegraded
  | .excluded => stExcluded

/-- Status of a stream channel within the grouped entry. -/
def Lane.streamStatus (l : Lane) (c : Fin 16) : Nat :=
  match (vget l.str.chans c).st with
  | .excluded => stExcluded | .halted => stDegraded
  | .stopped => if passCount (l.streamRec c) = 0 then stAbsent else stPresent
  | _ => stAvailable

/-- Status of an endpoint within the grouped entry. -/
def Lane.epStatus (l : Lane) (e : Fin 512) : Nat :=
  if l.badRec 8 e.val then stExcluded
  else match (vget l.eps e).st with
    | .closed => if connRole (l.connRec e) = 0 then stAbsent else stPresent
    | .failed => stDegraded | .stale => stDegraded
    | _ => stAvailable

/-- An endpoint is open: any state but CLOSED (R456). -/
def Endpoint.isOpen (e : Endpoint) : Bool := e.st ≠ .closed

/-- Bits from a predicate over indexes. -/
def maskOf {n : Nat} (f : Fin n → Bool) : Nat := (idxs n).foldl (fun a i => if f i then a + 2 ^ i.val else a) 0

/-- A port of a Green owns a COLDSTART slot (R408). -/
def Lane.coldstartPort (l : Lane) (g : GreenId) (p : Nat) : Bool :=
  (l.schedule g).any fun e => e.used && e.kind = 3 && e.owner = p

/-- Live status of an entry. -/
def Lane.liveStatus (l : Lane) (e : AlmSpec) : Nat :=
  match e.etype with
  | 1 => if l.sys.laneRecBad || l.tst.sealState = .failed || l.sys.lstate = .safe then stExcluded else l.inService
  | 2 => partnerStatus (vget l.links (fin e.inst))
  | 3 => match (vget l.net.chan (fin e.inst)).view with
    | .absent => stAbsent | .present => stAvailable | .lost => stExcluded
  | 4 => match vget (vget l.net.chan (fin (e.inst / 16))).ports (fin (e.inst % 16)) with
    | .opened => stAvailable | .closed => stExcluded | .unknown => stAbsent | _ => stPresent
  | 5 => l.axisStatusEntry (fin (e.inst % 12))
  | 6 => if l.badRec 3 e.inst || (vget l.aux (fin e.inst)).latched || l.sys.lstate = .safe then stExcluded else l.inService
  | 7 => let f := (l.axis (fin e.inst)).fb
    if f.invalid then stExcluded else if f.running then stAvailable else stPresent
  | 8 => if l.badRec 5 e.inst then stExcluded else if (vget l.emu (fin e.inst)).running then stAvailable else stPresent
  | 9 => if l.badRec 4 e.inst then stExcluded
    else if pairMode (l.pairRec (fin e.inst)) = 0 then stPresent
    else if (vget l.inp.pairs (fin e.inst)).forced then stDegraded else stAvailable
  | 10 => if l.badRec 6 e.inst then stExcluded else l.inService
  | 11 => if l.badRec 7 e.inst then stExcluded else l.inService
  | 12 => worst ((idxs 64).map fun k => slotStatus (l.slot k))
  | 13 => worst ((idxs 512).map fun k => l.epStatus k)
  | 14 => worst ((idxs 16).map fun k => l.streamStatus k)
  | 15 => worst ((idxs 8).map fun m =>
      if m.val < 4 || serviceConn l.laneRec (m.val - 4) ≠ 0 then stAvailable else stAbsent)
  | 19 => match l.tst.sealState with | .failed => stExcluded | .partialRun => stDegraded | _ => stAvailable
  | _ => stAvailable

/-- Live capability of an entry (R68). -/
def Lane.liveCap (l : Lane) (e : AlmSpec) : Nat :=
  match e.etype with
  | 1 => 0x0203
  | 2 => let k := vget l.links (fin e.inst)
    b2n k.up + 2 * b2n (k.line = .r00 || k.line = .r11)
  | 3 => let c := vget l.net.chan (fin e.inst)
    (if c.gotNow || c.gotPrev then (2 ^ l.idx.val) else 0) ||| (c.lanesNow ||| c.lanesPrev).toNat
  | 4 => b2n (l.coldstartPort (fin (e.inst / 16)) (e.inst % 16)) + 2 * b2n (e.inst % 16 < 3)
  | 5 => let nn : AxisId := fin (e.inst % 12)
    b2n (isHeavy nn.val) + 2 * (if l.axisUsed nn then roleCode (l.axis nn).role else 0) +
      16 * (if l.axisUsed nn then safeState (l.axisRec nn) % 16 else 0)
  | 6 => Config.auxRated e.inst % 65536
  | 7 => 0xF
  | 8 => 10000
  | 9 => let r := l.pairRec (fin e.inst)
    maskOf fun k : Fin 4 => tp1 r = k.val || tp2 r = k.val
  | 11 => 256
  | 12 => 8192
  | 13 => (l.eps.toList.filter Endpoint.isOpen).length
  | 14 => maskOf fun c : Fin 16 => (vget l.str.chans c).st = .halted
  | 15 => maskOf fun m : Fin 8 => (l.mb m).nego.isSome
  | 16 => memKiB e.inst
  | 17 => ifaceMin e.inst
  | 18 => l.fl.book.length
  | 19 => l.tst.untested.toNat % 2 ^ 24
  | _ => 0

/-- Capabilities that ROM and fuses give before Gamar sets live values (R73). -/
def romCap (e : AlmSpec) : Nat :=
  match e.etype with
  | 1 => 0x0203 | 4 => 2 * b2n (e.inst % 16 < 3) | 5 => b2n (isHeavy (e.inst % 12)) | 6 => Config.auxRated e.inst % 65536
  | 7 => 0xF | 8 => 10000 | 11 => 256 | 12 => 8192 | 16 => memKiB e.inst | 17 => ifaceMin e.inst | _ => 0

/-- Status and capability of every entry now. -/
def Lane.almLive (l : Lane) : List (Byte × W32) :=
  (almSpecs l.idx).map fun e => (BitVec.ofNat 8 (l.liveStatus e), BitVec.ofNat 32 (l.liveCap e))

/-- The entries of a lane that a FAILED seal keeps in LANE_INIT: the ROM contents, its own entry EXCLUDED (R73, R396). -/
def Lane.almFailed (l : Lane) : List (Byte × W32) :=
  (almSpecs l.idx).map fun e =>
    (BitVec.ofNat 8 (if e.etype = 1 then stExcluded else stPresent), BitVec.ofNat 32 (romCap e))

/-- What the Almanac has to show: live entries from GAMAR_READY on; before that the ROM contents stand, none, but for a lane that a
FAILED seal keeps in LANE_INIT (R73, R396). -/
def Lane.almNow (l : Lane) : Option (List (Byte × W32)) :=
  if l.hp.ready then some l.almLive else if l.sys.stuck && l.tst.sealState = .failed then some l.almFailed else none

/-- The Almanac is brought up to date: one update and one generation for what changed (R66, R72). -/
def Lane.almSync (l : Lane) : Lane :=
  match l.almNow with
  | none => l
  | some e => if l.alm.entries = e then l else { l with alm := { generation := l.alm.generation + 1, entries := e } }

/-! ### The bytes of the window -/

/-- Version field of an entry (R67, R68). -/
def entryVersion (e : AlmSpec) : Nat := if e.etype = 17 then ifaceMax e.inst else Config.blockVersion e.etype % 65536

/-- One entry of 16 bytes (R67). -/
def entryBytes (e : AlmSpec) (st cap : Nat) : Bytes :=
  leBytes 1 e.etype ++ leBytes 1 st ++ leBytes 2 e.inst ++ leBytes 2 (entryVersion e) ++ leBytes 2 e.count ++
    leBytes 2 e.handle ++ leBytes 2 0 ++ leBytes 4 cap

/-- All entries as the window shows them. -/
def Lane.almEntries (l : Lane) : Bytes :=
  let es := almSpecs l.idx
  if l.alm.entries.isEmpty then es.flatMap fun e => entryBytes e stPresent (romCap e)
  else (es.zip l.alm.entries).flatMap fun x => entryBytes x.1 x.2.1.toNat x.2.2.toNat

/-- The header without its crc (R66). -/
def Lane.almHead (l : Lane) : Bytes :=
  leBytes 4 0x414C4D4E ++ leBytes 2 0x0102 ++ leBytes 2 144 ++ leBytes 4 2336 ++ leBytes 4 l.alm.generation.toNat ++
    leBytes 2 0x3960 ++ leBytes 1 l.idx.val ++ List.replicate 9 0

/-- The Almanac: header and entries, 2,336 bytes (R66, R73). -/
def Lane.almBytes (l : Lane) : Bytes :=
  let h := l.almHead
  let es := l.almEntries
  h ++ leBytes 4 (crc32c (h ++ es)) ++ es

/-! ### Changing a lane -/

/-- Lane `l` changed by `f`; then waiting notices are queued where Gamar can (R378), and the Almanac is brought up to date. -/
def State.onLane (s : State) (l : LaneId) (f : Lane → Lane) : State := s.setLane l (f (s.lane l)).noticeSync.almSync

end Sys2Proof.Machine
end

