-- ==== Sys2Proof/Machine/Checks.lean ====
section
/-! DEFINITION. What a record or a staged set must satisfy to be committed: reserved values and ranges of every record
type, and the checks that look at several records together (R9, R28, R85 step 3 and the rules each record names). -/

namespace Sys2Proof.Machine

/-! ### Fields -/

/-- A field within a range and on a grid: offset, size, lowest, highest, step. -/
structure Grid where
  off : Nat
  size : Nat
  lo : Nat
  hi : Nat
  step : Nat
  deriving DecidableEq, Repr

/-- The field's value `v` lies on the grid. -/
def onGrid (lo hi step v : Nat) : Bool := lo ≤ v && v ≤ hi && (v - lo) % step = 0

/-- The record's field lies on its grid. -/
def Grid.ok (r : Bytes) (g : Grid) : Bool := onGrid g.lo g.hi g.step (fieldAt r g.off g.size)

/-- Reserved bytes are 0 (R9): offset and length. -/
def zeroAt (r : Bytes) (z : Nat × Nat) : Bool := fieldAt r z.1 z.2 = 0

/-- Ranges and reserved bytes together. -/
def fieldsOk (r : Bytes) (gs : List Grid) (zs : List (Nat × Nat)) : Bool := gs.all (Grid.ok r) && zs.all (zeroAt r)

/-- Every raise bit names a source that can be raised (R368). -/
def raiseOk (v : Nat) : Bool := (List.range 128).all fun s => !natBit v s || (!srcReserved s && (srcRaised s).isSome)

/-- The lane record alone (R103, R291, R292, R368, R406, R427, R428). -/
def laneOk (r : Bytes) : Bool :=
  fieldsOk r
    [⟨0x14, 1, 1, 64, 1⟩, ⟨0x15, 1, 1, 7, 1⟩, ⟨0x16, 1, 1, 64, 1⟩, ⟨0x17, 1, 2, 64, 1⟩, ⟨0x20, 2, 10, 60000, 1⟩,
     ⟨0x31, 1, 0, 3, 1⟩, ⟨0x32, 2, 50, 10000, 1⟩, ⟨0x34, 2, 1, 500, 1⟩, ⟨0x36, 1, 2, 64, 1⟩, ⟨0x37, 1, 2, 16, 1⟩,
     ⟨0x38, 1, 1, 8, 1⟩, ⟨0x40, 2, 0, 60000, 1⟩, ⟨0x42, 2, 1, 60000, 1⟩, ⟨0x4C, 1, 0, 2, 1⟩, ⟨0x4D, 1, 0, 1, 1⟩,
     ⟨0x4E, 2, 10, 10000, 1⟩, ⟨0x50, 2, 8, 4096, 1⟩, ⟨0x52, 1, 2, 8, 1⟩, ⟨0x60, 2, 0, 4095, 1⟩,
     ⟨0x62, 2, 250, 1500, 1⟩, ⟨0x64, 2, 0, 1200, 1⟩, ⟨0x66, 2, 10, 1000, 1⟩]
    [(0x22, 14), (0x39, 7), (0x4A, 2), (0x53, 13), (0x6A, 6)] &&
  ((idxs 12).all fun nn => lossProfile r nn ≤ 3) && busMinDv r < busOvDv r && raiseOk (raiseField r) &&
  !((natBit (timeFlags r) 0 || natBit (timeFlags r) 1) && rank r = 0xFF)

/-- The role and redundancy section (R340, R341): a BFP word that is not negative has mantissa bit 31 clear. -/
def roleOk (r : Bytes) : Bool :=
  fieldsOk r
    [⟨0x10, 1, 0, 4, 1⟩, ⟨0x13, 1, 1, 255, 1⟩, ⟨0x18, 1, 0, 2, 1⟩, ⟨0x19, 1, 1, 255, 1⟩, ⟨0x1A, 2, 1, 16384, 1⟩,
     ⟨0x1C, 2, 1, 65535, 1⟩, ⟨0x20, 2, 50, 60000, 1⟩, ⟨0x22, 1, 0, 1, 1⟩, ⟨0x23, 1, 0, 3, 1⟩, ⟨0x24, 2, 50, 10000, 1⟩,
     ⟨0x26, 2, 10, 10000, 1⟩]
    [(0x28, 8)] &&
  (peer0 r = 0xFF || peer0 r < 36) && (peer1 r = 0xFF || peer1 r < 36) && triTol r < 2 ^ 31

/-- Group rules that one axis record shows (R28, R341): `a` is its own device axis. -/
def groupOk (r : Bytes) (a : Nat) : Bool :=
  let p0 := peer0 r
  let p1 := peer1 r
  let far (p : Nat) : Bool := p ≠ 0xFF && p / 12 ≠ a / 12 && isHeavy (p % 12) = isHeavy (a % 12)
  match cfgRole r with
  | 0 => p0 = 0xFF && p1 = 0xFF
  | 1 => p0 = 0xFF && p1 = 0xFF
  | 2 => far p0 && far p1 && p0 / 12 ≠ p1 / 12
  | _ => far p0 && p1 = 0xFF

/-- The period rules of R233 for a single switch or a pair: carrier, period, fixed and limit times in ns, dead time in
steps, minimum pulse in ns. A step is 5/32 ns (R228). -/
def carrierOk (carrier period fixed limit dead mp : Nat) : Bool :=
  if carrier ≤ 1 then
    onGrid 2000 100000 1 period && fixed = 0 && limit = 0 && 2 * (5 * dead + 32 * mp) ≤ 160 * period
  else
    period = 0 && onGrid 1000 1000000 1 fixed && onGrid 1000 10000000 1 limit && fixed + mp ≤ limit

/-- The PWM section (R231, R233). -/
def pwmOk (r : Bytes) : Bool :=
  fieldsOk r
    [⟨0x30, 1, 0, 3, 1⟩, ⟨0x31, 1, 0, 7, 1⟩, ⟨0x32, 1, 0, 0x3F, 1⟩, ⟨0x33, 1, 0, 1, 1⟩, ⟨0x38, 2, 0, 64000, 1⟩,
     ⟨0x3A, 2, 0, 64000, 1⟩, ⟨0x3C, 2, 0, 64000, 1⟩, ⟨0x3E, 2, 50, 2000, 1⟩, ⟨0x48, 1, 0, 0x3F, 1⟩, ⟨0x49, 1, 1, 6, 1⟩,
     ⟨0x4A, 1, 0, 0x3F, 1⟩, ⟨0x4B, 1, 0, 0x3F, 1⟩, ⟨0x4C, 1, 0, 0x3F, 1⟩, ⟨0x4D, 1, 0, 0x3F, 1⟩, ⟨0x4E, 1, 0, 0x3F, 1⟩,
     ⟨0x4F, 1, 0, 0x3F, 1⟩, ⟨0x54, 1, 0, 1, 1⟩]
    [(0x55, 27)] &&
  ((idxs 3).all fun p => carrierOk (carrier r) (periodCycles r) (tFixedNs r) (tLimitNs r) (deadOf r p) (minPulseNs r)) &&
  (if carrier r ≤ 1 then offsetCycles r < periodCycles r else offsetCycles r = 0)

/-- The gate section (R255, R256). -/
def gateOk (r : Bytes) (heavy : Bool) : Bool :=
  fieldsOk r
    [⟨0x70, 1, 0, 15, 1⟩, ⟨0x71, 1, 0, 15, 1⟩, ⟨0x73, 1, 0, 15, 1⟩, ⟨0x74, 2, 200, 2000, 50⟩, ⟨0x76, 2, 250, 8000, 50⟩,
     ⟨0x7E, 2, 200, 4000, 50⟩, ⟨0x80, 1, 0, 2, 1⟩]
    [(0x81, 15)] &&
  (if heavy then
    softStep r = 0 && onGrid 60 120 5 (tltoLevel r) && onGrid 5 80 1 (tltoTime r) &&
    (if natBit (gateFlags r) 2 then
      onGrid 20 500 5 (scellMv r) && onGrid 50 1000 10 (scellFastMv r) && scellMv r < scellFastMv r
     else (scellMv r = 0 || onGrid 20 500 5 (scellMv r)) && (scellFastMv r = 0 || onGrid 50 1000 10 (scellFastMv r))) &&
    (!natBit (gateFlags r) 3 || (idxs 3).all fun p => tltoTime r * 50 * 32 < deadOf r p * 5)
   else
    softStep r ≤ 7 && gateFlags r < 4 && scellMv r = 0 && scellFastMv r = 0 && tltoLevel r = 0 && tltoTime r = 0)

/-- A conversion set's trigger, content and position (R282, R291, R292). -/
def convOk (r : Bytes) (k : Fin 2) : Bool :=
  setTrigger r k ≤ 4 && setContent r k ≤ 2 &&
    (if setTrigger r k = 3 then carrier r ≤ 1 && setPosition r k < periodCycles r else setPosition r k = 0)

/-- The sensing section (R291, R292). -/
def senseOk (r : Bytes) : Bool :=
  fieldsOk r [⟨0x90, 1, 0, 4, 1⟩, ⟨0x91, 1, 0, 3, 1⟩, ⟨0xA0, 2, 1, 8191, 1⟩, ⟨0xA4, 2, 0, 1000, 10⟩]
    [(0x9A, 2), (0xAC, 4)] &&
  convOk r 0 && convOk r 1 && 0xE000 ≤ ocNeg r &&
  ((idxs 3).all fun p => -512 ≤ offsetOf r p && offsetOf r p ≤ 512)

/-- A field of another protocol: 0 or its default (R297). -/
def idle (v d : Nat) : Bool := v = 0 || v = d

/-- The feedback section (R297, R298). -/
def feedbackOk (r : Bytes) : Bool :=
  let abz := protocol r = 1
  let ssi := protocol r = 3
  let sent := protocol r = 4
  fieldsOk r
    [⟨0xB0, 1, 0, 4, 1⟩, ⟨0xB1, 1, 0, 7, 1⟩, ⟨0xB2, 1, 0, 3, 1⟩, ⟨0xB3, 1, 1, 64, 1⟩, ⟨0xC4, 1, 0, 15, 1⟩,
     ⟨0xC5, 1, 1, 255, 1⟩, ⟨0xC6, 1, 1, 255, 1⟩, ⟨0xCA, 2, 1, 10000, 1⟩, ⟨0xCC, 2, 0, 1000, 1⟩, ⟨0xD3, 1, 0, 1, 1⟩]
    [(0xDC, 4)] &&
  (ssi || !natBit (fbFlags r) 2) &&
  (if abz then
    onGrid 4 16777216 4 (cpr r) && indexCount r < cpr r && indexMode r ≤ 2 && zGate r ≤ 3 && indexTol r ≤ 1024
   else cpr r = 0 && indexCount r = 0 && indexMode r = 0 && idle (zGate r) 3 && idle (indexTol r) 4) &&
  (if ssi then
    ssiTrigger r ≤ 2 && 1 ≤ timeout10us r && onGrid 100 10000 100 (ssiKhz r) && onGrid 8 32 1 (stBits r) &&
    mtBits r ≤ 16 && ssiStatus r ≤ 8 && ssiCrc r ≤ 1 && onGrid 1 64 1 (monoUs r) &&
    (errBit r = 0xFF || errBit r < ssiStatus r) && mtBits r + stBits r + ssiStatus r + 6 * ssiCrc r ≤ 62
   else ssiTrigger r = 0 && ssiKhz r = 0 && mtBits r = 0 && ssiStatus r = 0 && ssiCrc r = 0 && monoUs r = 0) &&
  (if sent then
    onGrid 3 6 1 (sentNibbles r) && onGrid 3000 90000 50 (sentTickNs r) && sentEsm r ≤ 3 &&
    !(natBit (sentEsm r) 1 && !natBit (sentEsm r) 0) && onGrid 12 24 4 (stBits r) && stBits r ≤ 4 * sentNibbles r &&
    (errBit r = 0xFF || errBit r ≤ 1) && 1 ≤ timeout10us r &&
    (56 + 27 * (sentNibbles r + 2)) * sentTickNs r ≤ timeout10us r * 10000
   else sentNibbles r = 0 && sentTickNs r = 0 && sentEsm r = 0 && sentDiagId r = 0) &&
  (ssi || sent || (timeout10us r = 0 && stBits r = 0 && idle (errBit r) 0xFF))

/-- The commutation and safe-state section alone (R322, R323). -/
def commOk (r : Bytes) : Bool :=
  fieldsOk r
    [⟨0xE0, 1, 0, 3, 1⟩, ⟨0xE1, 1, 0, 3, 1⟩, ⟨0xE2, 1, 0, 7, 1⟩, ⟨0xE3, 1, 0, 15, 1⟩, ⟨0xE4, 2, 0, 65529, 1⟩,
     ⟨0xE6, 2, 50, 500, 1⟩, ⟨0xE8, 2, 1, 16384, 1⟩, ⟨0xEA, 1, 1, 64, 1⟩, ⟨0xEB, 1, 1, 64, 1⟩, ⟨0xEC, 2, 10, 10000, 1⟩,
     ⟨0xEE, 1, 1, 4, 1⟩, ⟨0xEF, 1, 1, 255, 1⟩, ⟨0xF0, 2, 1, 65535, 1⟩, ⟨0xF2, 2, 1, 65535, 1⟩, ⟨0xF4, 2, 1, 65535, 1⟩,
     ⟨0xF6, 2, 1, 65535, 1⟩, ⟨0xF8, 2, 1, 8191, 1⟩, ⟨0xFA, 2, 1, 10000, 1⟩]
    [(0xFE, 2)] &&
  (announceUs r = 0 || onGrid 50 10000 1 (announceUs r)) && hfiEnterDhz r < hfiExitDhz r && catchMinDhz r ≤ hfiExitDhz r &&
  !(startMode r ≠ 0 && angleSource r ≤ 1) && !(natBit (commFlags r) 1 && 2 ≤ carrier r)

/-- An axis record alone; `a` is its device axis. -/
def axisOk (r : Bytes) (a : Nat) : Bool :=
  roleOk r && groupOk r a && pwmOk r && gateOk r (isHeavy (a % 12)) && senseOk r && feedbackOk r && commOk r

/-- An auxiliary coil record (R246). -/
def auxOk (r : Bytes) : Bool :=
  fieldsOk r
    [⟨0x10, 1, 0, 3, 1⟩, ⟨0x11, 1, 0, 2, 1⟩, ⟨0x16, 1, 0, 1, 1⟩, ⟨0x17, 1, 0, 3, 1⟩, ⟨0x24, 2, 0, 10000, 1⟩,
     ⟨0x2A, 2, 50, 2000, 1⟩, ⟨0x2C, 1, 0, 15, 1⟩]
    [(0x2E, 18)] &&
  carrierOk (auxCarrier r) (auxPeriod r) (auxFixedNs r) (auxLimitNs r) 0 (auxMinPulseNs r) &&
  (auxSense r = 0xFF || auxSense r ≤ 11) && !(2 ≤ auxCarrier r && auxSense r = 0xFF) &&
  (match auxSource r with
    | 1 => auxIndex r ≤ 511 && auxBit r ≤ 767
    | 2 => auxIndex r ≤ 15 && auxBit r = 0
    | _ => true)

/-- An input pair record (R464). -/
def pairOk (r : Bytes) : Bool :=
  fieldsOk r
    [⟨0x10, 1, 0, 2, 1⟩, ⟨0x13, 1, 0, 1, 1⟩, ⟨0x14, 2, 1, 2000, 1⟩, ⟨0x16, 2, 100, 50000, 10⟩, ⟨0x18, 1, 2, 255, 1⟩,
     ⟨0x19, 1, 0, 1, 1⟩, ⟨0x1A, 2, 10, 10000, 1⟩, ⟨0x1C, 2, 10, 60000, 1⟩]
    [(0x1E, 2)] &&
  (tp1 r = 0xFF || tp1 r ≤ 3) && (tp2 r = 0xFF || tp2 r ≤ 3) && !(tp1 r = tp2 r && tp1 r ≠ 0xFF)

/-- An encoder emulation record of lane `l` (R315). -/
def emulOk (l : LaneId) (r : Bytes) : Bool :=
  fieldsOk r [⟨0x11, 1, 2, 3, 1⟩, ⟨0x12, 1, 0, 7, 1⟩, ⟨0x13, 1, 0, 1, 1⟩, ⟨0x14, 4, 1, 65536, 1⟩, ⟨0x1C, 2, 1, 65535, 1⟩]
    [(0x1E, 2)] &&
  -- The Default 0 of a factory record names an axis of Ochre; a written record names one of the serving lane (R4).
  emulAxis r / 12 = l.val && emulAxis r < 36

/-- A compare record (R129, R130). -/
def compareOk (r : Bytes) : Bool :=
  fieldsOk r [⟨0x10, 1, 0, 3, 1⟩, ⟨0x11, 1, 0, 2, 1⟩, ⟨0x12, 1, 0, 1, 1⟩, ⟨0x13, 1, 0, 2, 1⟩, ⟨0x14, 4, 0, 2147483647, 1⟩]
    [(0x18, 8)] &&
  !(cmpSource r ≤ 1 && (cmpDirection r ≠ 0 || cmpFlags r ≠ 0)) && !(cmpDirection r = 2 && cmpPeriod r ≠ 0)

/-- A delay list record of lane `l` (R122). -/
def delayOk (l : LaneId) (r : Bytes) : Bool :=
  fieldsOk r [⟨0x10, 1, 0, 3, 1⟩, ⟨0x12, 1, 0, 1, 1⟩] [(0x13, 1), (0x18, 8)] &&
  (if dlSource r ≤ 1 then dlAxis r = 0 && dlDirection r = 0 && dlLead r ≤ 1000000
   else dlAxis r / 12 = l.val && dlAxis r < 36 && dlLead r ≤ 65535)

/-- ver_min and ver_max of a safety connection record (R450). -/
def verMin (r : Bytes) : Nat := connVersions r % 16
def verMax (r : Bytes) : Nat := connVersions r / 16

/-- A safety connection record alone (R450, R451). -/
def connOk (r : Bytes) (e : Nat) : Bool :=
  fieldsOk r
    [⟨0x12, 1, 0, 2, 1⟩, ⟨0x1C, 2, 0, 1023, 1⟩, ⟨0x1E, 1, 4, 96, 1⟩, ⟨0x2C, 1, 0, 1, 1⟩, ⟨0x2D, 1, 1, 255, 1⟩,
     ⟨0x2E, 1, 0, 1, 1⟩]
    [(0x2F, 1), (0x32, 14)] &&
  onGrid 1 2 1 (verMin r) && onGrid 1 2 1 (verMax r) && verMin r ≤ verMax r && (connId r ≠ 0 || connRole r = 0) &&
  !(64 < connLength r && verMin r = 1) && (peerEndpoint r = 0xFFFF || (peerEndpoint r ≤ 511 && peerEndpoint r ≠ e)) &&
  (match connRole r with
    | 1 => connGroup r = 0xFF && maxAgeUs r = 0 && watchdogUs r = 0 && (refreshUs r = 0 || onGrid 100 10000000 1 (refreshUs r))
    | 2 => (connGroup r = 0xFF || connGroup r ≤ 15) && onGrid 10 1000000 1 (maxAgeUs r) &&
        onGrid 100 10000000 1 (watchdogUs r) && refreshUs r = 0
    | _ => (connGroup r = 0xFF || connGroup r ≤ 15) && (maxAgeUs r = 0 || onGrid 10 1000000 1 (maxAgeUs r)) &&
        (watchdogUs r = 0 || onGrid 100 10000000 1 (watchdogUs r)) && (refreshUs r = 0 || onGrid 100 10000000 1 (refreshUs r)))

/-- An event number that R134 reserves. -/
def eventReserved (e : Nat) : Bool :=
  (151 ≤ e && e ≤ 157) || (202 ≤ e && e ≤ 207) || (213 ≤ e && e ≤ 223) || (228 ≤ e && e ≤ 239)

/-- Wrap sizes of a stream descriptor in bytes, 0 none (R479). -/
def wrapBytes (n : Nat) : Nat := if n = 0 then 0 else 2 ^ (n + 5)
def srcWrap (r : Bytes) : Nat := wrapBytes (wrapField r % 16)
def dstWrap (r : Bytes) : Nat := wrapBytes (wrapField r / 16)

/-- The base and span of the window that holds a virtual address, and whether streams may read and write it; the spans of
R481 with the endpoint windows left to their roles. -/
structure VaWindow where
  base : Nat
  span : Nat
  rd : Bool
  wr : Bool
  deriving DecidableEq, Repr

/-- The window of R481 that a stream virtual address lies in; `role` gives the role of an endpoint. -/
def vaWindow (role : Nat → Nat) (a : Nat) : Option VaWindow :=
  if 0x10000000 ≤ a ∧ a < 0x11000000 then some ⟨a / 0x40000 * 0x40000, 0x40000, true, true⟩
  else if 0x14000000 ≤ a ∧ a < 0x15000000 then some ⟨a / 0x40000 * 0x40000, 0x40000, true, false⟩
  else if 0x20000000 ≤ a ∧ a < 0x20010000 then
    let ro := role ((a - 0x20000000) / 0x80)
    some ⟨a / 0x80 * 0x80, 0x80, ro = 2, ro = 1⟩
  else if 0x30000000 ≤ a ∧ a < 0x30010000 then some ⟨0x30000000, 0x10000, true, false⟩
  else if 0x40000000 ≤ a ∧ a < 0x40100000 then some ⟨0x40000000, 0x100000, false, true⟩
  else if 0x50000000 ≤ a ∧ a < 0x50100000 then some ⟨0x50000000, 0x100000, true, true⟩
  else none

/-- The addresses that one side of a stream touches: the wrap block, or the straight range (R479, R483). -/
def sideRange (va wrap count : Nat) : Nat × Nat := if wrap = 0 then (va, count) else (va / wrap * wrap, wrap)

/-- One side of a stream lies within the span of one window with the access it needs (R480). -/
def sideOk (role : Nat → Nat) (va wrap count : Nat) (write : Bool) : Bool :=
  match vaWindow role va with
  | none => false
  | some w =>
    let (b, n) := sideRange va wrap count
    w.base ≤ b && b + n ≤ w.base + w.span && (if write then w.wr else w.rd)

/-- The window that an address lies in, if any, gives the access that a side needs (R480). -/
def accessOk (role : Nat → Nat) (va : Nat) (write : Bool) : Bool :=
  match vaWindow role va with
  | none => true
  | some w => if write then w.wr else w.rd

/-- A stream descriptor record alone, but for its windows (R479, R480). -/
def streamOk (r : Bytes) : Bool :=
  fieldsOk r [⟨0x1B, 1, 0, 15, 1⟩, ⟨0x1D, 1, 1, 7, 1⟩, ⟨0x1F, 1, 0, 31, 1⟩] [] &&
  (if natBit (streamFlags r) 0 then !eventReserved (streamTrigger r) else streamTrigger r = 0) &&
  !(natBit (streamFlags r) 3 && passCount r = 0)

/-- Trunk ports of a cascade record: byte j of trunk_a (0) or trunk_b (1) (R470). -/
def trunkPort (r : Bytes) (g : GreenId) (j : Nat) : Nat := (if g = 0 then trunkA r else trunkB r) / 256 ^ j % 256

/-- A cascade record alone (R470, R471). DEDUCED: the steps of trunk_window_ns are the multiples of 8, which its Default 1,600 and its
end 4,000 are, and its other end 500 is taken too (notes/assumptions/81.md). -/
def cascadeOk (r : Bytes) : Bool :=
  fieldsOk r [⟨0x10, 1, 0, 3, 1⟩, ⟨0x11, 1, 1, 4, 1⟩, ⟨0x12, 1, 2, 8, 1⟩, ⟨0x1C, 2, 500, 4000, 1⟩] [(0x13, 1), (0x1E, 34)] &&
  (trunkWindowNs r % 8 = 0 || trunkWindowNs r = 500) &&
  cascadeIndex r < cascadeDevices r &&
  (idxs 2).all fun g =>
    ((List.range 4).all fun j =>
      let p := trunkPort r g j
      (p = 0xFF || (3 ≤ p && p ≤ 15)) && (p = 0xFF || (j ≠ cascadeIndex r && j < cascadeDevices r)) &&
      (if cascadeIndex r = 0 then !(1 ≤ j && j < cascadeDevices r && p = 0xFF)
       else if j = 0 then p ≠ 0xFF else p = 0xFF)) &&
    ((List.range 4).all fun j => (List.range j).all fun i => trunkPort r g i = 0xFF || trunkPort r g i ≠ trunkPort r g j)

/-- A slot entry alone, in a cycle of `cyc` ns (R9, R407, R408, R428): R408 asks the least length of a used slot only, everything
else of every entry, an unused one too. -/
def entryOk (cyc : Nat) (b : Bytes) : Bool :=
  let e := slotEntry b
  (!e.used || (1000 ≤ e.lengthNs && 2 * e.acceptNs + 672 ≤ e.lengthNs)) &&
  e.acceptNs ≤ e.startNs && e.startNs + e.lengthNs + 2000 ≤ cyc &&
  [1, 2, 4, 8, 16, 32, 64].contains e.rep && e.base < e.rep && e.owner ≤ 18 && onGrid 1 4 1 e.kind &&
  onGrid 16 4000 8 e.acceptNs && e.flags ≤ 1 && (e.flags = 0 || e.kind = 3) && (e.kind ≠ 3 || e.rep = 1) &&
  fieldAt b 15 1 = 0

/-- Two slots occur in a common cycle (R408). -/
def meet (a b : SlotEntry) : Bool := let g := min a.rep b.rep; g = 0 || a.base % g = b.base % g

/-- Two used slots overlap (R408). -/
def overlap (a b : SlotEntry) : Bool :=
  a.used && b.used && meet a b && a.startNs - a.acceptNs < b.startNs + b.lengthNs && b.startNs - b.acceptNs < a.startNs + a.lengthNs

/-- No two slots of a list overlap. -/
def noOverlap : List SlotEntry → Bool
  | [] => true
  | e :: es => es.all (fun f => !overlap e f) && noOverlap es

/-- One schedule: at most 1,024 entries (R74, R407), at most 8 ports with COLDSTART set (R408). -/
def scheduleOk (cyc : Nat) (r : Rec) : Bool :=
  let es := r.entries
  let ss := es.map slotEntry
  es.length ≤ 1024 && es.all (entryOk cyc) && noOverlap ss &&
    ((ss.filter fun e => e.flags = 1).map SlotEntry.owner).dedup.length ≤ 8

/-- The two instances agree on the slots they share, and on the lane ports in every entry that both hold, an unused one too (R408). -/
def schedulePairOk (a b : List SlotEntry) : Bool :=
  let z : SlotEntry := ⟨0, 0, 0, 0, 1, 0, 0, 0⟩
  (List.range (max a.length b.length)).all fun i =>
    let x := a.getD i z
    let y := b.getD i z
    (!(x.used && y.used) ||
      (x.startNs = y.startNs && x.lengthNs = y.lengthNs && x.kind = y.kind && x.rep = y.rep && x.base = y.base &&
       x.acceptNs = y.acceptNs)) &&
    (!(16 ≤ x.owner || 16 ≤ y.owner) || i ≥ a.length || i ≥ b.length || x.owner = y.owner)

/-- A record by its type, alone (R9, R85 step 3). -/
def recordOk (l : LaneId) (r : Rec) : Bool :=
  let b := r.parts.headD []
  match r.rtype with
  | 1 => laneOk b
  | 2 => axisOk b r.inst
  | 3 => auxOk b
  | 4 => pairOk b
  | 5 => emulOk l b
  | 6 => compareOk b
  | 7 => delayOk l b
  | 8 => connOk b r.inst
  | 10 => streamOk b
  | 13 => cascadeOk b
  | _ => true

/-! ### Checks over a set of records -/

/-- The slot entries of channel `g` among a set of records. -/
def scheduleIn (rs : List Rec) (g : Nat) : List SlotEntry :=
  match findRec rs 9 g with | some r => r.entries.map slotEntry | none => []

/-- A lane port owns a used slot of a kind in an instance. -/
def ownsKind (es : List SlotEntry) (l : LaneId) (kind : Nat) : Bool :=
  es.any fun e => e.used && e.kind = kind && e.owner = 16 + l.val

/-- The safety connection records of a set, with their endpoints. -/
def conns (rs : List Rec) : List (Nat × Bytes) :=
  rs.filterMap fun r => if r.rtype = 8 then some (r.inst, r.parts.headD []) else none

/-- Bytes that a PDU of a payload length occupies in a container (R449). -/
def pduBytes (len : Nat) : Nat := (16 + len + 3) / 4 * 4

/-- Network rules over a set (R408, R428, R449, R451, R471). -/
def networkSetOk (l : LaneId) (rs : List Rec) : Bool :=
  let lr := recOr rs 1 0
  let a := scheduleIn rs 0
  let b := scheduleIn rs 1
  let cr := recOr rs 13 0
  let cs := conns rs
  let slotA (i : Nat) : Option SlotEntry := a[i]?
  let slotB (i : Nat) : Option SlotEntry := b[i]?
  let dataOwned (own : Bool) (s : Option SlotEntry) : Bool :=
    match s with | some e => e.used && e.kind = 1 && (e.owner = 16 + l.val) = own | none => false
  ((rs.filter fun r => r.rtype = 9).all fun r => scheduleOk (cycleNs lr) r) && schedulePairOk a b &&
  !(scheduleId lr = 0 && rs.any fun r => r.rtype = 9) &&
  (!natBit (timeFlags lr) 0 || (ownsKind a l 3 && ownsKind b l 3 && cascadeIndex cr = 0)) &&
  (!natBit (timeFlags lr) 1 || (ownsKind a l 4 && ownsKind b l 4)) &&
  ((idxs 2).all fun g => (scheduleIn rs g.val).all fun e =>
    !(e.used && (List.range 4).any fun j => trunkPort cr g j = e.owner) ||
      2 * e.acceptNs + 672 + trunkWindowNs cr ≤ e.lengthNs) &&
  (cs.all fun c =>
    match connRole c.2 with
    | 1 => dataOwned true (slotA (connSlot c.2)) || dataOwned true (slotB (connSlot c.2))
    | 2 => (dataOwned false (slotA (connSlot c.2)) || dataOwned false (slotB (connSlot c.2))) &&
        !dataOwned true (slotA (connSlot c.2)) && !dataOwned true (slotB (connSlot c.2))
    | _ => true) &&
  (cs.all fun c => cs.all fun d => c.1 = d.1 || connRole c.2 = 0 || connRole c.2 ≠ connRole d.2 || connId c.2 ≠ connId d.2 ||
    (connRole c.2 = 2 && connSlot c.2 ≠ connSlot d.2)) &&
  (cs.all fun c => peerEndpoint c.2 = 0xFFFF || connRole c.2 = 0 ||
    connRole (recOr rs 8 (peerEndpoint c.2)) = 3 - connRole c.2) &&
  (cs.all fun c => connRole c.2 ≠ 1 ||
    ((cs.filter fun d => connRole d.2 = 1 && connSlot d.2 = connSlot c.2).map fun d => pduBytes (connLength d.2)).sum ≤ 1482)

/-- Stream rules over a set (R480). A descriptor without bytes has no range to lie within a window. -/
def streamSetOk (rs : List Rec) : Bool :=
  let role (e : Nat) : Nat := connRole (recOr rs 8 e)
  let ds := rs.filterMap fun r => if r.rtype = 10 then some (r.parts.headD []) else none
  (ds.all fun r =>
    (if passCount r = 0 then accessOk role (srcVa r) false && accessOk role (dstVa r) true
     else sideOk role (srcVa r) (srcWrap r) (passCount r) false && sideOk role (dstVa r) (dstWrap r) (passCount r) true) &&
    !(0x10000000 ≤ dstVa r && dstVa r < 0x11000000 && (beatWidth r / 4 < 2 || dstVa r % 4 ≠ 0 || passCount r % 4 ≠ 0)) &&
    !(natBit (streamFlags r) 4 && dstVa r / 0x100000 ≠ 0x400)) &&
  (ds.filter fun r => natBit (streamFlags r) 4).length ≤ 1

/-- ANNOUNCE names only lists on LOCAL (R323). -/
def announceSetOk (rs : List Rec) : Bool :=
  (rs.filter fun r => r.rtype = 2).all fun r =>
    let b := r.parts.headD []
    !natBit (commFlags b) 2 || dlSource (recOr rs 7 (modeList b)) = 1

/-- Every check over several records (R85 step 3). -/
def setOk (l : LaneId) (rs : List Rec) : Bool :=
  networkSetOk l rs && streamSetOk rs && announceSetOk rs

/-! ### Images (R142, R144) -/

/-- Fields of an image header (R139). -/
def imgNodes (b : Bytes) : Nat := fieldAt b 6 2
def imgTotal (b : Bytes) : Nat := fieldAt b 8 4
def imgCoef (b : Bytes) : Nat := fieldAt b 0x1C 2
def imgState (b : Bytes) : Nat := fieldAt b 0x1E 2
def imgBankSel (b : Bytes) : Nat := fieldAt b 0x20 2
def imgBankSize (b : Bytes) : Nat := fieldAt b 0x22 2
def imgSucc (b : Bytes) : Nat := fieldAt b 0x24 4
/-- The successor array's bytes, padded to a multiple of 4 (R140). -/
def succBytes (n : Nat) : Nat := (2 * n + 3) / 4 * 4

/-- Image CRC: over the whole image with the field taken as 0 (R139). -/
def imageCrc (b : Bytes) : Nat := crc32c (putAt b 0x0C [0, 0, 0, 0])

/-- Node memory bytes of an image (R144). -/
def nodeBytes (b : Bytes) : Nat := 24 * imgNodes b + succBytes (imgSucc b)
/-- State and coefficient memory bytes of an image (R144). -/
def coefBytes (b : Bytes) : Nat := 4 * (imgCoef b + imgState b)

/-- The lane's images fit its memories (R144). -/
def imagesFit (imgs : List (Nat × Bytes)) : Bool :=
  (imgs.map fun i => imgNodes i.2).sum ≤ 8192 && (imgs.map fun i => nodeBytes i.2).sum ≤ 262144 &&
    (imgs.map fun i => coefBytes i.2).sum ≤ 524288

end Sys2Proof.Machine
end

