-- ==== Sys2Proof/Machine/Flags.lean ====
section
/-! DEFINITION. Block floating point: exact values and enclosures of irrational ones, the choice of the exponent, rounding,
saturation and the flags (R164 to R175), BFP words and operation state words (R166, R187). -/

namespace Sys2Proof.Machine

/-! ### Exact numbers -/

/-- 2 to an integer power. -/
def pow2 (e : Int) : Rat := if 0 ≤ e then mkRat (2 ^ e.toNat) 1 else mkRat 1 (2 ^ (-e).toNat)

/-- To the nearest integer, ties to even (R170, R204). -/
def roundEven (q : Rat) : Int :=
  let f := q.floor
  let r := q - f
  if r < 1 / 2 then f else if 1 / 2 < r then f + 1 else if f % 2 = 0 then f else f + 1

/-- The greater and the lesser of two numbers, and a number held between two bounds. -/
def rmax (a b : Rat) : Rat := if a ≤ b then b else a
def rmin (a b : Rat) : Rat := if a ≤ b then a else b
def clamp (x lo hi : Rat) : Rat := if x < lo then lo else if hi < x then hi else x

/-- x reduced to -0.5 up to 0.5, 0.5 excluded (R190, R205). -/
def wrapTurn (x : Rat) : Rat := x - (x + 1 / 2).floor

/-- A value between two rationals: the two are equal for a rational value, and enclose an irrational one so closely that no
rounding of R170 falls between them. -/
structure Encl where
  lo : Rat
  hi : Rat
  deriving DecidableEq, Repr

/-- A rational value. -/
def Encl.of (q : Rat) : Encl := { lo := q, hi := q }

/-- Sum, difference, negation, product. -/
def Encl.add (a b : Encl) : Encl := { lo := a.lo + b.lo, hi := a.hi + b.hi }
def Encl.neg (a : Encl) : Encl := { lo := -a.hi, hi := -a.lo }
def Encl.sub (a b : Encl) : Encl := a.add b.neg
def Encl.mul (a b : Encl) : Encl :=
  if a.lo = a.hi && b.lo = b.hi then Encl.of (a.lo * b.lo)
  else
    let p := a.lo * b.lo; let q := a.lo * b.hi; let r := a.hi * b.lo; let s := a.hi * b.hi
    { lo := rmin (rmin p q) (rmin r s), hi := rmax (rmax p q) (rmax r s) }

/-- A value times a rational. -/
def Encl.scale (a : Encl) (q : Rat) : Encl := a.mul (Encl.of q)

/-- A value wrapped as in R205. -/
def Encl.wrap (a : Encl) : Encl :=
  let k := (a.lo + 1 / 2).floor
  let b : Encl := { lo := a.lo - k, hi := a.hi - k }
  if b.hi < 1 / 2 then b else { lo := -1 / 2, hi := 1 / 2 }

/-! ### Mantissas at an exponent -/

/-- Largest and smallest mantissa (R164). -/
def mantMax : Int := 0x7FFFFF
def mantMin : Int := -0x800000

/-- The value of a mantissa at an exponent (R164). -/
def mantValue (e m : Int) : Rat := (m : Rat) * pow2 (e - 23)

/-- The value fits at the exponent: inside the span of R164. -/
def fits (e : Int) (q : Rat) : Bool := mantValue e mantMin ≤ q && q ≤ mantValue e mantMax

/-- The mantissa of a value at an exponent, and whether it was clipped (R168, R169, R170, R173). -/
def place (e : Int) (q : Rat) : Int × Bool :=
  if mantValue e mantMax < q then (mantMax, true)
  else if q < mantValue e mantMin then (mantMin, true)
  else (roundEven (q * pow2 (23 - e)), false)

/-- The smallest exponent at which a non-zero value fits (R168). The search starts below it, from the sizes of numerator
and denominator, and ends within three steps. -/
def expOf (q : Rat) : Int :=
  let s : Int := (q.num.natAbs.log2 : Int) - (q.den.log2 : Int) - 1
  if fits s q then s else if fits (s + 1) q then s + 1 else if fits (s + 2) q then s + 2 else s + 3

/-! ### Elements and stages -/

/-- A result element: a number, an undefined point with its named result, or the largest value of a sign (R174). -/
inductive Elem where
  | num (v : Encl)
  | undef (v : Encl)
  | largest (neg : Bool)
  deriving DecidableEq, Repr

/-- A rational element. -/
def Elem.of (q : Rat) : Elem := .num (Encl.of q)

/-- An undefined point with a rational result. -/
def Elem.bad (q : Rat) : Elem := .undef (Encl.of q)

/-- An element whose value has been taken from its enclosure. -/
inductive Pick where
  | num (q : Rat)
  | undef (q : Rat)
  | largest (neg : Bool)
  deriving DecidableEq, Repr

/-- The value at the lower or the upper end of the enclosure. -/
def Elem.pick (up : Bool) : Elem → Pick
  | .num v => .num (if up then v.hi else v.lo)
  | .undef v => .undef (if up then v.hi else v.lo)
  | .largest n => .largest n

/-- A stage as an execution forms it: exponent, mantissas, and the flags it sets: SAT bit 0, EXPOVF bit 1, DIVZ bit 2
(R152, R165). -/
structure StageOut where
  exp : Int
  mants : List Int
  flags : BitVec 3
  deriving DecidableEq, Repr

/-- An element at an exponent, and whether it was clipped: the largest value sets no SAT of its own (R174). -/
def Pick.place (e : Int) : Pick → Int × Bool
  | .num q => Sys2Proof.Machine.place e q
  | .undef q => Sys2Proof.Machine.place e q
  | .largest n => (if n then mantMin else mantMax, false)

/-- All elements at an exponent, with further flags. -/
def stageAt (e : Int) (xs : List Pick) (flags : BitVec 3) : StageOut :=
  let ps := xs.map (Pick.place e)
  { exp := e, mants := ps.map fun p => p.1, flags := flags ||| (if ps.any fun p => p.2 then 1 else 0) }

/-- The values that take part in the choice of the exponent (R168, R174). -/
def Pick.live : Pick → Option Rat
  | .num q => some q
  | _ => none

/-- An element is at an undefined point. -/
def Pick.odd : Pick → Bool
  | .num _ => false
  | _ => true

/-- An element is a largest value. -/
def Pick.top : Pick → Bool
  | .largest _ => true
  | _ => false

/-- The smallest exponent at which all of some values fit; none where all are 0 (R168). -/
def expFor (qs : List Rat) : Option Int :=
  qs.foldl (fun (acc : Option Int) q =>
    if q = 0 then acc
    else let e := expOf q
      match acc with
      | none => some e
      | some f => some (if f < e then e else f)) none

/-- The value that an undefined point names as its result (R174, R196, R206, R217). -/
def Pick.named : Pick → Option Rat
  | .undef q => some q
  | _ => none

/-- The stage of R168 in normalising mode, R169 in pinned-exponent mode. A stage of undefined points alone takes E = 127
with a largest value, and is all zero with E = -128 where their results are; DEDUCED: results that an operation names apart from 0
(R206: the output is (θ̂, 0)) stand at the exponent they need (notes/assumptions/14.md). A positive value above the span of R164 does not fit, so that
no rounding carries out of range (R171, notes/assumptions/15.md). -/
def mkStage (pin : Option Int) (xs : List Pick) : StageOut :=
  let divz : BitVec 3 := if xs.any Pick.odd then 4 else 0
  match pin with
  | some p => stageAt p xs divz
  | none =>
    let odd := xs.all Pick.odd
    if odd && xs.any Pick.top then stageAt 127 xs divz
    else
      match expFor (xs.filterMap (if odd then Pick.named else Pick.live)) with
      | none => stageAt (-128) xs divz
      | some e =>
        if 127 < e then
          let s := stageAt 127 xs divz
          { s with flags := s.flags ||| 3 }
        else if e < -128 then stageAt (-128) xs divz
        else stageAt e xs divz

/-- The ends of the enclosures that a free number selects, bit by bit. -/
def picks (free : Nat) (xs : List Elem) : List Pick :=
  (xs.zip (List.range xs.length)).map fun p => p.1.pick (natBit free p.2)

/-- The stage of elements given by enclosures, and whether the free number was needed: where both ends of every enclosure
round alike that is the stage, otherwise each element takes a free end. -/
def stageOf (pin : Option Int) (free : Nat) (xs : List Elem) : StageOut × Bool :=
  let a := mkStage pin (xs.map (Elem.pick false))
  let b := mkStage pin (xs.map (Elem.pick true))
  if a = b then (a, false) else (mkStage pin (picks free xs), true)

/-! ### Words -/

/-- A stage header word (R165). -/
def headerWord (s : StageOut) (len : Nat) (sticky : BitVec 3) : W32 :=
  BitVec.ofNat 32 ((sticky ||| s.flags).toNat * 2 ^ 16 + len * 2 ^ 8 + ofSigned 8 s.exp)

/-- A mantissa word: copies of bit 23 above it (R165). -/
def mantWord (m : Int) : W32 := BitVec.ofNat 32 (ofSigned 32 m)

/-- Sticky flags, LEN and E of a header word (R165). -/
def hdrFlags (w : W32) : BitVec 3 := w.extractLsb' 16 3
def hdrLen (w : W32) : Nat := (w.extractLsb' 8 4).toNat
def hdrExp (w : W32) : Int := toSigned 8 (w.extractLsb' 0 8).toNat

/-- A mantissa word's value at an exponent. -/
def wordValue (e : Int) (w : W32) : Rat := mantValue e (toSigned 24 (w.extractLsb' 0 24).toNat)

/-- The value of a BFP word (R166). -/
def bfpValue (w : W32) : Rat := mantValue (toSigned 8 (w.extractLsb' 0 8).toNat) (toSigned 24 (w.extractLsb' 8 24).toNat)

/-- A BFP word (R166). -/
def bfpWord (e m : Int) : W32 := BitVec.ofNat 32 (ofSigned 24 m * 256 + ofSigned 8 e)

/-- The operation state word of a value, the flags its storing sets, and whether a free number was needed (R187). -/
def stateWord (free : Nat) (v : Encl) : W32 × BitVec 3 × Bool :=
  let r := stageOf none free [.num v]
  (bfpWord r.1.exp (r.1.mants.headD 0), r.1.flags, r.2)

end Sys2Proof.Machine
end

