-- ==== Sys2Proof/Machine/Irrational.lean ====
section
/-! DEFINITION. Enclosures of the irrational values the axis engine rounds: square roots, π, sine and cosine of an angle in
turns, the angle of a vector (R188, R190). Each is far narrower than any distance from a rounding boundary of R170 that the
operands can reach (notes/assumptions/16.md). -/

namespace Sys2Proof.Machine

/-! ### Square roots -/

/-- The greatest r of the form acc + (k bits) with r² ≤ n. -/
def isqrtBits (n : Nat) : Nat → Nat → Nat
  | 0, acc => acc
  | k + 1, acc => let t := acc + 2 ^ k; if t * t ≤ n then isqrtBits n k t else isqrtBits n k acc

/-- The integer square root. -/
def isqrt (n : Nat) : Nat := isqrtBits n (n.log2 / 2 + 1) 0

/-- The root of a value not below 0: exact where it is rational. -/
def sqrtEncl (q : Rat) : Encl :=
  let n := q.num.toNat * q.den
  let r := isqrt n
  if r * r = n then Encl.of (mkRat r q.den)
  else
    let s := isqrt (n * 2 ^ 1400)
    { lo := mkRat s (q.den * 2 ^ 700), hi := mkRat (s + 1) (q.den * 2 ^ 700) }

/-! ### Fixed point, 704 bits after the point -/

/-- One. -/
def fixOne : Nat := 2 ^ 704

/-- Terms k, k + 1, … of the series of arctan (1 / n): the power 1 / n^(2k+1), the sign, the sum so far. -/
def atanInv (n : Nat) : Nat → Nat → Nat → Bool → Int → Int
  | 0, _, _, _, acc => acc
  | fuel + 1, k, p, neg, acc =>
    let t : Int := (p / (2 * k + 1) : Nat)
    atanInv n fuel (k + 1) (p / (n * n)) (!neg) (if neg then acc - t else acc + t)

/-- π, by Machin's formula, within 2^13 units. -/
def piFix : Nat := (4 * (4 * atanInv 5 160 0 (fixOne / 5) false 0 - atanInv 239 50 0 (fixOne / 239) false 0)).toNat

/-- A bound on the error of every fixed-point value below, in units. -/
def fixErr : Nat := 2 ^ 20

/-- An enclosure around a fixed-point value. -/
def fixEncl (v : Int) : Encl := { lo := mkRat (v - fixErr) fixOne, hi := mkRat (v + fixErr) fixOne }

/-- 1 / (2 π). -/
def invTwoPi : Encl := { lo := mkRat fixOne (2 * (piFix + fixErr)), hi := mkRat fixOne (2 * (piFix - fixErr)) }

/-- Terms of the series of sine (odd) or cosine (even) at x: the next term, the next exponent, the sum so far. -/
def taylor (x : Nat) : Nat → Nat → Nat → Bool → Int → Int
  | 0, _, _, _, acc => acc
  | fuel + 1, t, j, neg, acc =>
    taylor x fuel (t * x / fixOne * x / fixOne / (j * (j + 1))) (j + 2) (!neg) (if neg then acc - (t : Int) else acc + (t : Int))

/-- 2 π v for v from 0 to 1/8, in fixed point. -/
def turnFix (v : Rat) : Nat := v.num.toNat * (2 * piFix) / v.den

/-- Sine and cosine of v turns, v above 0 and below 1/8. -/
def sinSmall (v : Rat) : Encl := let x := turnFix v; fixEncl (taylor x 72 x 2 false 0)
def cosSmall (v : Rat) : Encl := let x := turnFix v; fixEncl (taylor x 72 fixOne 1 false 0)

/-- Sine and cosine of an angle as two factors and a common one: exact at multiples of an eighth of a turn but for the
common factor √½. -/
structure Trig where
  sn : Encl
  cs : Encl
  common : Encl
  deriving DecidableEq, Repr

/-- Sine and cosine of a quarter-turn remainder g, 0 ≤ g < 1/4. -/
def trigQuarter (g : Rat) : Trig :=
  let one := Encl.of 1
  if g = 0 then { sn := Encl.of 0, cs := one, common := one }
  else if g = 1 / 8 then { sn := one, cs := one, common := sqrtEncl (1 / 2) }
  else if g < 1 / 8 then { sn := sinSmall g, cs := cosSmall g, common := one }
  else { sn := cosSmall (1 / 4 - g), cs := sinSmall (1 / 4 - g), common := one }

/-- Sine and cosine of v turns (R190). -/
def trig (v : Rat) : Trig :=
  let r := v - v.floor
  let q := (4 * r).floor
  let t := trigQuarter (r - q / 4)
  if q = 0 then t
  else if q = 1 then { sn := t.cs, cs := t.sn.neg, common := t.common }
  else if q = 2 then { sn := t.sn.neg, cs := t.cs.neg, common := t.common }
  else { sn := t.cs.neg, cs := t.sn, common := t.common }

/-- a cos θ + b sin θ. -/
def Trig.dot (t : Trig) (a b : Rat) : Encl := ((t.cs.scale a).add (t.sn.scale b)).mul t.common

/-- sin θ and cos θ. -/
def Trig.sin (t : Trig) : Encl := t.dot 0 1
def Trig.cos (t : Trig) : Encl := t.dot 1 0

/-! ### Angles -/

/-- Terms of the series of arctan y. -/
def atanSeries (y : Nat) : Nat → Nat → Nat → Bool → Int → Int
  | 0, _, _, _, acc => acc
  | fuel + 1, p, k, neg, acc =>
    let t : Int := (p / (2 * k + 1) : Nat)
    atanSeries y fuel (p * y / fixOne * y / fixOne) (k + 1) (!neg) (if neg then acc - t else acc + t)

/-- arctan r for r from 0 to 1/2, in fixed point. -/
def atanFix (r : Rat) : Int := let y := r.num.toNat * fixOne / r.den; atanSeries y 360 y 0 false 0

/-- arctan r in turns, r above 0 and below 1. -/
def atanTurn (r : Rat) : Encl :=
  let e := if r < 2 / 5 then fixEncl (atanFix r) else (fixEncl (atanFix ((1 - r) / (1 + r)))).neg
  let t := e.mul invTwoPi
  if r < 2 / 5 then t else t.add (Encl.of (1 / 8))

/-- Absolute value. -/
def rabs (q : Rat) : Rat := if q < 0 then -q else q

/-- The angle of a vector other than (0, 0), in turns from -0.5, 0.5 excluded (R190, R200). -/
def angleOf (x y : Rat) : Encl :=
  let a := rabs x
  let b := rabs y
  let first : Encl :=
    if b = 0 then Encl.of 0
    else if a = 0 then Encl.of (1 / 4)
    else if a = b then Encl.of (1 / 8)
    else if b < a then atanTurn (b / a)
    else (Encl.of (1 / 4)).sub (atanTurn (a / b))
  let up := if x < 0 then (Encl.of (1 / 2)).sub first else first
  let v := if y < 0 then up.neg else up
  if v = Encl.of (1 / 2) then Encl.of (-1 / 2) else v

/-! ### Numbers a + b √3 -/

/-- a + b √3. -/
structure Root3 where
  a : Rat
  b : Rat
  deriving DecidableEq, Repr

def Root3.add (x y : Root3) : Root3 := { a := x.a + y.a, b := x.b + y.b }
def Root3.neg (x : Root3) : Root3 := { a := -x.a, b := -x.b }
def Root3.mul (x y : Root3) : Root3 := { a := x.a * y.a + 3 * x.b * y.b, b := x.a * y.b + x.b * y.a }
def Root3.of (q : Rat) : Root3 := { a := q, b := 0 }

/-- The number is not below 0. -/
def Root3.nonneg (x : Root3) : Bool :=
  if 0 ≤ x.a then (0 ≤ x.b || 3 * (x.b * x.b) ≤ x.a * x.a) else (0 < x.b && x.a * x.a ≤ 3 * (x.b * x.b))

/-- x ≤ y. -/
def Root3.le (x y : Root3) : Bool := (y.add x.neg).nonneg

def Root3.max (x y : Root3) : Root3 := if x.le y then y else x
def Root3.min (x y : Root3) : Root3 := if x.le y then x else y

/-- 1 / x for x other than 0. -/
def Root3.inv (x : Root3) : Root3 :=
  let n := x.a * x.a - 3 * (x.b * x.b)
  { a := x.a / n, b := -x.b / n }

/-- The value as an enclosure. -/
def Root3.encl (x : Root3) : Encl := if x.b = 0 then Encl.of x.a else ((sqrtEncl 3).scale x.b).add (Encl.of x.a)

end Sys2Proof.Machine
end

