-- ==== Sys2Proof/Machine/Operands.lean ====
section
/-! DEFINITION. Node words (R179), operands (R182 to R186), state blocks (R187), cycle counts (R189), and the frame every
operation of the axis engine shares: a node held by an execution unit reads its operands and writes its stage, its state
words and its flags. -/

namespace Sys2Proof.Machine

/-! ### The node word (R179) -/

/-- A field of a node word. -/
def nodeField (w : BitVec 128) (lo n : Nat) : Nat := natBits w.toNat lo n

def nodeOp (w : BitVec 128) : Nat := nodeField w 0 8
def nodeLen (w : BitVec 128) : Nat := nodeField w 8 4
def nodePin (w : BitVec 128) : Bool := nodeField w 12 1 = 1
def nodeOpt (w : BitVec 128) : Nat := nodeField w 13 3
def nodePexp (w : BitVec 128) : Int := toSigned 8 (nodeField w 16 8)
def nodeImm (w : BitVec 128) : Nat := nodeField w 24 8
def nodeState (w : BitVec 128) : Nat := nodeField w 32 16

/-- An operand descriptor (R182). -/
structure Desc where
  kind : Nat
  first : Nat
  resv : Nat
  bcast : Bool
  index : Nat
  deriving DecidableEq, Repr

/-- The descriptor in 24 bits. -/
def descOf (n : Nat) : Desc :=
  { kind := natBits n 22 2, first := natBits n 19 3, resv := natBits n 17 2, bcast := natBit n 16, index := natBits n 0 16 }

/-- Operand A (0), B (1) or C (2). -/
def nodeDesc (w : BitVec 128) (k : Nat) : Desc := descOf (nodeField w (48 + 24 * k) 24)

/-- The resource an operation names in operand C (R202). -/
def nodeResource (w : BitVec 128) : Nat := (nodeDesc w 2).index

/-- The pinned exponent, if the node is in that mode. -/
def nodePinned (w : BitVec 128) : Option Int := if nodePin w then some (nodePexp w) else none

/-- Operation state words S (R191 to R200, R194, R197, R205). -/
def opStates (op len : Nat) : Nat :=
  match op with
  | 0x30 => len | 0x31 => 3 * len | 0x33 => len | 0x40 => len | 0x41 => 2 * len | 0x42 => 2 * len
  | 0x80 => 2 | 0x81 => 4 | 0x82 => 2 | 0x83 => 3
  | _ => 0

/-- n / d rounded up. -/
def ceilDiv (n d : Nat) : Nat := (n + d - 1) / d

/-- Cycles of a node (R189, R191, R192, R194, R197, R198, R200, R205, R210, R215, R225). -/
def nodeCycles (w : BitVec 128) : Nat :=
  let len := nodeLen w
  let n := nodeImm w % 16
  match nodeOp w with
  | 0x01 => 3 + ceilDiv len 4 | 0x02 => 3 + ceilDiv len 4 | 0x03 => 3 + ceilDiv len 4
  | 0x04 => 4 + ceilDiv len 4 | 0x05 => 4 + ceilDiv len 4
  | 0x06 => 3 + ceilDiv len 4 | 0x07 => 3 + ceilDiv len 4 | 0x08 => 3 + ceilDiv len 4
  | 0x09 => 10 + 2 * len | 0x0A => 10 + 2 * len | 0x0B => 10 + 2 * len
  | 0x0C => 5 + ceilDiv n 4 | 0x0D => 5 + ceilDiv n 4
  | 0x0E => 3 + ceilDiv len 4 | 0x0F => 3 + ceilDiv len 4
  | 0x20 => 5 | 0x21 => 14 | 0x22 => 14 | 0x23 => 12
  | 0x30 => 8 + len | 0x31 => 12 + 2 * len | 0x32 => 3 + ceilDiv len 4 | 0x33 => 5 + ceilDiv len 4
  | 0x40 => 5 + ceilDiv len 4 | 0x41 => 8 + len | 0x42 => 10 + len
  | 0x50 => 8 + 2 * len | 0x51 => 3 + ceilDiv len 4 | 0x52 => 3 + ceilDiv len 4 | 0x53 => 3 + ceilDiv len 4
  | 0x60 => 12 | 0x61 => 14 | 0x62 => 10 + ceilDiv n 4
  | 0x80 => 18 | 0x81 => 16 | 0x82 => 16 | 0x83 => 10
  | 0x90 => 6 | 0x91 => 6 | 0x92 => 6 + ceilDiv len 2 | 0x93 => 4 | 0x94 => 4
  | 0xA0 => 6 | 0xA1 => 5 | 0xA2 => 4 | 0xA3 => 6 | 0xA4 => 6 + ceilDiv len 2 | 0xA5 => 4
  | 0xA6 => 12 + nodeImm w % 64 | 0xA7 => 10 + len | 0xA8 => 3
  | 0xB0 => 5 | 0xB1 => 4 | 0xB2 => 5 | 0xB3 => 3
  | _ => 1

/-! ### Operands -/

/-- What a node reads from: its slot, its own word and index, and the run's bank sample (R158). -/
structure NodeCtx where
  slot : Slot
  word : BitVec 128
  node : Nat
  bank : Bool
  deriving DecidableEq, Repr

/-- Node word j of a slot. -/
def Slot.node (s : Slot) (j : Nat) : BitVec 128 := s.nodes.getD j 0

/-- Word i of the state area; words past its end read 0. -/
def Slot.stateAt (s : Slot) (i : Nat) : W32 := s.state.getD i 0

/-- Element k of the stage of node j: 0 at or beyond its LEN, 0 before it has executed (R165, R185). -/
def Slot.stageElem (s : Slot) (j k : Nat) : Rat :=
  let b := nodeState (s.node j)
  let h := s.stateAt b
  if k < hdrLen h then wordValue (hdrExp h) (s.stateAt (b + 1 + k)) else 0

/-- The word that coefficient index i of a descriptor names: direct, or through the bank sample (R158, R183). -/
def NodeCtx.coefIndex (c : NodeCtx) (d : Desc) (i : Nat) : Nat :=
  if d.kind = 3 then imgBankSel c.slot.hdr + 1 + b2n c.bank * imgBankSize c.slot.hdr + d.index + i else d.index + i

/-- Coefficient word i of an operand. -/
def NodeCtx.coefWord (c : NodeCtx) (d : Desc) (i : Nat) : W32 := c.slot.coef.getD (c.coefIndex d i) 0

/-- Element i of an operand (R185). -/
def NodeCtx.elem (c : NodeCtx) (d : Desc) (i : Nat) : Rat :=
  let j := if d.bcast then 0 else i
  match d.kind with
  | 0 => 0
  | 1 => c.slot.stageElem d.index (d.first + j)
  | _ => bfpValue (c.coefWord d j)

/-- n elements of operand k. -/
def NodeCtx.operand (c : NodeCtx) (k n : Nat) : List Rat := (List.range n).map (c.elem (nodeDesc c.word k))

/-- One element of operand k, its first. -/
def NodeCtx.one (c : NodeCtx) (k : Nat) : Rat := c.elem (nodeDesc c.word k) 0

/-- The output length. -/
def NodeCtx.len (c : NodeCtx) : Nat := nodeLen c.word

/-- Word k of the node's operation state, as an exact value (R187). -/
def NodeCtx.opState (c : NodeCtx) (k : Nat) : Rat := bfpValue (c.slot.stateAt (nodeState c.word + 1 + c.len + k))

/-- Option bit i. -/
def NodeCtx.opt (c : NodeCtx) (i : Nat) : Bool := natBit (nodeOpt c.word) i

/-- The immediate. -/
def NodeCtx.imm (c : NodeCtx) : Nat := nodeImm c.word

/-! ### Results -/

/-- What an execution delivers: its output elements, the operation state words it stores, and flags beyond those of the
formats. -/
structure Calc where
  out : List Elem
  st : List (Nat × Encl)
  flags : BitVec 3
  deriving DecidableEq, Repr

/-- Output elements alone. -/
def Calc.pure (out : List Elem) : Calc := { out := out, st := [], flags := 0 }

/-- Operation state words stored (R187): the state area, the flags set, and whether a free number was needed. -/
def putStates (free base : Nat) (st : List W32) (vs : List (Nat × Encl)) : List W32 × BitVec 3 × Bool :=
  vs.foldl (fun acc v =>
    let r := stateWord free v.2
    (acc.1.set (base + v.1) r.1, acc.2.1 ||| r.2.1, acc.2.2 || r.2.2)) (st, 0, false)

/-- A node's writes: stage, operation state words and sticky flags (R165, R175, R187). Answers the slot, the flags the
execution set, and whether a free number was needed. -/
def Slot.writeNode (s : Slot) (w : BitVec 128) (free : Nat) (c : Calc) : Slot × BitVec 3 × Bool :=
  let base := nodeState w
  let g := stageOf (nodePinned w) free c.out
  let p := putStates free (base + 1 + nodeLen w) s.state c.st
  let set := g.1.flags ||| p.2.1 ||| c.flags
  let h := headerWord g.1 c.out.length (hdrFlags (s.stateAt base) ||| set)
  ({ s with state := putWords p.1 base (h :: g.1.mants.map mantWord) }, set, g.2 || p.2.2)

/-! ### The frame of an operation row -/

/-- Unit x of the dispatcher. -/
def Lane.unit (l : Lane) (x : Fin 4) : Option UnitJob := vget l.dsp.units x

/-- The lane with unit x replaced. -/
def Lane.setUnit (l : Lane) (x : Fin 4) (j : Option UnitJob) : Lane :=
  { l with dsp := { l.dsp with units := vset l.dsp.units x j } }

/-- What the node of a job reads from: the slot as it stands, the bank sample of the job's own run (R158). -/
def Lane.nodeCtx (l : Lane) (j : UnitJob) : NodeCtx :=
  let s := l.slot j.slot
  { slot := s, word := s.node j.node, node := j.node, bank := j.bank }

/-- The axis-engine clock runs (R163, R201), and neither dispatcher nor node memory is under test (R391). -/
def Lane.engineOk (l : Lane) : Bool :=
  l.clockOn 2 && !l.inSlice 4 && !l.inSlice 5

/-- The number that a use of a free value takes. -/
def Lane.freeNow (l : Lane) : Nat := Config.freeNat l.idx l.free

/-- The node of a job writes what it worked out; the flags it sets are noted for a FLAGCLR of the same dispatch cycle (R176,
R189). -/
def Lane.nodeWrite (l : Lane) (x : Fin 4) (j : UnitJob) (c : Calc) : Lane :=
  let s := l.slot j.slot
  let r := s.writeNode (s.node j.node) l.freeNow c
  let l := l.onSlot j.slot fun _ => r.1
  let l := if r.2.2 then l.useFree else l
  let l := { l with dsp := { l.dsp with setNow := (j.slot, j.node, r.2.1) :: l.dsp.setNow } }
  l.setUnit x (some { j with executed := true })

/-- Unit x holds a node of operation `op` that has not executed yet and is in its completion cycle; the units' clock runs
(R189, R201). -/
def Lane.holds (l : Lane) (x : Fin 4) (op : Nat) : Bool :=
  l.engineOk &&
    match l.unit x with
    | some j => !j.executed && j.left = 0 && nodeOp ((l.slot j.slot).node j.node) = op
    | none => false

/-- An operation row: in its completion cycle the node of operation `op` that unit x holds executes by `f`, which may act on
the lane (R189, R215). Where the unit holds no such node nothing happens (notes/assumptions/3.md). -/
def Lane.nodeRun (l : Lane) (x : Fin 4) (op : Nat) (f : Lane → UnitJob → NodeCtx → Lane × Calc) : Lane :=
  match l.unit x with
  | none => l
  | some j =>
    if l.holds x op then
      let r := f l j (l.nodeCtx j)
      r.1.nodeWrite x j r.2
    else l

/-- The same for an operation that acts on nothing but its own node. -/
def Lane.nodeCalc (l : Lane) (x : Fin 4) (op : Nat) (f : NodeCtx → Calc) : Lane :=
  l.nodeRun x op fun l _ c => (l, f c)

/-- The operation row in the state. -/
def State.node (s : State) (l : LaneId) (x : Fin 4) (op : Nat) (f : NodeCtx → Calc) : Host.Outcome State Fault Refusal :=
  .next (s.onLane l fun n => n.nodeCalc x op f)

/-- The operation row of a node that acts on the lane. -/
def State.nodeIo (s : State) (l : LaneId) (x : Fin 4) (op : Nat) (f : Lane → UnitJob → NodeCtx → Lane × Calc) :
    Host.Outcome State Fault Refusal :=
  .next (s.onLane l fun n => n.nodeRun x op f)

end Sys2Proof.Machine
end

