-- ==== Sys2Proof/Machine/Arith.lean ====
section
/-! DEFINITION. The compute operations of the axis engine: arithmetic and vector, transforms, control, filters, tables,
trigonometry and observers (R191 to R200, R205 to R209). -/

namespace Sys2Proof.Machine

/-! ### Arithmetic and vectors (R191) -/

/-- Element-wise on one operand. -/
def calc1 (f : Rat → Elem) (c : NodeCtx) : Calc := Calc.pure ((c.operand 0 c.len).map f)

/-- Element-wise on two operands. -/
def calc2 (f : Rat → Rat → Elem) (c : NodeCtx) : Calc :=
  Calc.pure (((c.operand 0 c.len).zip (c.operand 1 c.len)).map fun p => f p.1 p.2)

/-- Element-wise on three operands. -/
def calc3 (f : Rat → Rat → Rat → Elem) (c : NodeCtx) : Calc :=
  Calc.pure (((c.operand 0 c.len).zip ((c.operand 1 c.len).zip (c.operand 2 c.len))).map fun p => f p.1 p.2.1 p.2.2)

/-- A quotient with R174's undefined points. -/
def quotient (a b : Rat) : Elem :=
  if b = 0 then (if a = 0 then Elem.bad 0 else .largest (a < 0)) else Elem.of (a / b)

/-- A square root with R174's undefined point. -/
def rootElem (a : Rat) : Elem := if a < 0 then Elem.bad 0 else .num (sqrtEncl a)

/-- A sum of rationals. -/
def rsum (xs : List Rat) : Rat := xs.foldl (· + ·) 0

/-- n of DOT, SUM and MAG. -/
def NodeCtx.count (c : NodeCtx) : Nat := c.imm % 16

/-- SHIFT (R191). -/
def calcShift (c : NodeCtx) : Calc := calc1 (fun a => Elem.of (a * pow2 (toSigned 8 c.imm))) c

/-- DOT (R191). -/
def calcDot (c : NodeCtx) : Calc :=
  Calc.pure [Elem.of (rsum (((c.operand 0 c.count).zip (c.operand 1 c.count)).map fun p => p.1 * p.2))]

/-- SUM (R191). -/
def calcSum (c : NodeCtx) : Calc := Calc.pure [Elem.of (rsum (c.operand 0 c.count))]

/-- PACK (R191). -/
def calcPack (c : NodeCtx) : Calc :=
  let m := c.imm % 16
  Calc.pure ((c.operand 0 m ++ c.operand 1 (c.len - m)).map Elem.of)

/-! ### Transforms (R192, R193) -/

/-- Element i of a list of rationals. -/
def nth (xs : List Rat) (i : Nat) : Rat := xs.getD i 0

/-- CLARKE (R192). -/
def calcClarke (c : NodeCtx) : Calc :=
  let v := c.operand 0 3
  let ia := nth v 0; let ib := nth v 1; let ic := nth v 2
  if c.opt 0 then Calc.pure [Elem.of ia, .num ({ a := 0, b := (ia + 2 * ib) / 3 } : Root3).encl]
  else Calc.pure [Elem.of ((2 * ia - ib - ic) / 3), .num ({ a := 0, b := (ib - ic) / 3 } : Root3).encl]

/-- PARK (R192). -/
def calcPark (c : NodeCtx) : Calc :=
  let v := c.operand 0 2
  let t := trig (c.one 1)
  Calc.pure [.num (t.dot (nth v 0) (nth v 1)), .num (t.dot (nth v 1) (-nth v 0))]

/-- IPARK (R192). -/
def calcIpark (c : NodeCtx) : Calc :=
  let v := c.operand 0 2
  let t := trig (c.one 1)
  Calc.pure [.num (t.dot (nth v 0) (-nth v 1)), .num (t.dot (nth v 1) (nth v 0))]

/-- A duty held between 0 and 1. -/
def Root3.unit (x : Root3) : Root3 := (x.max (Root3.of 0)).min (Root3.of 1)

/-- SVM (R193). Clipping to [0, 1] changes nothing while w ≤ 1. -/
def calcSvm (c : NodeCtx) : Calc :=
  let v := c.operand 0 2
  let va : Root3 := Root3.of (nth v 0)
  let vb : Root3 := { a := -(nth v 0) / 2, b := nth v 1 / 2 }
  let vc : Root3 := { a := -(nth v 0) / 2, b := -(nth v 1) / 2 }
  let hi := (va.max vb).max vc
  let lo := (va.min vb).min vc
  let w := hi.add lo.neg
  let scaled := c.opt 0 && !(w.le (Root3.of 1))
  let k := if scaled then w.inv else Root3.of 1
  let off := ((hi.add lo).mul k).mul (Root3.of (-1 / 2))
  let duty (x : Root3) : Elem := .num ((((x.mul k).add off).add (Root3.of (1 / 2))).unit).encl
  Calc.pure [duty va, duty vb, duty vc]

/-! ### Control operations (R194 to R196) -/

/-- Word i of the parameter block of element k: one block for all, or one for each element (R194). -/
def NodeCtx.par (c : NodeCtx) (size k i : Nat) : Rat :=
  bfpValue (c.coefWord (nodeDesc c.word 1) ((if c.opt 0 then k * size else 0) + i))

/-- One element's outcome: its result and the operation state words it stores. -/
structure Step1 where
  out : Elem
  st : List (Nat × Encl)
  deriving DecidableEq, Repr

/-- The outcomes of every element put together. -/
def Calc.collect (xs : List Step1) : Calc := { out := xs.map Step1.out, st := xs.flatMap Step1.st, flags := 0 }

/-- The PI steps of R195 with `p` in place of Kp × e: the new integrator and the output. -/
def piSteps (p kit umax umin i e : Rat) : Rat × Rat :=
  let ip := i + kit * e
  let u := p + ip
  let inew := if (umax < u && 0 < e) || (u < umin && e < 0) then i else clamp ip umin umax
  (inew, clamp (p + inew) umin umax)

/-- PI for element k (R195, R196). -/
def piElem (c : NodeCtx) (k : Nat) (e : Rat) : Step1 :=
  let q := c.par 4 k
  if q 2 < q 3 then { out := Elem.bad 0, st := [] }
  else
    let r := piSteps (q 0 * e) (q 1) (q 2) (q 3) (c.opState k) e
    { out := Elem.of r.2, st := [(k, Encl.of r.1)] }

/-- PID for element k (R195, R196). -/
def pidElem (c : NodeCtx) (k : Nat) (e : Rat) : Step1 :=
  let q := c.par 6 k
  if q 4 < q 5 then { out := Elem.bad 0, st := [] }
  else
    let d := c.opState (c.len + k)
    let dnew := d + q 3 * (q 2 * (e - c.opState (2 * c.len + k)) - d)
    let r := piSteps (q 0 * e + dnew) (q 1) (q 4) (q 5) (c.opState k) e
    { out := Elem.of r.2, st := [(k, Encl.of r.1), (c.len + k, Encl.of dnew), (2 * c.len + k, Encl.of e)] }

/-- LIMIT for element k (R196). -/
def limitElem (c : NodeCtx) (k : Nat) (x : Rat) : Step1 :=
  let q := c.par 2 k
  if q 0 < q 1 then { out := Elem.bad 0, st := [] } else { out := Elem.of (clamp x (q 1) (q 0)), st := [] }

/-- RATE for element k (R196). -/
def rateElem (c : NodeCtx) (k : Nat) (x : Rat) : Step1 :=
  let q := c.par 2 k
  let y := c.opState k
  if q 0 < 0 || q 1 < 0 then { out := Elem.bad y, st := [] }
  else
    let z := y + clamp (x - y) (-(q 1)) (q 0)
    { out := Elem.of z, st := [(k, Encl.of z)] }

/-- Every element by its index. -/
def calcEach (f : NodeCtx → Nat → Rat → Step1) (c : NodeCtx) : Calc :=
  Calc.collect ((List.range c.len).map fun k => f c k (c.elem (nodeDesc c.word 0) k))

/-! ### Filters (R197) -/

/-- Word i of the one parameter block. -/
def NodeCtx.par1 (c : NodeCtx) (i : Nat) : Rat := bfpValue (c.coefWord (nodeDesc c.word 1) i)

/-- FO for element k. -/
def foElem (c : NodeCtx) (k : Nat) (x : Rat) : Step1 :=
  let y := c.opState k
  let z := y + c.par1 0 * (x - y)
  { out := Elem.of z, st := [(k, Encl.of z)] }

/-- One second-order section in transposed direct form II. -/
def biquad (b0 b1 b2 a1 a2 : Rat) (c : NodeCtx) (k : Nat) (x : Rat) : Step1 :=
  let y := b0 * x + c.opState k
  { out := Elem.of y, st := [(k, Encl.of (b1 * x - a1 * y + c.opState (c.len + k))), (c.len + k, Encl.of (b2 * x - a2 * y))] }

/-- BIQUAD for element k. -/
def biquadElem (c : NodeCtx) (k : Nat) (x : Rat) : Step1 :=
  biquad (c.par1 0) (c.par1 1) (c.par1 2) (c.par1 3) (c.par1 4) c k x

/-- NOTCH for element k. -/
def notchElem (c : NodeCtx) (k : Nat) (x : Rat) : Step1 :=
  let co := c.par1 0
  let r := c.par1 1
  let g := 1 + r * r
  biquad (g / 2) (-(g * co)) (g / 2) (-(2 * r * co)) (r * r) c k x

/-! ### Tables and nonlinear operations (R198, R199) -/

/-- MIN and MAX. -/
def calcMin (c : NodeCtx) : Calc := calc2 (fun a b => Elem.of (rmin a b)) c
def calcMax (c : NodeCtx) : Calc := calc2 (fun a b => Elem.of (rmax a b)) c

/-- DEADZONE (R198). -/
def deadzone (hard : Bool) (x w : Rat) : Elem :=
  if w < 0 then Elem.bad x
  else if w < x then Elem.of (if hard then x else x - w)
  else if x < -w then Elem.of (if hard then x else x + w)
  else Elem.of 0

/-- The end of the coefficient words that a table may use: coef_words, or bank_size for BANKED (R185, R199). -/
def NodeCtx.tableEnd (c : NodeCtx) (d : Desc) : Nat := if d.kind = 3 then imgBankSize c.slot.hdr else imgCoef c.slot.hdr

/-- One look-up (R199): the element, and whether it is out of range, which sets SAT. -/
def lutElem (c : NodeCtx) (x : Rat) : Elem × Bool :=
  let d := nodeDesc c.word 1
  let n := (c.coefWord d 2).toNat
  if n < 2 || 1024 < n || c.tableEnd d < d.index + n + 3 then (Elem.bad 0, false)
  else
    let y (i : Nat) : Rat := bfpValue (c.coefWord d (i + 3))
    let t := (x - c.par1 0) * c.par1 1
    if c.opt 0 then
      let i := (t.floor % (n : Int)).toNat
      let f := t - t.floor
      (Elem.of (y i + f * (y ((i + 1) % n) - y i)), false)
    else if t < 0 then (Elem.of (y 0), true)
    else if ((n - 1 : Nat) : Rat) < t then (Elem.of (y (n - 1)), true)
    else
      let i := t.floor.toNat
      let f := t - t.floor
      (Elem.of (if f = 0 then y i else y i + f * (y (i + 1) - y i)), false)

/-- LUT (R199). -/
def calcLut (c : NodeCtx) : Calc :=
  let r := (c.operand 0 c.len).map (lutElem c)
  { out := r.map fun p => p.1, st := [], flags := if r.any fun p => p.2 then 1 else 0 }

/-! ### Trigonometry (R200) -/

/-- SINCOS. -/
def calcSincos (c : NodeCtx) : Calc := let t := trig (c.one 0); Calc.pure [.num t.sin, .num t.cos]

/-- ATAN2. -/
def calcAtan2 (c : NodeCtx) : Calc :=
  let v := c.operand 0 2
  if nth v 0 = 0 && nth v 1 = 0 then Calc.pure [Elem.bad 0] else Calc.pure [.num (angleOf (nth v 0) (nth v 1))]

/-- MAG. -/
def calcMag (c : NodeCtx) : Calc := Calc.pure [.num (sqrtEncl (rsum ((c.operand 0 c.count).map fun a => a * a)))]

/-! ### Observers (R205 to R209) -/

/-- The error of PLL (R206). -/
def pllError (c : NodeCtx) (theta : Rat) : Encl :=
  let v := c.operand 0 2
  if (nodeDesc c.word 2).kind ≠ 0 && c.one 2 < 0 then Encl.of 0
  else match nodeOpt c.word % 4 with
    | 0 => Encl.of (wrapTurn (nth v 0 - theta))
    | 1 => ((trig theta).dot (nth v 1) (-nth v 0)).mul invTwoPi
    | _ => Encl.of (nth v 0)

/-- PLL (R206). -/
def calcPll (c : NodeCtx) : Calc :=
  let theta := c.opState 0
  let t := c.par1 2
  if t ≤ 0 then Calc.pure [Elem.bad theta, Elem.bad 0]
  else
    let e := pllError c theta
    let w := (Encl.of (c.opState 1)).add (e.scale (c.par1 1))
    let th := (((Encl.of theta).add w).add (e.scale (c.par1 0))).wrap
    { out := [.num th, .num (w.scale (1 / t))], st := [(0, th), (1, w)], flags := 0 }

/-- Word i of BEMF's block, in operand C. -/
def NodeCtx.par2 (c : NodeCtx) (i : Nat) : Rat := bfpValue (c.coefWord (nodeDesc c.word 2) i)

/-- BEMF (R207). -/
def calcBemf (c : NodeCtx) : Calc :=
  let r := c.par2 0; let ind := c.par2 1; let t := c.par2 2
  if ind ≤ 0 || t ≤ 0 then Calc.pure [Elem.bad 0, Elem.bad 0]
  else
    let v := c.operand 0 2
    let i := c.operand 1 2
    let axis (k : Nat) : Rat × Rat :=
      let ih := c.opState k
      let eh := c.opState (2 + k)
      let eps := nth i k - ih
      (ih + t / ind * (nth v k - r * ih - eh) + c.par2 3 * eps, eh - c.par2 4 * eps)
    let a := axis 0
    let b := axis 1
    { out := [Elem.of b.2, Elem.of (-a.2)], st := [(0, Encl.of a.1), (1, Encl.of b.1), (2, Encl.of a.2), (3, Encl.of b.2)],
      flags := 0 }

/-- HFI (R208). -/
def calcHfi (c : NodeCtx) : Calc :=
  let v := c.operand 0 2
  let phi := c.opState 0
  let z := c.opState 1
  let raw := (trig (phi + c.par1 1)).sin.scale (nth v 1)
  let ph := wrapTurn (phi + c.par1 0)
  let zn := (Encl.of z).add ((raw.sub (Encl.of z)).scale (c.par1 2))
  { out := [.num ((trig ph).cos.scale (c.par1 3)), .num zn], st := [(0, Encl.of ph), (1, zn)], flags := 0 }

/-- SATP (R209). Before both signs are seen the margin 0 / 0 takes R174's result (notes/assumptions/17.md). -/
def calcSatp (c : NodeCtx) : Calc :=
  let old (k : Nat) : Rat := if c.opt 1 then 0 else c.opState k
  let a := rabs (c.one 0)
  let p := if c.opt 0 then old 0 else rmax (old 0) a
  let m := if c.opt 0 then rmax (old 1) a else old 1
  let seen := (old 2).floor.toNat ||| (if c.opt 0 then 2 else 1)
  let st := [(0, Encl.of p), (1, Encl.of m), (2, Encl.of seen)]
  let sum := p + m
  if sum = 0 then { out := if seen = 3 then [Elem.bad 0, Elem.bad 0] else [Elem.of 0, Elem.bad 0], st := st, flags := 0 }
  else
    let g := (p - m) / sum
    let d : Rat := if seen ≠ 3 then 0 else if c.par1 0 ≤ g then 1 else if g ≤ -(c.par1 0) then -1 else 0
    { out := [Elem.of d, Elem.of g], st := st, flags := 0 }

/-! ### Meanings -/

/-- MOV. -/
def execMov (l : LaneId) (x : Fin 4) (s : State) : Host.Outcome State Fault Refusal := s.node l x 0x01 (calc1 Elem.of)
/-- ADD. -/
def execAdd (l : LaneId) (x : Fin 4) (s : State) : Host.Outcome State Fault Refusal :=
  s.node l x 0x02 (calc2 fun a b => Elem.of (a + b))
/-- SUB. -/
def execSub (l : LaneId) (x : Fin 4) (s : State) : Host.Outcome State Fault Refusal :=
  s.node l x 0x03 (calc2 fun a b => Elem.of (a - b))
/-- MUL. -/
def execMul (l : LaneId) (x : Fin 4) (s : State) : Host.Outcome State Fault Refusal :=
  s.node l x 0x04 (calc2 fun a b => Elem.of (a * b))
/-- MAC. -/
def execMac (l : LaneId) (x : Fin 4) (s : State) : Host.Outcome State Fault Refusal :=
  s.node l x 0x05 (calc3 fun a b c => Elem.of (a + b * c))
/-- NEG. -/
def execNeg (l : LaneId) (x : Fin 4) (s : State) : Host.Outcome State Fault Refusal :=
  s.node l x 0x06 (calc1 fun a => Elem.of (-a))
/-- ABS. -/
def execAbs (l : LaneId) (x : Fin 4) (s : State) : Host.Outcome State Fault Refusal :=
  s.node l x 0x07 (calc1 fun a => Elem.of (rabs a))
/-- SHIFT. -/
def execShift (l : LaneId) (x : Fin 4) (s : State) : Host.Outcome State Fault Refusal := s.node l x 0x08 calcShift
/-- DIV. -/
def execDiv (l : LaneId) (x : Fin 4) (s : State) : Host.Outcome State Fault Refusal := s.node l x 0x09 (calc2 quotient)
/-- RECIP. -/
def execRecip (l : LaneId) (x : Fin 4) (s : State) : Host.Outcome State Fault Refusal :=
  s.node l x 0x0A (calc1 (quotient 1))
/-- SQRT. -/
def execSqrt (l : LaneId) (x : Fin 4) (s : State) : Host.Outcome State Fault Refusal := s.node l x 0x0B (calc1 rootElem)
/-- DOT. -/
def execDot (l : LaneId) (x : Fin 4) (s : State) : Host.Outcome State Fault Refusal := s.node l x 0x0C calcDot
/-- SUM. -/
def execSum (l : LaneId) (x : Fin 4) (s : State) : Host.Outcome State Fault Refusal := s.node l x 0x0D calcSum
/-- PACK. -/
def execPack (l : LaneId) (x : Fin 4) (s : State) : Host.Outcome State Fault Refusal := s.node l x 0x0E calcPack
/-- SELECT. -/
def execSelect (l : LaneId) (x : Fin 4) (s : State) : Host.Outcome State Fault Refusal :=
  s.node l x 0x0F (calc3 fun a b c => Elem.of (if 0 ≤ c then a else b))
/-- CLARKE. -/
def execClarke (l : LaneId) (x : Fin 4) (s : State) : Host.Outcome State Fault Refusal := s.node l x 0x20 calcClarke
/-- PARK. -/
def execPark (l : LaneId) (x : Fin 4) (s : State) : Host.Outcome State Fault Refusal := s.node l x 0x21 calcPark
/-- IPARK. -/
def execIpark (l : LaneId) (x : Fin 4) (s : State) : Host.Outcome State Fault Refusal := s.node l x 0x22 calcIpark
/-- SVM. -/
def execSvm (l : LaneId) (x : Fin 4) (s : State) : Host.Outcome State Fault Refusal := s.node l x 0x23 calcSvm
/-- PI. -/
def execPi (l : LaneId) (x : Fin 4) (s : State) : Host.Outcome State Fault Refusal := s.node l x 0x30 (calcEach piElem)
/-- PID. -/
def execPid (l : LaneId) (x : Fin 4) (s : State) : Host.Outcome State Fault Refusal := s.node l x 0x31 (calcEach pidElem)
/-- LIMIT. -/
def execLimit (l : LaneId) (x : Fin 4) (s : State) : Host.Outcome State Fault Refusal :=
  s.node l x 0x32 (calcEach limitElem)
/-- RATE. -/
def execRate (l : LaneId) (x : Fin 4) (s : State) : Host.Outcome State Fault Refusal := s.node l x 0x33 (calcEach rateElem)
/-- FO. -/
def execFo (l : LaneId) (x : Fin 4) (s : State) : Host.Outcome State Fault Refusal := s.node l x 0x40 (calcEach foElem)
/-- BIQUAD. -/
def execBiquad (l : LaneId) (x : Fin 4) (s : State) : Host.Outcome State Fault Refusal :=
  s.node l x 0x41 (calcEach biquadElem)
/-- NOTCH. -/
def execNotch (l : LaneId) (x : Fin 4) (s : State) : Host.Outcome State Fault Refusal :=
  s.node l x 0x42 (calcEach notchElem)
/-- LUT. -/
def execLut (l : LaneId) (x : Fin 4) (s : State) : Host.Outcome State Fault Refusal := s.node l x 0x50 calcLut
/-- MIN. -/
def execMin (l : LaneId) (x : Fin 4) (s : State) : Host.Outcome State Fault Refusal := s.node l x 0x51 calcMin
/-- MAX. -/
def execMax (l : LaneId) (x : Fin 4) (s : State) : Host.Outcome State Fault Refusal := s.node l x 0x52 calcMax
/-- DEADZONE. -/
def execDeadzone (l : LaneId) (x : Fin 4) (s : State) : Host.Outcome State Fault Refusal :=
  s.node l x 0x53 fun c => calc2 (deadzone (c.opt 0)) c
/-- SINCOS. -/
def execSincos (l : LaneId) (x : Fin 4) (s : State) : Host.Outcome State Fault Refusal := s.node l x 0x60 calcSincos
/-- ATAN2. -/
def execAtan2 (l : LaneId) (x : Fin 4) (s : State) : Host.Outcome State Fault Refusal := s.node l x 0x61 calcAtan2
/-- MAG. -/
def execMag (l : LaneId) (x : Fin 4) (s : State) : Host.Outcome State Fault Refusal := s.node l x 0x62 calcMag
/-- PLL. -/
def execPll (l : LaneId) (x : Fin 4) (s : State) : Host.Outcome State Fault Refusal := s.node l x 0x80 calcPll
/-- BEMF. -/
def execBemf (l : LaneId) (x : Fin 4) (s : State) : Host.Outcome State Fault Refusal := s.node l x 0x81 calcBemf
/-- HFI. -/
def execHfi (l : LaneId) (x : Fin 4) (s : State) : Host.Outcome State Fault Refusal := s.node l x 0x82 calcHfi
/-- SATP. -/
def execSatp (l : LaneId) (x : Fin 4) (s : State) : Host.Outcome State Fault Refusal := s.node l x 0x83 calcSatp

end Sys2Proof.Machine
end

