-- ==== Sys2Proof/Machine/HostPort.lean ====
section
/-! DEFINITION. The host port: READ, WRITE and reserved transactions, the nine registers, the doorbell (R33 to R43). -/

namespace Sys2Proof.Machine

/-! ### Registers -/

/-- Bits of HP_IRQ_STATUS and HP_IRQ_EN that are not reserved (R38). -/
def irqBits : W32 := 0x0000F1FF

/-- Bits of HP_ERR that are not reserved (R38). -/
def errBits : W32 := 0x0000007F

/-- Mailbox state as HP_MB_STATE encodes it (R38). -/
def mbCode : MbState → Nat
  | .idle => 0 | .posted => 1 | .busy => 2 | .done => 3

/-- HP_ID (R38). -/
def Lane.hpId (l : Lane) : Nat := 0x39600100 + l.idx.val

/-- HP_STATUS (R38). DESIGN CHOICE: FAULT follows x_FAULT_N, low from lane reset on (R373), at once, so it reads 1 where R38's
Reset column says 0 (notes/assumptions/71.md). -/
def Lane.hpStatus (l : Lane) : Nat :=
  l.hp.restarts.toNat * 2 ^ 16 + b2n l.fl.sealed * 2 ^ 10 + b2n l.faultPin * 2 ^ 9 + b2n l.hp.ready * 2 ^ 8 +
    modeCode l.sys.mode * 16 + lstateCode l.sys.lstate

/-- HP_MB_STATE (R38). -/
def Lane.hpMbState (l : Lane) : Nat :=
  mbCode (l.mb 0).st + 4 * mbCode (l.mb 1).st + 16 * mbCode (l.mb 2).st + 64 * mbCode (l.mb 3).st

/-- The word at register offset `off` (R38); HP_DOORBELL is write-only and reads 0 (R8). -/
def Lane.regRead (l : Lane) (off : Nat) : Nat :=
  match off with
  | 0x00 => l.hpId
  | 0x04 => l.hpStatus
  | 0x0C => l.hpMbState
  | 0x10 => l.hp.irqStatus.toNat
  | 0x14 => l.hp.irqEn.toNat
  | 0x18 => l.hp.err.toNat
  | 0x1C => l.hp.traceWp.toNat
  | 0x20 => l.hp.scratch.toNat
  | _ => 0

/-- A register whose every field is RO (R37). -/
def regRo (off : Nat) : Bool := off = 0x00 || off = 0x04 || off = 0x0C || off = 0x1C

/-- x_HIRQ_N is driven low (R40). -/
def Lane.hirqLow (l : Lane) : Bool := l.hp.irqStatus &&& l.hp.irqEn ≠ 0

/-! ### The doorbell -/

/-- Mailbox `m` becomes POSTED: last in the order of posting, event 160 + m with the opcode (R41, R44, R134). -/
def Lane.post (l : Lane) (m : MbId) : Lane :=
  let op := ofLe (memReadN (l.mb m).inBuf 0 2)
  let l := l.onMb m fun b => { b with st := .posted }
  ({ l with hp := { l.hp with order := l.hp.order ++ [m] } }).event (160 + m.val) op

/-- RING for one mailbox: posted from IDLE, otherwise DB_NOT_IDLE (R41, R42). -/
def Lane.ringOne (l : Lane) (m : MbId) : Lane := if (l.mb m).st = .idle then l.post m else l.hpErr 0x08

/-- ACK for one mailbox: released from DONE, otherwise ACK_NOT_DONE (R41, R42). -/
def Lane.ackOne (l : Lane) (m : MbId) : Lane :=
  if (l.mb m).st = .done then l.onMb m fun b => { b with st := .idle } else l.hpErr 0x10

/-- RING bits, in ascending mailbox number (R43). -/
def Lane.ringMask (l : Lane) (v : BitVec 4) : Lane :=
  each (idxs 4) (fun k l => if bit v k then l.ringOne (fin k.val) else l) l

/-- ACK bits. -/
def Lane.ackMask (l : Lane) (v : BitVec 4) : Lane :=
  each (idxs 4) (fun k l => if bit v k then l.ackOne (fin k.val) else l) l

/-- A write of HP_DOORBELL: ACK first, RING second (R43). -/
def Lane.doorbell (l : Lane) (v : W32) : Lane := (l.ackMask (v.extractLsb' 8 4)).ringMask (v.extractLsb' 0 4)

/-- W1C bits of HP_IRQ_STATUS (R8, R38). -/
def Lane.irqClear (l : Lane) (v : W32) : Lane := { l with hp := { l.hp with irqStatus := l.hp.irqStatus &&& ~~~ v } }

/-- W1C bits of HP_ERR (R8, R38). -/
def Lane.errClear (l : Lane) (v : W32) : Lane := { l with hp := { l.hp with err := l.hp.err &&& ~~~ v } }

/-- One whole aligned word written to the register at `off` (R36 to R38). -/
def Lane.regWrite (l : Lane) (off : Nat) (v : W32) : Lane :=
  match off with
  | 0x08 => l.doorbell v
  | 0x10 => l.irqClear v
  | 0x14 => { l with hp := { l.hp with irqEn := v &&& irqBits } }
  | 0x18 => l.errClear v
  | 0x20 => { l with hp := { l.hp with scratch := v } }
  | _ => if regRo off then l.hpErr 0x20 else l.hpErr 0x02

/-! ### Addresses (R37) -/

/-- What a host-port address names. -/
inductive HpPlace where
  | almanac (off : Nat)
  | reg (off : Nat)
  | inBuf (m : MbId) (off : Nat)
  | outBuf (m : MbId) (off : Nat)
  | trace (off : Nat)
  | unmapped
  deriving DecidableEq, Repr

/-- The map of R37. -/
def hpPlace (a : Nat) : HpPlace :=
  if a < 0x4000 then .almanac a
  else if 0x10000 ≤ a ∧ a < 0x10024 then .reg (a - 0x10000)
  else if 0x20000 ≤ a ∧ a < 0x22000 then
    let m : MbId := fin ((a - 0x20000) / 0x800)
    let o := (a - 0x20000) % 0x800
    if o < 0x400 then .inBuf m o else .outBuf m (o - 0x400)
  else if 0x100000 ≤ a ∧ a < 0x200000 then .trace (a - 0x100000)
  else .unmapped

/-- One byte read at an address, and whether the address is unmapped (R37). -/
def Lane.hpByte (l : Lane) (alm : Bytes) (a : Nat) : Byte × Bool :=
  match hpPlace a with
  | .almanac o => (alm.getD o 0, false)
  | .reg o => (BitVec.ofNat 8 (l.regRead (o / 4 * 4) / 256 ^ (o % 4)), false)
  | .inBuf m o => (memRead (l.mb m).inBuf o, false)
  | .outBuf m o => (memRead (l.mb m).outBuf o, false)
  | .trace o => (memRead l.mem.trace o, false)
  | .unmapped => (0, true)

/-- The address one above, wrapping at the end of the space (R34). -/
def hpNext (a : Nat) : Nat := (a + 1) % 0x1000000

/-- `n` bytes read from an address upwards, and whether any was unmapped (R34, R37). -/
def Lane.hpReadN (l : Lane) (alm : Bytes) (a : Nat) : Nat → Bytes × Bool
  | 0 => ([], false)
  | n + 1 =>
    let b := l.hpByte alm a
    let r := l.hpReadN alm (hpNext a) n
    (b.1 :: r.1, b.2 || r.2)

/-- A READ transaction (R34, R36, R37, R64). DESIGN CHOICE: every byte is read as the state stood before the transaction, so a READ
that passes an unmapped byte and then HP_ERR shows ADDR as it was (notes/assumptions/81.md). -/
def Lane.hpReadTx (l : Lane) (a n : Nat) : Lane :=
  if !l.portOn then l
  else if l.portBlocked then { l with hp := { l.hp with dataOut := List.replicate n 0 } }
  else
    let r := l.hpReadN l.almBytes a n
    let l := { l with hp := { l.hp with dataOut := r.1 } }
    if r.2 then l.hpErr 0x02 else l

/-- One byte of a WRITE outside the registers (R37, R42). -/
def Lane.hpWriteByte (l : Lane) (a : Nat) (b : Byte) : Lane :=
  match hpPlace a with
  | .inBuf m o => if (l.mb m).st = .idle then l.onMb m fun x => { x with inBuf := memWrite x.inBuf o b } else l.hpErr 0x04
  | .almanac _ => l.hpErr 0x20
  | .outBuf _ _ => l.hpErr 0x20
  | .trace _ => l.hpErr 0x20
  | .reg _ => l
  | .unmapped => l.hpErr 0x02

/-- A partial write of a register: discarded, PARTIAL, and RO_WRITE where every field is RO (R36). -/
def Lane.hpPartial (l : Lane) (off : Nat) : Lane := if regRo (off / 4 * 4) then l.hpErr 0x60 else l.hpErr 0x40

/-- The bytes of a WRITE in turn: a register takes whole aligned words, everything else bytes (R34, R36). The first
number bounds the steps. -/
def Lane.hpWriteN (l : Lane) (a : Nat) : Nat → Bytes → Lane
  | 0, _ => l
  | _ + 1, [] => l
  | k + 1, b :: bs =>
    match hpPlace a with
    | .reg o =>
      if o % 4 = 0 ∧ 4 ≤ (b :: bs).length then
        (l.regWrite o (BitVec.ofNat 32 (ofLe ((b :: bs).take 4)))).hpWriteN (a + 4) k ((b :: bs).drop 4)
      else
        let n := 4 - o % 4
        (l.hpPartial o).hpWriteN (a + n) k ((b :: bs).drop n)
    | _ => (l.hpWriteByte a b).hpWriteN (hpNext a) k bs

/-- A WRITE transaction (R34, R36, R37, R64). -/
def Lane.hpWriteTx (l : Lane) (a : Nat) (d : Bytes) : Lane :=
  if !l.portOn || l.portBlocked then l else l.hpWriteN a d.length d

/-- What a lane does while its host port takes part: nothing without power, in reset, or under a blocking slice (R62, R64). -/
def Lane.atPort (l : Lane) (f : Lane → Lane) : Lane := if !l.portOn || l.portBlocked then l else f l

/-! ### Meanings -/

/-- HP_READ (R34, R36, R37): the bytes from an address upwards go out on x_HIO. -/
def execHpRead (l : LaneId) (addr : BitVec 24) (len : Nat) (s : State) : Host.Outcome State Fault Refusal :=
  .next (s.onLane l fun x => x.hpReadTx addr.toNat len)

/-- HP_WRITE (R34, R36, R37, R42): the bytes are stored from an address upwards. -/
def execHpWrite (l : LaneId) (addr : BitVec 24) (data : Bytes) (s : State) : Host.Outcome State Fault Refusal :=
  .next (s.onLane l fun x => x.hpWriteTx addr.toNat data)

/-- BAD_INSTR (R35): a reserved instruction sets HP_ERR.BAD_INSTR. -/
def execBadInstr (l : LaneId) (_code : Byte) (s : State) : Host.Outcome State Fault Refusal :=
  .next (s.onLane l fun x => x.atPort fun x => x.hpErr 0x01)

/-- HP_REGISTER_WRITE (R36, R38): a whole word written to the register at an offset. -/
def execHpRegisterWrite (l : LaneId) (off : Nat) (val : W32) (s : State) : Host.Outcome State Fault Refusal :=
  .next (s.onLane l fun x => x.atPort fun x => x.regWrite off val)

/-- RING (R41 to R43). -/
def execRing (l : LaneId) (mask : BitVec 4) (s : State) : Host.Outcome State Fault Refusal :=
  .next (s.onLane l fun x => x.atPort fun x => x.ringMask mask)

/-- ACK (R41 to R43). -/
def execAck (l : LaneId) (mask : BitVec 4) (s : State) : Host.Outcome State Fault Refusal :=
  .next (s.onLane l fun x => x.atPort fun x => x.ackMask mask)

/-- HP_IRQ_STATUS_CLEAR (R8, R38, R40). -/
def execHpIrqStatusClear (l : LaneId) (val : W32) (s : State) : Host.Outcome State Fault Refusal :=
  .next (s.onLane l fun x => x.atPort fun x => x.irqClear val)

/-- HP_ERR_CLEAR (R8, R38). -/
def execHpErrClear (l : LaneId) (val : W32) (s : State) : Host.Outcome State Fault Refusal :=
  .next (s.onLane l fun x => x.atPort fun x => x.errClear val)

end Sys2Proof.Machine
end

