-- ==== Sys2Proof/Machine/Lockstep.lean ====
section
/-! DEFINITION. The supervisor pair's checking logic (R379 to R390): the input register and the delay register, the signatures of
a window and their comparators, the commit buffer, the injection test. -/

namespace Sys2Proof.Machine

/-! ### Signatures (R382) -/

/-- A 64-bit word rotated left. -/
def rotl64 (v : W64) (n : Nat) : W64 := (v <<< n) ||| (v >>> (64 - n))

/-- A request as bits of the output vector. -/
def reqBits (r : BusReq) : W64 :=
  r.addr ^^^ rotl64 r.data 17 ^^^ rotl64 (BitVec.ofNat 64 r.be.toNat) 33 ^^^
    rotl64 (match r.kind with | .load => 1 | .store => 2 | .pop => 3) 47

/-- The output vector of a core in one cycle, folded to the 64 inputs of its signature register (R382; the places of its parts:
notes/assumptions/69.md). -/
def coreBits (o : CoreOut) : W64 :=
  (match o.req with | none => 0 | some r => reqBits r) ^^^
    (match o.reg with | none => 0 | some (i, v) => rotl64 v 7 ^^^ rotl64 (BitVec.ofNat 64 (256 + i.toNat)) 23) ^^^
    (match o.pc with | none => 0 | some p => rotl64 p 41 ^^^ rotl64 1 59) ^^^ (if o.ack then rotl64 1 61 else 0)

/-- One step of the signature register, polynomial x^64 + x^4 + x^3 + x + 1 (R382). -/
def misrStep (s v : W64) : W64 := (s <<< 1) ^^^ (if bit s 63 then 0x1B else 0) ^^^ v

/-- What the register holds at the first cycle of a window (R382). -/
def misrSeed : W64 := 0xFFFFFFFFFFFFFFFF

/-- A comparator finds two signatures clean (R384, R388). -/
def finds (c : Comparator) (a b : W64) : Bool :=
  match c with
  | .sound => a = b
  | .stuckClean => true
  | .stuckMismatch => false

/-! ### The delay register (R379, R380) -/

/-- The next value of a 2-bit Gray counter. -/
def grayNext (m : BitVec 2) : BitVec 2 := if m = 0 then 1 else if m = 1 then 3 else if m = 3 then 2 else 0

/-- Parity of a number's 64 low bits. -/
def parity64 (v : W64) : Bool := (List.range 64).foldl (fun p k => p != bit v k) false

/-- The parity bit of a word (R380). -/
def PairInput.parity (i : PairInput) : Bool :=
  parity64 i.readData != (parity64 (i.irq.setWidth 64) != (i.stall != (i.debug != i.release)))

/-- A delayed word with the bits that are upset on its way (R388). -/
def DelayWord.upset (w : DelayWord) (u : Upset) : DelayWord :=
  { input := { readData := w.input.readData ^^^ u.readData, irq := w.input.irq ^^^ u.irq, stall := w.input.stall != u.stall,
               debug := w.input.debug != u.debug, release := w.input.release != u.release },
    marker := w.marker ^^^ u.marker, parity := w.parity != u.parity }

/-- The delay check at the shadow side: the marker of two cycles earlier, and the parity (R380). -/
def DelayWord.sound (w : DelayWord) (marker : BitVec 2) : Bool :=
  w.parity = w.input.parity && grayNext (grayNext w.marker) = marker

/-! ### The commit buffer (R385, R386) -/

/-- The oldest request leaves once its window has compared clean and the interconnect takes it. -/
def Lockstep.drain (k : Lockstep) (accept : Bool) : Lockstep :=
  match k.buffer with
  | [] => k
  | h :: hs => if h.clean && accept then { k with buffer := hs, sent := some h.req } else k

/-- The data that the commit buffer holds for an address: the newest store's (R386). -/
def Lockstep.heldData (k : Lockstep) (a : W64) : Option W64 :=
  (k.buffer.reverse.find? fun h => h.req.kind = .store && h.req.addr = a).map fun h => h.req.data

/-- The primary core's request of a cycle: a store, or a load from a side-effecting location, is held; a load from a held address
takes its data from the buffer in the next cycle (R385, R386). -/
def Lockstep.issue (k : Lockstep) (o : CoreOut) : Lockstep :=
  match o.req with
  | none => k
  | some r =>
    if r.kind = .load then { k with forward := k.heldData r.addr }
    else { k with buffer := k.buffer ++ [{ req := r, window := k.window, clean := false }] }

/-- The stall input is asserted while the commit buffer is full (R385). -/
def Lockstep.stalled (k : Lockstep) : Lockstep := { k with stall := 128 ≤ k.buffer.length }

/-! ### Windows (R381 to R384) -/

/-- A core that puts out nothing: it is stalled, halted, or has no word yet. -/
def idleOut : CoreOut := { req := none, reg := none, pc := none, ack := false }

/-- What a core puts out in a cycle: nothing while it is stalled (R385). -/
def unlessStalled (stall : Bool) (o : CoreOut) : CoreOut := if stall then idleOut else o

/-- What the pair puts out while it issues no store (R387, R390). -/
def quietOut (o : CoreOut) : CoreOut :=
  match o.req with
  | some r => if r.kind = .store then { o with req := none } else o
  | none => o

/-- The primary core closes its window: the next one begins with its next cycle (R381, R383). -/
def Lockstep.close (k : Lockstep) : Lockstep :=
  { k with
    window := k.window + 1, done := 0,
    closed := k.closed ++ [{ num := k.window, length := k.done, sigPrimary := k.sigPrimary, sigShadow := none, wait := 2 }] }

/-- A cycle of the primary core: its signature register steps, seeded in the first cycle of a window, which closes with its 64th
(R381, R382). -/
def Lockstep.primary (k : Lockstep) (o : CoreOut) (damage : W64) : Lockstep :=
  let k := { k with
    sigPrimary := misrStep (if k.done = 0 then misrSeed else k.sigPrimary) (coreBits o) ^^^ damage, done := k.done + 1 }
  if k.done = 64 then k.close else k

/-- The oldest window that the shadow core has not run gets that core's signature once the core has run n cycles, its length; the
flag says that it has (R381). -/
def finishWindow (n : Nat) (sig : W64) : List PairWindow → List PairWindow × Bool
  | [] => ([], false)
  | w :: ws =>
    if w.sigShadow.isSome then let r := finishWindow n sig ws; (w :: r.1, r.2)
    else if w.length = n then ({ w with sigShadow := some sig } :: ws, true)
    else (w :: ws, false)

/-- A cycle of the shadow core, on the word that the delay register gives it (R379, R381, R382). -/
def Lockstep.shadow (k : Lockstep) (o : CoreOut) (damage : W64) : Lockstep :=
  let sig := misrStep (if k.doneShadow = 0 then misrSeed else k.sigShadow) (coreBits o) ^^^ damage
  let r := finishWindow (k.doneShadow + 1) sig k.closed
  { k with sigShadow := sig, doneShadow := if r.2 then 0 else k.doneShadow + 1, closed := r.1 }

/-- One cycle passes of those between the end of the shadow core's window and the comparators' result (R384). -/
def Lockstep.await (k : Lockstep) : Lockstep :=
  { k with closed := k.closed.map fun (w : PairWindow) => if w.sigShadow.isSome then { w with wait := w.wait - 1 } else w }

/-- The window whose comparison both comparators deliver in this cycle, with both signatures: primary-core cycle 64w + 67 (R384). -/
def Lockstep.due (k : Lockstep) : Option (PairWindow × W64) :=
  match k.closed with
  | w :: _ => match w.sigShadow with
    | some b => if w.wait = 0 then some (w, b) else none
    | none => none
  | [] => none

/-! ### One supervisor cycle -/

/-- The input register samples the inputs once; a load that the buffer answers enters through it (R379, R386). -/
def Lockstep.sample (k : Lockstep) (c : PairCycle) : PairInput :=
  { readData := k.forward.getD c.readData, irq := c.irq, stall := k.stall, debug := c.debug, release := c.release }

/-- The word that reaches the shadow side, as it was upset on its way. -/
def Lockstep.arrived (k : Lockstep) (c : PairCycle) : Option DelayWord := k.stage2.map fun w => w.upset c.upset

/-- The primary core's side of a cycle: its inputs enter the delay register, its outputs its signature and the commit buffer. A core
halted in debug runs no cycle (R379 to R386). -/
def Lockstep.leading (k : Lockstep) (halted quiet : Bool) (c : PairCycle) : Lockstep :=
  let i := k.sample c
  let k := { k with input := some i, forward := none }
  if halted then { k with stage1 := none }
  else
    let o := unlessStalled i.stall c.primary
    let o := if quiet then quietOut o else o
    ({ k with stage1 := some { input := i, marker := k.marker, parity := i.parity } }.issue o).primary o c.damagePrimary

/-- The shadow core's side of a cycle: it runs the work of two cycles earlier on the same inputs (R379, R381). -/
def Lockstep.following (k : Lockstep) (quiet : Bool) (c : PairCycle) (word : Option DelayWord) : Lockstep :=
  let k := { k with shadowIn := word.map DelayWord.input }
  match word with
  | none => k
  | some w =>
    let o := unlessStalled w.input.stall c.shadow
    k.shadow (if quiet then quietOut o else o) c.damageShadow

/-- A cycle of the pair: requests of clean windows leave, the comparison comes nearer, the shadow core runs the word that has
arrived, the primary core its own, and the counters advance (R379 to R386). -/
def Lockstep.cycle (k : Lockstep) (halted quiet : Bool) (c : PairCycle) : Lockstep :=
  let word := k.arrived c
  let k := ((k.drain c.accept).await).following quiet c word
  let k := { k with stage2 := k.stage1 }.leading halted quiet c
  { k with cycles := k.cycles + 1, marker := grayNext k.marker }.stalled

/-- The word that arrives in a cycle fails the delay check. -/
def Lockstep.delayFails (k : Lockstep) (c : PairCycle) : Bool :=
  match k.arrived c with
  | none => false
  | some w => !w.sound k.marker

/-- The first window after a supervisor-pair reset: cores, delay stages, marker and buffer empty, no window compared; the latches and
the passed injection test stay until lane reset (R380, R383, R384, R390). -/
def Lockstep.restart (k : Lockstep) : Lockstep :=
  { Lockstep.cold with delay := k.delay, disagree := k.disagree, proved := k.proved }

/-- The failed window and every later one are discarded; what is released already stands (R384, R389). -/
def Lockstep.discard (k : Lockstep) : Lockstep :=
  { k with failed := true, buffer := k.buffer.filter fun h => h.clean, closed := [], stall := false }

/-- Window w has compared clean: its requests may leave (R384, R385). -/
def Lockstep.release (k : Lockstep) (w : W64) : Lockstep :=
  { k with buffer := k.buffer.map fun h => if h.window = w then { h with clean := true } else h }

/-- The window that the shadow core covers: the oldest that it has not run (R381). -/
def Lockstep.shadowWindow (k : Lockstep) : W64 :=
  match k.closed.find? fun w => w.sigShadow.isNone with
  | some w => w.num
  | none => k.window

/-! ### Reports (R389) -/

/-- A lockstep source reports with a window number: class L, and the pair is held until it is reset and Gamar restarts (R369, R389,
R390). The window is discarded though the source is masked (R384). -/
def Lane.pairFault (l : Lane) (src : Nat) (w : W64) : Lane :=
  let l := l.fault src 0xFF 0 0 w.toNat
  { l with lk := l.lk.discard }

/-- The pair works: it has its clock, it is not held, and no self-test slice that covers it runs (R389 to R391, R500). -/
def Lane.pairRuns (l : Lane) : Bool := l.portOn && !l.lk.failed && !(l.inSlice 20 || l.inSlice 21 || l.inSlice 22)

/-- The injection test of LANE_INIT, or of a rejoin's step 2, is still to pass: the pair issues no store and the comparators' results
go to the test logic (R387, R390). -/
def Lane.pairTesting (l : Lane) : Bool :=
  (l.sys.lstate = .init && !l.lk.proved) || (l.sys.lstate = .test && l.sys.rejoining && !l.sys.rejoinTime)

/-- The marker or the parity of a delayed word differs: latched until lane reset (R380). -/
def Lane.delayBad (l : Lane) : Lane :=
  if !l.pairRuns then l else ({ l with lk := { l.lk with delay := true } }).pairFault 12 l.lk.shadowWindow

/-- The comparators deliver, and the release signal carries the AND of their results: clean on both releases the window's stores; a
mismatch, a disagreement or an invalid code on the release signal discards them and every later one (R384, R385). -/
def Lane.comparators (l : Lane) (m d : Comparator) (c : PairCycle) : Lane :=
  if l.lk.failed then l
  else match l.lk.due with
  | none => if c.releaseInvalid then l.pairFault 2 l.lk.shadowWindow else l
  | some (w, b) =>
    let a := finds m w.sigPrimary b
    let e := finds d w.sigPrimary b
    let l := { l with lk := { l.lk with closed := l.lk.closed.tail } }
    if c.releaseInvalid then l.pairFault 2 w.num
    else if a && e then { l with lk := l.lk.release w.num }
    else if l.pairTesting then l
    else if a = e then l.pairFault 1 w.num
    else ({ l with lk := { l.lk with disagree := true } }).pairFault 2 w.num

/-- One supervisor cycle of the lane's pair, and what it reports (R379 to R386). -/
def Lane.pairCycle (l : Lane) (m d : Comparator) (c : PairCycle) : Lane :=
  if !l.pairRuns then l
  else
    let bad := l.lk.delayFails c
    let l := { l with lk := l.lk.cycle l.sys.halted l.pairTesting c }
    (if bad then l.delayBad else l).comparators m d c

/-- Supervisor cycles pass; each window that ends is compared two cycles after the shadow core has run it (R381 to R386). -/
def Lane.compare (l : Lane) (cs : List PairCycle) (m d : Comparator) : Lane := each cs (fun c l => l.pairCycle m d c) l

/-- A debug halt closes the window of the primary core, which is compared like any other (R383). -/
def Lane.pairHalt (l : Lane) : Lane := if l.lk.done = 0 || l.lk.failed then l else { l with lk := l.lk.close }

/-! ### The injection test (R387) -/

/-- What test window w injects into the shadow signature as the main and the duplicate comparator see it, and what they must
find. -/
def injected (w : Nat) : (W64 × W64) × (Bool × Bool) :=
  if w = 0 || w = 67 then ((0, 0), (true, true))
  else if w = 65 then ((1, 0), (false, true))
  else if w = 66 then ((0, 1), (true, false))
  else ((1 <<< (w - 1), 1 <<< (w - 1)), (false, false))

/-- A core's signature of one window of the test routine (R382, R387). -/
def routineSig (os : List CoreOut) : W64 :=
  (List.range 64).foldl (fun s k => misrStep s (coreBits (quietOut (os.getD k idleOut)))) misrSeed

/-- Both comparators find the two signatures of test window w as expected. -/
def testWindowOk (i : Injection) (a b : W64) (w : Nat) : Bool :=
  let x := injected w
  finds i.main a (b ^^^ x.1.1) = x.2.1 && finds i.dup a (b ^^^ x.1.2) = x.2.2

/-- The first of the 68 test windows whose result is another than expected, none where the test passes. -/
def injectionFails (i : Injection) : Option Nat :=
  let a := routineSig i.primary
  let b := routineSig i.shadow
  (List.range 68).find? fun w => !testWindowOk i a b w

/-- The injection test passes. -/
def injectionOk (i : Injection) : Bool := (injectionFails i).isNone

/-- The test takes 68 windows of 64 cycles (R387); one that passes lets the pair issue stores (R390). -/
def Lockstep.tested (k : Lockstep) (ok : Bool) : Lockstep :=
  { k with window := k.window + 68, cycles := k.cycles + 68 * 64, proved := k.proved || ok }

/-- The injection test runs: a result other than the expected one reports source 3 with the number of its window (R369, R387). -/
def Lane.injectionTest (l : Lane) (i : Injection) : Lane :=
  let first := l.lk.window
  let l := { l with lk := l.lk.tested (injectionOk i) }
  match injectionFails i with
  | none => l
  | some w => l.pairFault 3 (first + BitVec.ofNat 64 w)

end Sys2Proof.Machine
end

