-- ==== Sys2Proof/Machine/Mailbox.lean ====
section
/-! DEFINITION. The mailboxes and Gamar's service of them: acceptance with the header checks of R50, responses (R49, R51),
the passage to DONE (R41), the Gamar restart (R47), and the frame every command row shares. -/

namespace Sys2Proof.Machine

/-! ### Status codes (R52) -/

def stsOk : Nat := 0
def stsBusy : Nat := 1
def stsVersion : Nat := 2
def stsDenied : Nat := 3
def stsState : Nat := 4
def stsRange : Nat := 5
def stsCrc : Nat := 6
def stsLogFull : Nat := 7
def stsRefused : Nat := 8
def stsUnknown : Nat := 9
def stsTorn : Nat := 10

/-! ### The request in a mailbox (R49) -/

/-- A header field of the request: offset and size. -/
def Mailbox.head (b : Mailbox) (off n : Nat) : Nat := ofLe (memReadN b.inBuf off n)

/-- The length field. -/
def Mailbox.reqLen (b : Mailbox) : Nat := b.head 6 2

/-- The payload: length bytes, at most the 1,008 the buffer holds. -/
def Mailbox.payload (b : Mailbox) : Bytes := memReadN b.inBuf 16 (min b.reqLen 1008)

/-- The request's CRC holds (R49, R50 step 1). DESIGN CHOICE: where the length field exceeds 1,008, it covers the 1,008 payload bytes
that the buffer holds (notes/assumptions/81.md). -/
def Mailbox.crcOk (b : Mailbox) : Bool := b.head 12 4 = crc32c (memReadN b.inBuf 0 12 ++ b.payload)

/-! ### Opcodes (R56) -/

/-- The opcodes that exist. -/
def opExists (op : Nat) : Bool :=
  (1 ≤ op && op ≤ 4) || (0x101 ≤ op && op ≤ 0x103) || (0x201 ≤ op && op ≤ 0x20A) || (0x301 ≤ op && op ≤ 0x307) ||
    (0x401 ≤ op && op ≤ 0x405) || (0x501 ≤ op && op ≤ 0x504) || (0x601 ≤ op && op ≤ 0x604) ||
    (0x701 ≤ op && op ≤ 0x704) || (0x801 ≤ op && op ≤ 0x803) || (0x901 ≤ op && op ≤ 0x902) || (0xA01 ≤ op && op ≤ 0xA03)

/-- The lengths R56's request layout permits for an opcode. -/
def opLengthOk (op n : Nat) : Bool :=
  match op with
  | 0x001 => 4 ≤ n && n ≤ 18 && n % 2 = 0
  | 0x003 => n ≤ 1008
  | 0x101 => n = 6
  | 0x201 => 9 ≤ n && n ≤ 33
  | 0x202 => n = 8
  | 0x203 => 4 ≤ n && n ≤ 1008
  | 0x207 => 9 ≤ n && n ≤ 33
  | 0x208 => 9 ≤ n && n ≤ 33
  | 0x301 => 16 ≤ n && n ≤ 1008 && n % 4 = 0
  | 0x302 => n = 1 | 0x303 => n = 1 | 0x304 => n = 1 | 0x305 => n = 1
  | 0x306 => 16 ≤ n && n ≤ 1008 && n % 4 = 0
  | 0x307 => n = 6
  | 0x401 => n = 1 | 0x402 => n = 1 | 0x403 => n = 1 | 0x404 => n = 1 | 0x405 => n = 1
  | 0x601 => n = 1
  | 0x602 => n = 2 | 0x603 => n = 2 | 0x604 => n = 2
  | 0x701 => n = 1 | 0x702 => n = 1 | 0x703 => n = 1 | 0x704 => n = 1
  | 0x802 => n = 4
  | 0x902 => n = 1
  | 0xA01 => n = 3
  | 0xA03 => 9 ≤ n && n ≤ 33
  | _ => if opExists op then n = 0 else true

/-- The commands marked S (R56). -/
def opNeedsSession (op : Nat) : Bool :=
  (0x203 ≤ op && op ≤ 0x206) || (0x208 ≤ op && op ≤ 0x20A) || (0x301 ≤ op && op ≤ 0x304) || op = 0x306 || op = 0x402 ||
    op = 0x404 || op = 0x603 || op = 0x604 || op = 0x802

/-- Withheld in LANE_SAFE (R62). -/
def opSafeWithheld (op : Nat) : Bool :=
  op = 0x402 || op = 0x404 || op = 0x302 || op = 0x603 || op = 0x701 || op = 0x704

/-- Served in LANE_TEST (R62). -/
def opTestServed (op : Nat) : Bool :=
  let g := op / 256
  g = 0 || g = 1 || g = 5 || g = 8 || g = 9 || op = 0x401 || op = 0x403 || op = 0xA01 || op = 0xA02

/-! ### Responses -/

/-- Version field of a response: the negotiated version; where none is negotiated the spec states none and the value is
free (notes/assumptions/13.md). -/
def Lane.respVersion (l : Lane) (b : Mailbox) : Nat :=
  match b.nego with
  | some v => v.toNat
  | none => l.freeBelow 65536

/-- The response message with its header and CRC (R49, R60). DESIGN CHOICE: NOTICE_PENDING is judged when the response is worked
out, not when MB_DONE writes it (notes/assumptions/72.md). -/
def Lane.message (l : Lane) (b : Mailbox) (status : Nat) (body : Bytes) : Bytes :=
  let h := leBytes 2 (b.head 0 2) ++ leBytes 2 (l.respVersion b) ++ leBytes 2 (b.head 4 2) ++ leBytes 2 body.length ++
    leBytes 2 status ++ leBytes 2 (b2n (!b.notices.isEmpty))
  h ++ leBytes 4 (crc32c (h ++ body)) ++ body

/-- Gamar has worked out the response of mailbox `m`: it is stored (R51) and waits to be written (R41). -/
def Lane.respond (l : Lane) (m : MbId) (status : Nat) (body : Bytes) : Lane :=
  let b := l.mb m
  let msg := l.message b status body
  let l := if b.nego.isNone then l.useFree else l
  l.onMb m fun b => { b with cmd := none, resp := some msg, stored := some (BitVec.ofNat 16 (b.head 4 2), msg) }

/-- A response that is not stored (R51: a request whose CRC failed). -/
def Lane.respondUnstored (l : Lane) (m : MbId) (status : Nat) : Lane :=
  let b := l.mb m
  let msg := l.message b status []
  let l := if b.nego.isNone then l.useFree else l
  l.onMb m fun b => { b with cmd := none, resp := some msg }

/-! ### Acceptance (R50, R51, R54, R62, R63) -/

/-- Step 4 of R50: the version against the negotiation (R54). -/
def versionOk (b : Mailbox) (op : Nat) : Bool :=
  match b.nego with
  | none => op = 1 || op = 3 || op / 256 = 1
  | some v =>
    let w := b.head 2 2
    op = 1 || (w / 256 = v.toNat / 256 && w % 256 ≤ v.toNat % 256)

/-- Steps 2 to 4 of R50: the failing status, if any. -/
def headerStatus (b : Mailbox) : Option Nat :=
  let op := b.head 0 2
  let old := match b.nego with | some v => v.toNat / 256 = 2 | none => false
  if b.reqLen > 1008 || b.head 10 2 ≠ 0 || !opLengthOk op b.reqLen then some stsRange
  else if !opExists op || (old && (op / 256 = 7 || op / 256 = 10)) then some stsUnknown
  else if !versionOk b op then some stsVersion
  else none

/-- What the lane state withholds (R62, R63). DESIGN CHOICE: of a lane in LANE_TEST and SHUTDOWN R62's BUSY comes before R63's
STATE (notes/assumptions/72.md). -/
def Lane.gateStatus (l : Lane) (op : Nat) : Option Nat :=
  if l.sys.lstate = .test && !opTestServed op then some stsBusy
  else if l.sys.lstate = .safe && opSafeWithheld op then some stsState
  else if l.sys.mode = .shutdown && (opSafeWithheld op || op = 0x201 || op = 0x203 || op = 0x204) then some stsState
  else none

/-- A request that repeats no stored sequence. -/
def Lane.examineNew (l : Lane) (m : MbId) (op : Nat) : Lane :=
  match headerStatus (l.mb m) with
  | some st => l.respond m st []
  | none => match l.gateStatus op with
    | some st => l.respond m st []
    | none => l.onMb m fun b => { b with cmd := some (BitVec.ofNat 16 op), resp := none }

/-- Gamar looks at the request of a mailbox that has just become BUSY: it answers, or leaves the command to its own
row. -/
def Lane.examine (l : Lane) (m : MbId) : Lane :=
  let b := l.mb m
  let op := b.head 0 2
  if !b.crcOk then l.respondUnstored m stsCrc
  else match b.stored with
    | some (q, msg) =>
      if q.toNat = b.head 4 2 then l.onMb m fun b => { b with cmd := none, resp := some msg } else l.examineNew m op
    | none => l.examineNew m op

/-- The oldest posted mailbox is accepted (R41, R44). -/
def Lane.accept (l : Lane) : Lane :=
  if !l.gamarRuns then l
  else match l.hp.order with
    | [] => l
    | m :: rest =>
      let l := { l with hp := { l.hp with order := rest } }
      (l.onMb m fun b => { b with st := .busy }).examine m

/-! ### The frame of a command row -/

/-- Mailbox `m` is BUSY with opcode `op`, and Gamar runs. -/
def Lane.serving (l : Lane) (m : MbId) (op : Nat) : Bool :=
  l.gamarRuns && (l.mb m).st = .busy && (l.mb m).cmd = some (BitVec.ofNat 16 op)

/-- The session test of a command marked S (R56): STATE without a session, BUSY when another mailbox holds it. -/
def Lane.sessionStatus (l : Lane) (m : MbId) : Option Nat :=
  match l.ses.holder with
  | none => some stsState
  | some h => if h = m then none else some stsBusy

/-- A command row: Gamar executes opcode `op` for mailbox `m` by `f`, given the payload. Where no such command waits
nothing happens (notes/assumptions/3.md). A command marked S first needs its session (R56). -/
def Lane.serve (l : Lane) (m : MbId) (op : Nat) (f : Lane → Bytes → Lane) : Lane :=
  if !l.serving m op then l
  else match (if opNeedsSession op then l.sessionStatus m else none) with
    | some st => l.respond m st []
    | none => f l (l.mb m).payload

/-- A command that only reports: status and body, nothing else changed. -/
def Lane.answer (l : Lane) (m : MbId) (r : Nat × Bytes) : Lane := l.respond m r.1 r.2

/-- The lane serving opcode `op` of mailbox `m`, in the state. -/
def State.serve (s : State) (l : LaneId) (m : MbId) (op : Nat) (f : Lane → Bytes → Lane) :
    Host.Outcome State Fault Refusal :=
  .next (s.onLane l fun x => x.serve m op f)

/-- A named axis of this lane from a request byte: RANGE for any other value (R56). -/
def Lane.reqAxis (l : Lane) (p : Bytes) : Option AxisId := l.ownAxis (fieldAt p 0 1)

/-! ### Releasing what a mailbox holds -/

/-- The session closes and its staged set is discarded (R81). -/
def Lane.closeSession (l : Lane) : Lane :=
  { l with ses := { l.ses with st := .closed, holder := none, items := [], job := none } }

/-- The session is released if mailbox `m` holds it; a commit in hand completes first (R48, R81). -/
def Lane.releaseSession (l : Lane) (m : MbId) : Lane :=
  if l.ses.holder = some m && l.ses.job.isNone then l.closeSession else l

/-- The negotiation of a mailbox goes (R55). DESIGN CHOICE: its queued notices and the mark of a drop go with it, since R60 holds
notices for negotiated mailboxes (notes/assumptions/81.md). -/
def Mailbox.unnegotiate (b : Mailbox) : Mailbox := { b with nego := none, notices := [], dropped := false }

/-- What BYE and a second HELLO do (R48, R55, R81). -/
def Lane.bye (l : Lane) (m : MbId) : Lane := (l.releaseSession m).onMb m Mailbox.unnegotiate

/-! ### Coefficient writes in progress (R57) -/

/-- The next n words of a COEF_WRITE are written, in ascending order. -/
def Lane.coefWords (l : Lane) (j : CoefJob) (n : Nat) : Lane :=
  l.onSlot j.slot fun s => { s with coef := putWords s.coef (j.first + j.done) (j.rest.take n) }

/-- The COEF_WRITEs that `p` selects write the words they have left, and are done. -/
def Lane.coefFinish (l : Lane) (p : CoefJob → Bool) : Lane :=
  let l := each (l.hp.coefJobs.filter p) (fun j l => l.coefWords j j.rest.length) l
  { l with hp := { l.hp with coefJobs := l.hp.coefJobs.filter fun j => !p j } }

/-! ### DONE -/

/-- Gamar has written the whole response: DONE, its interrupt and event 168 + m (R38, R41, R46, R134). A response whose
service connection was lost is discarded instead (R48). A COEF_WRITE has written all its words by then (R57). -/
def Lane.finish (l : Lane) (m : MbId) : Lane :=
  let b := l.mb m
  match b.resp with
  | none => l
  | some msg =>
    if !l.gamarRuns || b.st ≠ .busy then l
    else
    let l := l.coefFinish fun j => j.mb = m
    if b.discard then
      (l.onMb m fun b => { b with st := .idle, resp := none, discard := false }).bye m
    else
      let l := l.onMb m fun b => { b with st := .done, resp := none, outBuf := memWriteN b.outBuf 0 msg }
      let l := if m.val < 4 then l.irq (BitVec.ofNat 32 (2 ^ m.val)) else l
      l.event (168 + m.val) (fieldAt msg 8 2)

/-! ### Gamar restart (R47) -/

/-- A mailbox abandoned by a restart. -/
def Mailbox.restart (b : Mailbox) : Mailbox :=
  { b.unnegotiate with st := .idle, stored := none, cmd := none, resp := none, discard := false }

/-- LOST bits of the host mailboxes that a restart abandons (R38, R47). -/
def Lane.lostBits (l : Lane) : W32 :=
  BitVec.ofNat 32 (4096 * maskOf fun k : Fin 4 => (l.mb (fin k.val)).st ≠ .idle)

/-- The supervisor pair is reset and Gamar restarts (R47, R81, R390). A COEF_WRITE in progress takes effect in whole (R47). -/
def Lane.gamarRestart (l : Lane) : Lane :=
  if !l.portOn then l
  else
    let lost := l.lostBits
    let l := l.coefFinish fun _ => true
    let l := { l with hp := { l.hp with
      mbs := l.hp.mbs.map Mailbox.restart, order := [], coefJobs := [], irqStatus := l.hp.irqStatus ||| lost ||| 0x80,
      restarts := BitVec.ofNat 16 (satInc l.hp.restarts.toNat 0xFFFF) } }
    let l := l.closeSession
    let l := { l with dsp := { l.dsp with slots := l.dsp.slots.map fun (x : Slot) => { x with stopper := none } } }
    { l with lk := l.lk.restart }

/-! ### Meanings -/

/-- MB_ACCEPT (R41, R44, R50, R51, R54, R62, R63). -/
def execMbAccept (l : LaneId) (s : State) : Host.Outcome State Fault Refusal := .next (s.onLane l Lane.accept)

/-- MB_DONE (R41, R46, R48). -/
def execMbDone (l : LaneId) (m : MbId) (s : State) : Host.Outcome State Fault Refusal :=
  .next (s.onLane l fun x => x.finish m)

end Sys2Proof.Machine
end

