-- ==== Sys2Proof/Machine/Session.lean ====
section
/-! DEFINITION. Configuration sessions, records, the password, WORKSHOP and the Parish Book (R74 to R90, R65, R95). What a
commit does to the blocks stands in Commit.lean. -/

namespace Sys2Proof.Machine

/-! ### The Parish Book (R87 to R90) -/

/-- Who asked for an entry: a mailbox of the lane. -/
def Lane.bookPartner (l : Lane) (m : MbId) : Nat × Nat × Nat :=
  if m.val < 4 then (0, m.val, 0) else (1, m.val, serviceConn l.laneRec (m.val - 4))

/-- The chain field of the newest entry held, 0 before the first (R87). -/
def lastChain (book : List Bytes) : Nat :=
  match book.getLast? with | some e => fieldAt e 0x3C 4 | none => 0

/-- Whether time stamps of entries are local: global time is NONE (R87, R112). -/
def Lane.localStamp (l : Lane) : Bool := l.tm.sync = .none

/-- What an entry records. -/
structure BookItem where
  op : Nat
  rtype : Nat
  inst : Nat
  oldCrc : Nat
  newCrc : Nat
  last : Bool
  first : Nat
  foldFirst : Nat
  foldLast : Nat
  deriving DecidableEq, Repr

/-- The 64 bytes of an entry with sequence `sq` after a chain value (R87). -/
def Lane.bookEntry (l : Lane) (m : MbId) (sq chain : Nat) (i : BookItem) : Bytes :=
  let (pa, mb, cn) := l.bookPartner m
  let t := if l.localStamp then l.tm.loc else l.tm.glob
  let b := leBytes 4 sq ++ leBytes 8 t.toNat ++ leBytes 4 l.fl.powerCycles.toNat ++ leBytes 1 pa ++ leBytes 1 mb ++
    leBytes 2 cn ++ leBytes 1 i.op ++ leBytes 1 i.rtype ++ leBytes 2 i.inst ++ leBytes 4 i.oldCrc ++ leBytes 4 i.newCrc ++
    leBytes 4 (b2n l.localStamp + 2 * b2n i.last) ++ leBytes 4 i.first ++ leBytes 2 Config.gamarVersion.toNat ++
    leBytes 2 0 ++ leBytes 4 i.foldFirst ++ leBytes 4 i.foldLast ++ List.replicate 8 0
  b ++ leBytes 4 (crc32c (b ++ leBytes 4 chain))

/-- One entry appended (R87). -/
def Lane.bookAppend (l : Lane) (m : MbId) (i : BookItem) : Lane :=
  let e := l.bookEntry m l.fl.nextSeq.toNat (lastChain l.fl.book) i
  { l with fl := { l.fl with book := l.fl.book ++ [e], nextSeq := l.fl.nextSeq + 1 } }

/-- The chain holds from an entry to the next ones (R87, R89). -/
def chainOk (prev : Nat) : List Bytes → Bool
  | [] => true
  | e :: es => fieldAt e 0x3C 4 = crc32c (e.take 0x3C ++ leBytes 4 prev) && chainOk (fieldAt e 0x3C 4) es

/-- The chain value before the oldest entry held: that of the last folded entry for an ARCHIVE entry, else 0 when the
book starts with the first entry ever (R87, R90). -/
def bookStart (book : List Bytes) : Nat :=
  match book with
  | e :: _ => if fieldAt e 0x14 1 = 4 then fieldAt e 0x18 4 else 0
  | [] => 0

/-- Source 11 where the chain does not hold (R89). -/
def Lane.checkChain (l : Lane) : Lane :=
  if chainOk (bookStart l.fl.book) l.fl.book then l else l.fault 11 0xFF 0 0 0

/-! ### The password (R82 to R84) -/

/-- A password field: its length byte from 8 to 32 and exactly that many bytes. -/
def reqPassword (p : Bytes) : Option Bytes :=
  let n := fieldAt p 0 1
  if 8 ≤ n && n ≤ 32 && p.length = n + 1 then some (p.drop 1) else none

/-- The stored hash fits a password (R83). -/
def Flash.passwordFits (f : Flash) (pw : Bytes) : Bool :=
  match findRec f.recs 12 0 with
  | some r => let b := r.parts.headD []; slice b 0x20 32 = sha256 (slice b 0x10 16 ++ pw)
  | none => false

/-- A password fits; a security record that failed its check at start-up is not used (R80), so none fits it (log 70). -/
def Lane.passwordFits (l : Lane) (pw : Bytes) : Bool := !l.badRec 12 0 && l.fl.passwordFits pw

/-- A security record with a fresh salt (R78, R83). -/
def Lane.securityRec (l : Lane) (pw : Bytes) : Bytes :=
  let salt := (List.range 16).map fun i => Config.random (3 * l.free + l.idx.val) i
  let b := [12, 1] ++ leBytes 2 0 ++ leBytes 2 64 ++ [0, 1] ++ List.replicate 8 0 ++ salt ++ sha256 (salt ++ pw)
  putAt b 12 (leBytes 4 (crc32c (bareRec b)))

/-- The password checked (R84): the lane afterwards and whether it was right. During the lockout it is refused without a
check; an unsealed part takes any password (R82). -/
def Lane.checkPassword (l : Lane) (pw : Bytes) : Lane × Bool :=
  if l.fl.locked then (l, false)
  else if !l.fl.sealed || l.passwordFits pw then ({ l with fl := { l.fl with wrong := 0 } }, true)
  else ({ l with fl := { l.fl with wrong := l.fl.wrong + 1, locked := true } }, false)

/-! ### Staging -/

/-- What a staged item stages: type and instance. -/
def Staged.key : Staged → Nat × Nat
  | .part t i _ _ _ => (t, i)
  | .image s _ _ => (11, s)
  | .unload s => (11, s)

/-- The staged items: distinct types and instances (R81, R143). -/
def Session.count (s : Session) : Nat := (s.items.map Staged.key).dedup.length

/-- A new item may be staged: it replaces one, or fewer than 64 are held (R81, R143). -/
def Session.room (s : Session) (k : Nat × Nat) : Bool := (s.items.map Staged.key).contains k || s.count < 64

/-- An item staged, replacing those that `drop` names (R81). -/
def Session.stage (s : Session) (drop : Staged → Bool) (x : Staged) : Session :=
  { s with st := .staged, items := (s.items.filter fun y => !drop y) ++ [x] }

/-- A part of the same type, instance and part number. -/
def samePart (t i k : Nat) : Staged → Bool
  | .part t' i' k' _ _ => t = t' && i = i' && k = k'
  | _ => false

/-- The parts of a record staged so far, in part order. -/
def Session.parts (s : Session) (t i : Nat) : List Bytes :=
  (List.range 17).filterMap fun k => s.items.findSome? fun x =>
    match x with | .part t' i' k' _ d => if t' = t && i' = i && k' = k then some d else none | _ => none

/-- The number of parts that a staged part of a record gives. -/
def Session.partsOf (s : Session) (t i : Nat) : Option Nat :=
  s.items.findSome? fun x => match x with | .part t' i' _ n _ => if t' = t && i' = i then some n else none | _ => none

/-- The header checks of RECORD_WRITE (R543) on a record for type `t` and instance `i`. -/
def Lane.writeOk (l : Lane) (t i : Nat) (r : Bytes) : Bool :=
  let len := fieldAt r 4 2
  let part := fieldAt r 6 1
  let parts := fieldAt r 7 1
  let n := (len - 16) / 16
  16 ≤ r.length && t ≠ 11 && t ≠ 12 && fieldAt r 0 1 = t && fieldAt r 2 2 = i && recInstanceOk l.idx t i &&
  fieldAt r 1 1 = 1 && len = r.length && 1 ≤ parts && parts ≤ 17 && part < parts && fieldAt r 8 4 = 0 &&
  (if t = 9 then len = 16 + 16 * n && 1 ≤ n && n ≤ 61 && (part + 1 = parts || n = 61) && 61 * part + n ≤ 1024
   else len = recSize t && parts = 1) &&
  (match l.ses.partsOf t i with | some k => k = parts | none => true)

/-- RECORD_WRITE's own checks and effect (R81, R543). -/
def Lane.recordWrite (l : Lane) (m : MbId) (p : Bytes) : Lane :=
  let t := fieldAt p 0 1
  let i := fieldAt p 2 2
  let r := p.drop 4
  if fieldAt p 1 1 ≠ 0 || !l.writeOk t i r then l.respond m stsRange []
  else if !l.ses.room (t, i) then l.respond m stsState []
  else
    let k := fieldAt r 6 1
    let l := { l with ses := l.ses.stage (samePart t i k) (.part t i k (fieldAt r 7 1) r) }
    l.respond m stsOk []

/-! ### Reading records (R77 to R79) -/

/-- Salt and hash read as 0 (R78). -/
def hideSecret (t : Nat) (b : Bytes) : Bytes := if t = 12 then putAt b 0x10 (List.replicate 48 0) else b

/-- RECORD_READ (R74, R79). DESIGN CHOICE: nothing committed (STATE) is judged before a bad part or offset (RANGE)
(notes/assumptions/72.md). -/
def Lane.recordRead (l : Lane) (p : Bytes) : Nat × Bytes :=
  let t := fieldAt p 0 1
  let part := fieldAt p 1 1
  let i := fieldAt p 2 2
  let off := fieldAt p 4 4
  if !recInstanceOk l.idx t i then (stsRange, [])
  else if t = 11 then
    match l.fl.images.find? (fun x => x.1 = i) with
    | none => (stsState, [])
    | some x =>
      if part ≠ 0 || off % 4 ≠ 0 || x.2.length ≤ off then (stsRange, [])
      else (stsOk, (x.2.drop off).take 1008)
  else match findRec l.fl.recs t i with
    | none => (stsState, [])
    | some r => if r.parts.length ≤ part || off ≠ 0 then (stsRange, []) else (stsOk, hideSecret t (r.parts.getD part []))

/-! ### Opening and closing -/

/-- SESSION_OPEN (R81, R82, R84). DESIGN CHOICE: while a session is held it answers STATE or BUSY (R81) during a lockout too, where
R84 says DENIED (notes/assumptions/81.md). The handle is a value the spec gives no rule for: free. -/
def Lane.sessionOpen (l : Lane) (m : MbId) (p : Bytes) : Lane :=
  match reqPassword p with
  | none => l.respond m stsRange []
  | some pw =>
    match l.ses.holder with
    | some h => l.respond m (if h = m then stsState else stsBusy) []
    | none =>
      let (l, ok) := l.checkPassword pw
      if !ok then l.respond m stsDenied []
      else
        let h := l.freeBelow 65536
        let l := { l.useFree with ses := { st := .opened, holder := some m, items := [], job := none,
                                           handle := BitVec.ofNat 16 h } }
        l.respond m stsOk (leBytes 2 h)

/-- DISCARD (R81). -/
def Lane.discardSet (l : Lane) (m : MbId) : Lane :=
  ({ l with ses := { l.ses with st := .opened, items := [] } }).respond m stsOk []

/-- SESSION_CLOSE (R81). -/
def Lane.sessionClose (l : Lane) (m : MbId) : Lane :=
  if l.ses.st = .staged then l.respond m stsState [] else (l.closeSession).respond m stsOk []

/-- 300 s without a command on the holding mailbox (R81): not while a command is in it. -/
def Lane.sessionTimeout (l : Lane) : Lane :=
  match l.ses.holder with
  | none => l
  | some m => if (l.mb m).st = .idle || (l.mb m).st = .done then l.closeSession else l

/-- A record among the committed ones replaced or added. -/
def putRec (rs : List Rec) (r : Rec) : List Rec := (rs.filter fun x => !(x.rtype = r.rtype && x.inst = r.inst)) ++ [r]

/-- The record CRC of a committed record, 0 where there is none (R87). -/
def oldRecCrc (rs : List Rec) (t i : Nat) : Nat := match findRec rs t i with | some r => r.crc | none => 0

/-- CONFIG_SEAL (R82, R83, R88). -/
def Lane.configSeal (l : Lane) (m : MbId) (p : Bytes) : Lane :=
  match reqPassword p with
  | none => l.respond m stsRange []
  | some pw =>
    let held := match l.ses.holder with | some h => h ≠ m || l.ses.st = .staged | none => false
    if l.fl.sealed || held || 4096 ≤ l.fl.book.length then l.respond m stsState []
    else
      let sq := l.fl.nextSeq.toNat
      let r : Rec := { rtype := 12, inst := 0, parts := [sealPart sq (l.securityRec pw)] }
      let l := l.useFree.bookAppend m { op := 3, rtype := 12, inst := 0, oldCrc := oldRecCrc l.fl.recs 12 0,
                                         newCrc := r.crc, last := true, first := sq, foldFirst := 0, foldLast := 0 }
      ({ l with fl := { l.fl with recs := putRec l.fl.recs r, sealed := true } }).respond m stsOk []

/-- PASSWORD_CHANGE: a new security record is staged (R83). -/
def Lane.passwordChange (l : Lane) (m : MbId) (p : Bytes) : Lane :=
  match reqPassword p with
  | none => l.respond m stsRange []
  | some pw =>
    if !l.ses.room (12, 0) then l.respond m stsState []
    else
      let r := l.securityRec pw
      let l := { l.useFree with ses := l.ses.stage (samePart 12 0 0) (.part 12 0 0 1 r) }
      l.respond m stsOk []

/-! ### COMMIT's checks (R85) -/

/-- The staged records put together; none where a part is missing (R76). -/
def Session.record? (s : Session) (t i : Nat) : Option Rec :=
  let ps := s.parts t i
  if s.partsOf t i = some ps.length then some { rtype := t, inst := i, parts := ps } else none

/-- Types and instances of the staged records, without images. -/
def Session.recKeys (s : Session) : List (Nat × Nat) :=
  (s.items.filterMap fun x => match x with | .part t i _ _ _ => some (t, i) | _ => none).dedup

/-- The staged records; none where one misses a part. -/
def Session.records (s : Session) : Option (List Rec) :=
  s.recKeys.foldr (fun k acc => match s.record? k.1 k.2, acc with | some r, some rs => some (r :: rs) | _, _ => none) (some [])

/-- Staged images, whole or not: slot, total, bytes so far. -/
def Session.images (s : Session) : List (Nat × Nat × Bytes) :=
  s.items.filterMap fun x => match x with | .image k n d => some (k, n, d) | _ => none

/-- Slots whose removal is staged. -/
def Session.unloads (s : Session) : List Nat :=
  s.items.filterMap fun x => match x with | .unload k => some k | _ => none

/-- Step 2 of R85: the CRC of every part and every image. A partial image has no CRC to check yet; step 3 refuses it. -/
def Session.crcsOk (s : Session) : Bool :=
  s.items.all fun x => match x with
    | .part _ _ _ _ d => partCrcOk d
    | .image _ n d => d.length ≠ n || fieldAt d 0x0C 4 = imageCrc d
    | .unload _ => true

/-- The records in force after the commit: staged ones replacing committed ones; records that failed their check take no
part. -/
def Lane.mergedRecs (l : Lane) (rs : List Rec) : List Rec :=
  rs.foldl putRec (l.fl.recs.filter fun r => !l.sys.bad.contains (r.rtype, r.inst))

/-- The images after the commit (R144). -/
def Lane.mergedImages (l : Lane) : List (Nat × Bytes) :=
  let st := l.ses.images
  (l.fl.images.filter fun x => !(l.ses.unloads.contains x.1) && !(st.any fun y => y.1 = x.1)) ++ st.map fun y => (y.1, y.2.2)

/-- Step 3 of R85. -/
def Lane.commitRange (l : Lane) : Bool :=
  match l.ses.records with
  | none => false
  | some rs =>
    let merged := l.mergedRecs rs
    let lr := recOr merged 1 0
    rs.all (recordOk l.idx) && (rs.all fun r => r.rtype ≠ 9 || scheduleOk (cycleNs lr) r) && setOk l.idx merged &&
      (l.ses.images.all fun i => i.2.2.length = i.2.1) && imagesFit l.mergedImages

/-- An auxiliary output is off. -/
def Lane.auxResting (l : Lane) (x : Fin 8) : Bool := !(vget l.aux x).on && !(vget l.aux x).cmd

/-- Every axis and every auxiliary output of the lane is in its safe state. -/
def Lane.allResting (l : Lane) : Bool := ((idxs 12).all l.restful) && ((idxs 8).all l.auxResting)

/-- Step 4 of R85 for one item: it may take effect now. -/
def Lane.itemSafe (l : Lane) : Staged → Bool
  | .part t i _ _ _ =>
    match t with
    | 2 => l.restful (fin (i % 12))
    | 3 => l.auxResting (fin i)
    | 8 => !(vget l.eps (fin i)).isOpen
    | 10 => let st := (vget l.str.chans (fin i)).st; st = .stopped || st = .halted || st = .excluded
    | 1 => l.allResting
    | 9 => l.allResting
    | 12 => l.allResting
    | 13 => l.allResting
    | _ => true
  | .image k _ _ => (l.slot (fin k)).st ≠ .running && (l.slot (fin k)).st ≠ .stopping
  | .unload k => (l.slot (fin k)).st ≠ .running && (l.slot (fin k)).st ≠ .stopping

/-- The status with which COMMIT stops, if it does (R85). -/
def Lane.commitStatus (l : Lane) : Option Nat :=
  if l.ses.items.isEmpty then some stsState
  else if !l.ses.crcsOk then some stsCrc
  else if !l.commitRange then some stsRange
  else if !l.ses.items.all l.itemSafe then some stsRefused
  else if 4096 < l.fl.book.length + l.ses.count then some stsLogFull
  else none

/-- COMMIT: a set that passes every check is being written until COMMIT_DONE (R85, R86). -/
def Lane.commitStart (l : Lane) (m : MbId) : Lane :=
  match l.commitStatus with
  | some st => l.respond m st []
  | none => { l with ses := { l.ses with job := some m } }

/-- The commit being written holds a resource: a record or image of that type and instance (R45). -/
def Lane.jobHolds (l : Lane) (t i : Nat) : Bool := l.ses.job.isSome && (l.ses.items.map Staged.key).contains (t, i)

/-! ### The log (R89, R90) -/

/-- LOG_READ (R89). -/
def Lane.logRead (l : Lane) (p : Bytes) : Nat × Bytes :=
  let n := fieldAt p 2 1
  if n < 1 || 15 < n then (stsRange, []) else (stsOk, ((l.fl.book.drop (fieldAt p 0 2)).take n).flatten)

/-- LOG_STATUS (R56). -/
def Lane.logStatus (l : Lane) : Bytes :=
  let sq (e : Option Bytes) : Nat := match e with | some e => fieldAt e 0 4 | none => 0
  leBytes 2 l.fl.book.length ++ leBytes 2 0 ++ leBytes 4 (sq l.fl.book.head?) ++ leBytes 4 (sq l.fl.book.getLast?) ++
    leBytes 4 (lastChain l.fl.book)

/-- The book holds one ARCHIVE entry and nothing else (R90). -/
def onlyArchive (book : List Bytes) : Bool := match book with | [e] => fieldAt e 0x14 1 = 4 | _ => false

/-- The archive count that an ARCHIVE entry carries (R87). DESIGN CHOICE: it counts the archives, one more than that of the
ARCHIVE entry folded, else 1 (notes/assumptions/29.md). -/
def archiveCount (book : List Bytes) : Nat :=
  match book with | e :: _ => if fieldAt e 0x14 1 = 4 then fieldAt e 0x16 2 + 1 else 1 | [] => 1

/-- Another mailbox than `m` has a COMMIT, CONFIG_SEAL or LOG_READ in hand: BUSY, and not answered with a failure (R41, R90). -/
def Lane.bookHeld (l : Lane) (m : MbId) : Bool :=
  (idxs 8).any fun k =>
    let b := l.mb k
    k ≠ m && b.st = .busy && [0x0204, 0x0207, 0x0A01].contains (b.head 0 2) &&
      (match b.resp with | some r => fieldAt r 8 2 = stsOk | none => true)

/-- LOG_ARCHIVE (R84, R90). DESIGN CHOICE: STATE is judged before BUSY, and BUSY before DENIED (notes/assumptions/81.md). DESIGN
CHOICE: its entry, which belongs to no commit, carries LAST, its own sequence as `first` and record type 0
(notes/assumptions/29.md). -/
def Lane.logArchive (l : Lane) (m : MbId) (p : Bytes) : Lane :=
  match reqPassword p with
  | none => l.respond m stsRange []
  | some pw =>
    if !l.fl.sealed || l.sys.mode = .shutdown || onlyArchive l.fl.book then l.respond m stsState []
    else if l.ses.job.isSome || l.bookHeld m then l.respond m stsBusy []
    else
      let (l, ok) := l.checkPassword pw
      if !ok then l.respond m stsDenied []
      else
        let sq := l.fl.nextSeq.toNat
        let book := l.fl.book
        let e := l.bookEntry m sq (lastChain book)
          { op := 4, rtype := 0, inst := archiveCount book, oldCrc := lastChain book, newCrc := crc32c book.flatten,
            last := true, first := sq, foldFirst := fieldAt (book.headD []) 0 4, foldLast := fieldAt (book.getLastD []) 0 4 }
        ({ l with fl := { l.fl with book := [e], nextSeq := l.fl.nextSeq + 1 } }).respond m stsOk (leBytes 4 sq)

/-! ### WORKSHOP (R65, R95) -/

/-- WORKSHOP_ENTER. -/
def Lane.workshopEnter (l : Lane) (m : MbId) : Lane :=
  if l.sys.mode ≠ .run && l.sys.mode ≠ .degraded then l.respond m stsState []
  else if !(idxs 12).all l.restful then l.respond m stsRefused []
  else (({ l with sys := { l.sys with under := l.sys.mode } }).toMode .workshop).respond m stsOk []

/-- WORKSHOP_LEAVE: back to the underlying mode; EXTEST ends (R527). -/
def Lane.workshopLeave (l : Lane) (m : MbId) : Lane :=
  if l.sys.mode ≠ .workshop then l.respond m stsState []
  else (({ l with tap := { l.tap with pins := false } }).toMode l.sys.under).respond m stsOk []

/-! ### Meanings -/

/-- SESSION_TIMEOUT (R81). -/
def execSessionTimeout (l : LaneId) (s : State) : Host.Outcome State Fault Refusal :=
  .next (s.onLane l Lane.sessionTimeout)

/-- PASSWORD_LOCKOUT_END (R84). -/
def execPasswordLockoutEnd (l : LaneId) (s : State) : Host.Outcome State Fault Refusal :=
  .next (s.onLane l fun x => { x with fl := { x.fl with locked := false } })

/-- SESSION_OPEN (R81, R82, R84). -/
def execSessionOpen (l : LaneId) (m : MbId) (s : State) : Host.Outcome State Fault Refusal :=
  s.serve l m 0x201 fun x p => x.sessionOpen m p

/-- RECORD_READ (R77 to R79). -/
def execRecordRead (l : LaneId) (m : MbId) (s : State) : Host.Outcome State Fault Refusal :=
  s.serve l m 0x202 fun x p => x.answer m (x.recordRead p)

/-- RECORD_WRITE (R77, R81, R543). -/
def execRecordWrite (l : LaneId) (m : MbId) (s : State) : Host.Outcome State Fault Refusal :=
  s.serve l m 0x203 fun x p => x.recordWrite m p

/-- COMMIT (R76, R85, R86). -/
def execCommit (l : LaneId) (m : MbId) (s : State) : Host.Outcome State Fault Refusal :=
  s.serve l m 0x204 fun x _ => x.commitStart m

/-- DISCARD (R81). -/
def execDiscard (l : LaneId) (m : MbId) (s : State) : Host.Outcome State Fault Refusal :=
  s.serve l m 0x205 fun x _ => x.discardSet m

/-- SESSION_CLOSE (R81). -/
def execSessionClose (l : LaneId) (m : MbId) (s : State) : Host.Outcome State Fault Refusal :=
  s.serve l m 0x206 fun x _ => x.sessionClose m

/-- CONFIG_SEAL (R82, R83). -/
def execConfigSeal (l : LaneId) (m : MbId) (s : State) : Host.Outcome State Fault Refusal :=
  s.serve l m 0x207 fun x p => x.configSeal m p

/-- PASSWORD_CHANGE (R83). -/
def execPasswordChange (l : LaneId) (m : MbId) (s : State) : Host.Outcome State Fault Refusal :=
  s.serve l m 0x208 fun x p => x.passwordChange m p

/-- WORKSHOP_ENTER (R65, R95). -/
def execWorkshopEnter (l : LaneId) (m : MbId) (s : State) : Host.Outcome State Fault Refusal :=
  s.serve l m 0x209 fun x _ => x.workshopEnter m

/-- WORKSHOP_LEAVE (R95, R527). -/
def execWorkshopLeave (l : LaneId) (m : MbId) (s : State) : Host.Outcome State Fault Refusal :=
  s.serve l m 0x20A fun x _ => x.workshopLeave m

/-- LOG_READ (R89). -/
def execLogRead (l : LaneId) (m : MbId) (s : State) : Host.Outcome State Fault Refusal :=
  s.serve l m 0xA01 fun x p => x.checkChain.answer m (x.logRead p)

/-- LOG_STATUS (R56). -/
def execLogStatus (l : LaneId) (m : MbId) (s : State) : Host.Outcome State Fault Refusal :=
  s.serve l m 0xA02 fun x _ => x.respond m stsOk x.logStatus

/-- LOG_ARCHIVE (R84, R90). -/
def execLogArchive (l : LaneId) (m : MbId) (s : State) : Host.Outcome State Fault Refusal :=
  s.serve l m 0xA03 fun x p => x.logArchive m p

end Sys2Proof.Machine
end

