-- ==== Sys2Proof/Machine/Dispatcher.lean ====
section
/-! DEFINITION. The dispatcher: triggers and runs, the ready queue and the execution units, late runs, halts (R146 to R163),
and the rows TRIGGER_EVENT and NODE_COMPLETE. The dispatch cycle itself stands in Issue.lean. -/

namespace Sys2Proof.Machine

/-! ### Fields of the slot registers (R139, R141) -/

def Slot.priority (s : Slot) : Nat := fieldAt s.hdr 0x10 1
def Slot.lateAction (s : Slot) : Nat := fieldAt s.hdr 0x13 1
def Slot.maxReady (s : Slot) : Nat := fieldAt s.hdr 0x14 2
def Slot.lateLimit (s : Slot) : Nat := fieldAt s.hdr 0x16 2
def Slot.deadlineNs (s : Slot) : Nat := fieldAt s.hdr 0x18 4
def Slot.usesBank (s : Slot) : Bool := imgBankSel s.hdr ≠ 0xFFFF

/-- Trigger entry k matches an event (R141). -/
def Slot.entryMatches (s : Slot) (k : Nat) (e : Event) : Bool :=
  let o := 0x28 + 4 * k
  let mode := fieldAt s.hdr (o + 1) 1
  fieldAt s.hdr o 1 = e.num.toNat && (mode = 1 || (mode = 2 && fieldAt s.hdr (o + 2) 2 = e.ctx.toNat))

/-- An event matches one of the four trigger entries (R148). -/
def Slot.wants (s : Slot) (e : Event) : Bool := (List.range 4).any fun k => s.entryMatches k e

/-- Dependencies, successors and first successor of node j (R141). -/
def Slot.link (s : Slot) (j : Nat) : Nat × Nat × Nat := s.links.getD j (0, 0, 0)

/-- The successor list of node j (R142). -/
def Slot.succOf (s : Slot) (j : Nat) : List Nat :=
  let k := s.link j
  (s.succs.drop k.2.2).take k.2.1

/-- The source nodes (R142). -/
def Slot.sources (s : Slot) : List Nat := (List.range s.nodes.length).filter fun j => (s.link j).1 = 0

/-- GRAPH_STATUS flags (R152). -/
def Slot.flags (s : Slot) : Nat :=
  s.shown.toNat + 8 * b2n s.fOverrun + 16 * b2n s.fLate + 32 * b2n (s.pendTrig.isSome || s.release.isSome)

/-- The OR of the sticky flags of every node (R152, R177). -/
def Slot.nodeFlags (s : Slot) : BitVec 3 :=
  s.nodes.foldl (fun v w => v ||| hdrFlags (s.stateAt (nodeState w))) 0

/-- The slot as the code GRAPH_STATUS reports (R146). -/
def gstateCode : GState → Nat
  | .empty => 0 | .stopped => 1 | .running => 2 | .stopping => 3 | .halted => 4 | .excluded => 5

/-! ### Ready entries -/

/-- A ready entry: priority, slot, node. -/
abbrev Ready := Nat × Fin 64 × Nat

/-- The order of entries that enter in one cycle: slot, then node (R154). -/
def readyLt (a b : Ready) : Bool := a.2.1 < b.2.1 || (a.2.1 = b.2.1 && a.2.2 < b.2.2)

/-- An entry put in its place. -/
def readyInsert (x : Ready) : List Ready → List Ready
  | [] => [x]
  | y :: ys => if readyLt x y then x :: y :: ys else y :: readyInsert x ys

/-- Entries in the order of R154. -/
def readySort (xs : List Ready) : List Ready := xs.foldr readyInsert []

/-- The entry that leaves next: the highest level, then order of entry (R154, R155). -/
def readyBest : List Ready → Option Ready
  | [] => none
  | x :: xs => match readyBest xs with
    | none => some x
    | some y => some (if y.1 < x.1 then y else x)

/-- The first occurrence of an entry removed. -/
def readyDrop (x : Ready) : List Ready → List Ready
  | [] => []
  | y :: ys => if x = y then ys else y :: readyDrop x ys

/-! ### Halting and stopping -/

/-- The answer that a waiting GRAPH_STOP gets when its slot has left STOPPING (R146). -/
def Lane.answerStopper (l : Lane) (k : Fin 64) : Lane :=
  match (l.slot k).stopper with
  | none => l
  | some m => (l.onSlot k fun s => { s with stopper := none }).respond m stsOk []

/-- A RUNNING or STOPPING slot enters HALTED (R146): the rest of its run, its ready entries and its pending trigger are
discarded; nodes in execution complete (R163). -/
def Lane.haltSlot (l : Lane) (k : Fin 64) : Lane :=
  if (l.slot k).st ≠ .running && (l.slot k).st ≠ .stopping then l
  else
  let l := l.onSlot k fun s => { s with st := .halted, run := none, pendTrig := none, pendLate := false, release := none }
  let d := l.dsp
  let l := { l with dsp := { d with
    ready := d.ready.filter fun r => r.2.1 ≠ k,
    entered := d.entered.filter fun r => r.2.1 ≠ k,
    fresh := d.fresh.filter fun r => r.2.1 ≠ k,
    units := d.units.map fun (u : Option UnitJob) => u.map fun (j : UnitJob) => if j.slot = k then { j with orphan := true } else j } }
  l.answerStopper k

/-- An uncorrectable memory error of slot k, met by the nodes that the listed units hold: the slot halts. A node concerned that
has not executed is not executed at all, and one that has made no successor ready makes none; its unit is free (R163). -/
def Lane.memoryError (l : Lane) (k : Fin 64) (units : List UnitId) : Lane :=
  let l := l.haltSlot k
  each units (fun x l => match l.unit x with
    | some j => if j.slot = k then l.setUnit x none else l
    | none => l) l

/-- Fault source 10 for a slot: index slot, axis gate_axis (R367). -/
def Lane.overrunFault (l : Lane) (k : Fin 64) : Lane := l.fault 10 (l.slot k).gateAxis 0 k.val 0

/-- The count of late runs and discarded triggers has grown: late_action where it has reached late_limit (R151). -/
def Lane.lateAct (l : Lane) (k : Fin 64) : Lane :=
  let s := l.slot k
  if s.lateLimit ≠ 0 && s.lateLimit ≤ s.consec && s.lateAction = 1 then (l.haltSlot k).overrunFault k else l

/-- 2^32 - 1 is the end of a counter (R150). -/
def inc32 (v : W32) : W32 := if v = 0xFFFFFFFF then v else v + 1

/-- A trigger is discarded (R149, R151). -/
def Lane.discardTrigger (l : Lane) (k : Fin 64) : Lane :=
  (l.onSlot k fun s => { s with fOverrun := true, lates := inc32 s.lates, consec := s.consec + 1 }).lateAct k

/-! ### Releasing runs -/

/-- The bank sample of a release: bit 0 of the bank-select word (R158). -/
def Slot.bankNow (s : Slot) : Bool := s.usesBank && bit (s.coef.getD (imgBankSel s.hdr) 0) 0

/-- A run of slot k is released by an event: the lane, and the source nodes that enter the ready queue (R148). `missed` says
that its next matching event has come already, which a pending trigger may have seen (R150). -/
def Lane.releaseRun (l : Lane) (k : Fin 64) (e : Event) (missed : Bool) : Lane × List Ready :=
  let s := l.slot k
  let r : Run := { trig := e, deps := s.links.map fun x => x.1, completed := 0, bank := s.bankNow, missed := missed,
                   ckpt := [] }
  (l.onSlot k fun s => { s with run := some r, release := none, pendLate := false },
    s.sources.map fun j => (s.priority, k, j))

/-- A trigger that was pending when the run completed is released (R149). DESIGN CHOICE: the gate of R147 was judged when the trigger
arrived, and is not judged again here (notes/assumptions/81.md). -/
def Lane.releaseDue (l : Lane) (k : Fin 64) : Lane × List Ready :=
  match (l.slot k).release with
  | none => (l, [])
  | some e =>
    if (l.slot k).st = .running then l.releaseRun k e (l.slot k).pendLate
    else (l.onSlot k fun s => { s with release := none, pendLate := false }, [])

/-- The gate of R147 is open: the gate axis is not duplex-standby, and is not in its safe state unless RUN_WHEN_SAFE. -/
def Lane.gateOpen (l : Lane) (k : Fin 64) : Bool :=
  let s := l.slot k
  match l.ownAxis s.gateAxis with
  | none => true
  | some nn => (l.axis nn).role ≠ .duplexStandby && (!(l.axis nn).safe || s.runWhenSafe)

/-- An event arrives at slot k: it releases a run of a RUNNING slot, is missed by a run in flight, or does nothing (R147 to
R150). -/
def Lane.triggerSlot (l : Lane) (k : Fin 64) (e : Event) : Lane × List Ready :=
  let s := l.slot k
  if (s.st ≠ .running && s.st ≠ .stopping) || !s.wants e || !l.gateOpen k then (l, [])
  else
    let (l, rs) := l.releaseDue k
    match (l.slot k).run with
    | none => if s.st = .running then let r := l.releaseRun k e false; (r.1, rs ++ r.2) else (l, rs)
    | some r =>
      let l := l.onSlot k fun s => { s with run := some { r with missed := true } }
      if s.keepOne && (l.slot k).pendTrig.isNone then (l.onSlot k fun s => { s with pendTrig := some e }, rs)
      else ((l.onSlot k fun s => { s with pendLate := s.pendTrig.isSome }).discardTrigger k, rs)

/-- An event arrives at every slot, in ascending order. -/
def Lane.triggerAll (l : Lane) (e : Event) : Lane × List Ready :=
  (idxs 64).foldl (fun acc k => let r := acc.1.triggerSlot k e; (r.1, acc.2 ++ r.2)) (l, [])

/-- Entries of a slot in the ready queue. -/
def readyCount (rs : List Ready) (k : Fin 64) : Nat := (rs.filter fun r => r.2.1 = k).length

/-- A slot whose ready entries would exceed its reservation is halted (R155, R163). -/
def Lane.checkReserve (l : Lane) (k : Fin 64) (entries : List Ready) : Lane :=
  if (l.slot k).run.isSome && (l.slot k).maxReady < readyCount entries k then (l.haltSlot k).overrunFault k else l

/-- The reservations checked for every slot with entries. -/
def Lane.checkReserves (l : Lane) (entries : List Ready) : Lane :=
  each ((entries.map fun r => r.2.1).dedup) (fun k l => l.checkReserve k entries) l

/-- Entries whose slot still has its run. -/
def Lane.liveEntries (l : Lane) (rs : List Ready) : List Ready := rs.filter fun r => (l.slot r.2.1).run.isSome

/-! ### Completion -/

/-- A run of slot k has completed (R148 to R151, R221). DESIGN CHOICE: a pending trigger that the end of a STOPPING slot's run drops is
no discarded trigger of R149 and is not counted (notes/assumptions/81.md). -/
def Lane.runDone (l : Lane) (k : Fin 64) (r : Run) : Lane :=
  let s := l.slot k
  let late := if s.deadlineNs = 0 then r.missed else r.trig.time.toNat + s.deadlineNs < l.tm.loc.toNat
  let stopping := s.st = .stopping
  let l := l.onSlot k fun s => { s with
    run := none, runs := inc32 s.runs, lates := if late then inc32 s.lates else s.lates, fLate := s.fLate || late,
    consec := if late then s.consec + 1 else 0, ckptDue := s.ckptDue ++ r.ckpt, pendTrig := none,
    pendLate := !stopping && s.pendLate, release := if stopping then none else s.pendTrig }
  let l := if late then l.lateAct k else l
  if (l.slot k).st = .stopping then (l.onSlot k fun s => { s with st := .stopped }).answerStopper k else l

/-- Counters after one decrement of each listed node, and the nodes whose counter reached 0 (R154). -/
def decrement : List Nat → List Nat → List Nat × List Nat
  | deps, [] => (deps, [])
  | deps, j :: js =>
    let v := deps.getD j 0 - 1
    let r := decrement (deps.set j v) js
    (r.1, if v = 0 then j :: r.2 else r.2)

/-- The node held by unit x completes (R154). A node whose run was discarded leaves nothing further (R163). -/
def Lane.complete (l : Lane) (x : Fin 4) : Lane :=
  match l.unit x with
  | none => l
  | some j =>
    if !j.executed || !l.engineOk then l
    else
      let l := l.setUnit x none
      let s := l.slot j.slot
      match (if j.orphan then none else s.run) with
      | none => l
      | some r =>
        let d := decrement r.deps (s.succOf j.node)
        let r := { r with deps := d.1, completed := r.completed + 1 }
        let l := l.onSlot j.slot fun s => { s with run := some r }
        let l := { l with dsp := { l.dsp with fresh := l.dsp.fresh ++ d.2.map fun i => (s.priority, j.slot, i) } }
        if r.completed = s.nodes.length then l.runDone j.slot r else l

/-! ### Order of requests (R226) -/

/-- The order in which requests reach a list or unit: completion cycle, then slot, then node. -/
def ReqKey.le (a b : ReqKey) : Bool :=
  a.cycle < b.cycle || (a.cycle = b.cycle && (a.slot < b.slot || (a.slot = b.slot && a.node ≤ b.node)))

/-- A request put in its place among those in flight. -/
def insertReq {α : Type} (x : ReqKey × α) : List (ReqKey × α) → List (ReqKey × α)
  | [] => [x]
  | y :: ys => if y.1.le x.1 then y :: insertReq x ys else x :: y :: ys

/-- The key of a request that the node of a job sends in the present dispatch cycle. -/
def Lane.reqKey (l : Lane) (j : UnitJob) : ReqKey := { cycle := l.dsp.cycle, slot := j.slot.val, node := j.node }

/-- The PWM cycle in which an event was raised has ended, or none passes: the event may reach the dispatcher, behind every event of its
cycle with a lower number (R135). DESIGN CHOICE: the spec says how events cross (R27), not when; those of a running PWM cycle wait
for its end (notes/assumptions/81.md). -/
def Lane.ripe (l : Lane) (e : Event) : Bool := e.time ≠ l.tm.loc || !l.clockOn 3 || l.inSlice 9

/-- The oldest raised event reaches the dispatcher (R27, R148); none while the axis-engine clock stands (R163). The source nodes of a
run that it releases enter the ready queue in the dispatch cycle to which the event belongs, the one that the next
DISPATCH_CYCLE runs (R153, R154). -/
def Lane.triggerNext (l : Lane) : Lane :=
  if !l.engineOk then l
  else match l.dsp.events with
  | [] => l
  | e :: es =>
    if !l.ripe e then l
    else
      let (l, src) := { l with dsp := { l.dsp with events := es } }.triggerAll e
      let l := l.checkReserves (l.dsp.ready ++ l.dsp.entered ++ src)
      { l with dsp := { l.dsp with entered := l.dsp.entered ++ l.liveEntries src } }

/-! ### Starting and stopping slots -/

/-- Ready entries reserved by the RUNNING and STOPPING graphs (R155). -/
def Lane.reserved (l : Lane) : Nat :=
  ((idxs 64).map fun k => let s := l.slot k; if s.st = .running || s.st = .stopping then s.maxReady else 0).sum

/-- The reservation of slot k can be met (R155). -/
def Lane.canReserve (l : Lane) (k : Fin 64) : Bool := l.reserved + (l.slot k).maxReady ≤ 1024

/-- AUTOSTART of one slot at entry to LANE_ACTIVE (R159); none once a report about an earlier slot has led to LANE_SAFE
(R162). -/
def Lane.autostartSlot (l : Lane) (k : Fin 64) : Lane :=
  let s := l.slot k
  if (s.st = .stopped || s.st = .halted) && s.autostart && l.sys.lstate = .active then
    (if l.canReserve k then l.onSlot k fun s => { s with st := .running } else l.overrunFault k)
  else l

/-- AUTOSTART slots enter RUNNING in ascending order (R159). -/
def Lane.autostartAll (l : Lane) : Lane := each (idxs 64) (fun k l => l.autostartSlot k) l

/-- The dispatcher is idle: no run in flight, no execution unit at work (R160). -/
def Lane.dispatchIdle (l : Lane) : Bool :=
  (idxs 64).all (fun k => (l.slot k).run.isNone) && (idxs 4).all fun x => (l.unit x).isNone

/-- GRAPH_START's effect on its slot (R146). -/
def Slot.start (s : Slot) : Slot := { s with st := .running, runs := 0, lates := 0, fLate := false, fOverrun := false }

/-! ### Meanings -/

/-- TRIGGER_EVENT (R147 to R149). -/
def execTriggerEvent (l : LaneId) (s : State) : Host.Outcome State Fault Refusal := .next (s.onLane l Lane.triggerNext)

/-- NODE_COMPLETE (R150, R154). -/
def execNodeComplete (l : LaneId) (x : Fin 4) (s : State) : Host.Outcome State Fault Refusal :=
  .next (s.onLane l fun n => n.complete x)

end Sys2Proof.Machine
end

