-- ==== Sys2Proof/Machine/Sensing.lean ====
section
/-! DEFINITION. Current and voltage sensing (R278 to R293): conversion sets, the queues and background rotations of the ADCs,
calibration, the reference check, the x_VBUS check; the rows ADC_CONVERSION_COMPLETE and BACKGROUND_SLOT_FORCE. -/

namespace Sys2Proof.Machine

/-! ### Conversion sets (R282 to R284) -/

/-- The ADC of an axis channel (R281). -/
def adcOf (nn : AxisId) : Fin 6 := fin (nn.val / 2)

/-- The inputs of a content code in the order of conversion: currents 0 to 2, voltages 3 to 5 (R282, R283). -/
def contentInputs (c : Nat) : List (Fin 6) :=
  match c with
  | 0 => [0, 1, 2]
  | 1 => [3, 4, 5]
  | _ => [0, 1, 2, 3, 4, 5]

/-- The analog-front-end clock runs: crystal and AFE PLL (R26, R293), and the block is not under test
(R391). -/
def Lane.afeOk (l : Lane) : Bool := l.clockOn 4 && !l.inSlice 11

/-- The cycle of the 96 MHz analog-front-end clock in which a local time in ns falls (R24). DESIGN CHOICE: the spec gives the two
clocks no phase; cycle 0 begins at local time 0 (notes/assumptions/81.md). -/
def afeCycle (t : W64) : Nat := t.toNat * 96 / 1000

/-- The order in which a queue serves the conversions of two sets: front-end cycle of the hold, then axis channel, then set (R283). -/
def Conv.before (a b : Conv) : Bool :=
  afeCycle a.heldAt < afeCycle b.heldAt ||
    (afeCycle a.heldAt = afeCycle b.heldAt && (a.nn.val < b.nn.val || (a.nn = b.nn && a.set.val < b.set.val)))

/-- The conversions of a set put in their place in a queue, whose head stays first while it is being converted. -/
def queueConvs (new : List Conv) : List Conv → List Conv
  | [] => new
  | q :: qs => match new with
    | [] => q :: qs
    | c :: _ => if c.before q then new ++ q :: qs else q :: queueConvs new qs

/-- What an ADC converts next: a forced slot that is due, where no set is under way; else its queue; else its rotation (R285). -/
def Lane.adcNext (l : Lane) (a : Fin 6) (midSet : Bool) : Lane :=
  let q := vget l.afe.queues a
  let v : AdcNow :=
    if vget l.afe.forced a && !midSet then .forced else if q.isEmpty then .background else .conv
  { l with afe := { l.afe with
    now := vset l.afe.now a v, forced := if v = .forced then vset l.afe.forced a false else l.afe.forced } }

/-- An ADC that runs its background rotation turns to its queue, by way of a forced slot that is due (R285). -/
def Lane.adcTurn (l : Lane) (a : Fin 6) : Lane :=
  if vget l.afe.now a = .background && !(vget l.afe.queues a).isEmpty then l.adcNext a false else l

/-- A trigger of set k: the set holds its channels and its conversions join the queue of the ADC; refused while the previous
hold waits (R283, R284). -/
def Lane.takeSet (l : Lane) (nn : AxisId) (k : Fin 2) : Lane :=
  if !l.afe.running || (vget (l.axis nn).sense.sets k).waiting then l
  else
    let ins := contentInputs (setContent (l.axisRec nn) k)
    let l := l.onAxis nn fun a => { a with sense := { a.sense with
      sets := vset a.sense.sets k { waiting := true, left := ins.length, content := setContent (l.axisRec nn) k, codes := [] } } }
    let more := ins.map fun i => ({ nn := nn, set := k, input := i, heldAt := l.tm.loc } : Conv)
    { l with afe := { l.afe with queues := vmod l.afe.queues (adcOf nn) (fun q => queueConvs more q) } }.adcTurn (adcOf nn)

/-- The sets of an axis whose trigger has a code are taken, set 0 first (R282, R283). -/
def Lane.takeSets (l : Lane) (nn : AxisId) (trig : Nat) : Lane :=
  each (idxs 2) (fun k l => if setTrigger (l.axisRec nn) k = trig then l.takeSet nn k else l) l

/-- POSITION sets whose PWM cycle after the period start has come (R282). -/
def Lane.takePositions (l : Lane) (nn : AxisId) : Lane :=
  each (idxs 2) (fun k l =>
    let r := l.axisRec nn
    if setTrigger r k = 3 && !(l.axis nn).pwm.firstWait && setPosition r k = (l.axis nn).pwm.since then l.takeSet nn k
    else l) l

/-! ### Calibration (R286) -/

/-- The factory gain trim, held within its bounds (R286). -/
def Lane.gainOf (l : Lane) (nn : AxisId) (i : Fin 6) : Rat :=
  clamp (mkRat (Config.gainTrim l.idx nn i.val) 65536) (19 / 20) (21 / 20)

/-- o_user of an input: the offset of its phase (R286, R291). -/
def userOffset (r : Bytes) (i : Fin 6) : Int := offsetOf r (fin (i.val % 3))

/-- PHASE_C_OFF (R286, R291). -/
def phaseCOff (r : Bytes) : Bool := natBit (senseFlags r) 1

/-- A raw code calibrated, with its overrange mark (R286). -/
def Lane.calibrate (l : Lane) (nn : AxisId) (i : Fin 6) (raw : Int) : Int × Bool :=
  let r := l.axisRec nn
  if i = 2 && phaseCOff r then (0, false)
  else
    let v := roundEven (((raw - vget (l.axis nn).sense.oCal i - userOffset r i : Int) : Rat) * l.gainOf nn i)
    let c := if v < -8192 then -8192 else if 8191 < v then 8191 else v
    (c, raw ≤ -8192 || 8191 ≤ raw || c ≠ v)

/-! ### Conversions (R283, R285, R287) -/

/-- The conversion at the head of a queue ends; after the last of its set the set is published with event 4 nn + 2 (R283). -/
def Lane.convDone (l : Lane) (c : Conv) (raw : Int) : Lane :=
  let code := l.calibrate c.nn c.input raw
  let s := vget (l.axis c.nn).sense.sets c.set
  let codes := s.codes ++ [code]
  if s.left ≤ 1 then
    let l := l.onAxis c.nn fun a => { a with sense := { a.sense with
      sets := vset a.sense.sets c.set ConvSet.cold,
      done := { set := c.set.val, content := s.content, codes := codes } ::
        a.sense.done.filter fun x => x.set ≠ c.set.val } }
    l.event (4 * c.nn.val + 2) c.set.val
  else
    l.onAxis c.nn fun a => { a with sense := { a.sense with
      sets := vset a.sense.sets c.set { s with left := s.left - 1, codes := codes } } }

/-- Slots of an ADC's background rotation (R285). -/
def bgSlots (a : Fin 6) : Nat := if a = 5 then 4 else 3

/-- A reference check (R287): fault source 24 from the third consecutive failure on, HEALTHY once no ADC fails. -/
def Lane.referenceCheck (l : Lane) (a : Fin 6) (raw : Int) : Lane :=
  if raw < 4096 - 41 || 4096 + 41 < raw then
    let n := satInc (vget l.afe.refRun a) 3
    let was := bit l.afe.refFail a.val
    let l := { l with afe := { l.afe with refRun := vset l.afe.refRun a n, refFail := bitPut l.afe.refFail a.val (was || n = 3) } }
    if n = 3 && !was then l.fault 24 0xFF 0 a.val 0 else l
  else
    let l := { l with afe := { l.afe with refRun := vset l.afe.refRun a 0, refFail := bitPut l.afe.refFail a.val false } }
    if l.afe.refFail = 0 then l.healthy 24 else l

/-- A raw code of an auxiliary input (0 to 11) or of x_VBUS (12) calibrated: o_cal and the gain trim, no o_user (R286). -/
def Lane.calibrateAux (l : Lane) (k : Nat) (oCal raw : Int) : Int :=
  let g := clamp (mkRat (Config.auxGainTrim l.idx k) 65536) (19 / 20) (21 / 20)
  max (-8192) (min 8191 (roundEven (((raw - oCal : Int) : Rat) * g)))

/-- One background conversion of an ADC: auxiliary inputs, reference, x_VBUS in rotation (R285). -/
def Lane.background (l : Lane) (a : Fin 6) (raw : Int) : Lane :=
  let slot := vget l.afe.bg a
  let next := (slot + 1) % bgSlots a
  let l := { l with afe := { l.afe with
    bg := vset l.afe.bg a next, rotAt := if next = 0 then vset l.afe.rotAt a l.tm.loc.toNat else l.afe.rotAt } }
  let aux (k : Fin 12) : Lane :=
    { l with afe := { l.afe with auxIn := vset l.afe.auxIn k (l.calibrateAux k.val (vget l.afe.auxCal k) raw) } }
  match slot with
  | 0 => aux (fin (2 * a.val))
  | 1 => aux (fin (2 * a.val + 1))
  | 2 => l.referenceCheck a raw
  | _ => { l with afe := { l.afe with vbus := some (l.calibrateAux 12 l.afe.vbusCal raw) } }

/-- A conversion of ADC a ends with a raw code (R283, R285). -/
def Lane.adcDone (l : Lane) (a : Fin 6) (raw : Int) : Lane :=
  if !l.afe.running || !l.afeOk then l
  else match vget l.afe.now a, vget l.afe.queues a with
    | .conv, c :: cs =>
      let mid := match cs with | d :: _ => d.nn = c.nn && d.set = c.set && d.heldAt = c.heldAt | [] => false
      (({ l with afe := { l.afe with queues := vset l.afe.queues a cs } }).convDone c raw).adcNext a mid
    | _, _ => (l.background a raw).adcNext a false

/-- A whole rotation has not completed within aux_period_us, and no slot has been forced for as long (R285). -/
def Lane.forceDue (l : Lane) (a : Fin 6) : Bool :=
  let now := l.tm.loc.toNat
  let p := 1000 * auxPeriodUs l.laneRec
  l.afe.running && vget l.afe.rotAt a + p ≤ now &&
    match vget l.afe.forceAt a with
    | none => true
    | some t => t + p ≤ now

/-- The next slot of ADC a is forced (R285). -/
def Lane.forceSlot (l : Lane) (a : Fin 6) : Lane :=
  if l.forceDue a then
    { l with afe := { l.afe with forced := vset l.afe.forced a true, forceAt := vset l.afe.forceAt a (some l.tm.loc.toNat) } }
  else l

/-! ### Bus check (R290) -/

/-- The newest x_VBUS conversion reaches bus_min_dv, or no minimum is set (R279, R290). -/
def Lane.busOk (l : Lane) : Bool :=
  let m := busMinDv l.laneRec
  m = 0 || match l.afe.vbus with
    | none => false
    | some c => (8192 * m : Int) ≤ 1600 * c

/-- Every channel of an axis that takes part has its offset within 256 codes (R286). -/
def calibrationOk (r : Bytes) (o : Vector Int 6) : Bool :=
  (idxs 6).all fun i => (i = 2 && phaseCOff r) || (-256 ≤ vget o i && vget o i ≤ 256)

/-! ### Meanings -/

/-- ADC_CONVERSION_COMPLETE (R281 to R287). -/
def execAdcConversionComplete (l : LaneId) (a : Fin 6) (raw : Int) (s : State) : Host.Outcome State Fault Refusal :=
  .next (s.onLane l fun x => x.adcDone a raw)

/-- BACKGROUND_SLOT_FORCE (R285). -/
def execBackgroundSlotForce (l : LaneId) (a : Fin 6) (s : State) : Host.Outcome State Fault Refusal :=
  .next (s.onLane l fun x => x.forceSlot a)

end Sys2Proof.Machine
end

