-- ==== Sys2Proof/Machine/Time.lean ====
section
/-! DEFINITION. Local and global time, the angle accumulators, keys, delay lists and compare units (R111 to R133), with the
rows RESORT_COMPLETE, DL_REQUEST_APPLY, CMP_REQUEST_APPLY, TIME_GET and ANGLE_GET. -/

namespace Sys2Proof.Machine

/-! ### Delay lists (R122 to R128) -/

/-- The earliest-inserted entry with a tag removed, if there is one. -/
def dropTag (tag : W16) : List DlEntry → Option (List DlEntry)
  | [] => none
  | e :: es => if e.tag = tag then some es else (dropTag tag es).map fun r => e :: r

/-- A cancel (R128). -/
def Lane.dlCancel (l : Lane) (d : Fin 16) (tag : W16) (issuer : Option (Nat × Nat)) : Lane :=
  match dropTag tag (l.dl d).entries with
  | none => l.reply issuer false
  | some es => (l.onDl d fun x => { x with entries := es }).reply issuer true

/-- One request applied (R226). -/
def Lane.dlApply (l : Lane) (d : Fin 16) : DlReq → Lane
  | .insertRel off tag issuer => l.dlInsert d (l.dlPresent d + off) tag issuer
  | .insertAbs key tag issuer => l.dlInsert d key tag issuer
  | .cancel tag issuer => l.dlCancel d tag issuer

/-- The oldest request in flight reaches the list: held during a re-sort (R127, R128). -/
def Lane.dlRequest (l : Lane) (d : Fin 16) : Lane :=
  match (l.dl d).inflight with
  | [] => l
  | r :: rs =>
    let l := l.onDl d fun x => { x with inflight := rs }
    if (l.dl d).resort.isSome then l.onDl d fun x => { x with held := x.held ++ [r.2] } else l.dlApply d r.2

/-- An entry lies in the span that the jumps of a running re-sort skipped: it waits for the end of the re-sort (R127). -/
def Lane.dlSkipped (l : Lane) (d : Fin 16) (key : Int) : Bool :=
  match (l.dl d).resort with
  | some (_, b, a) => inSpan (l.dlSrc d) (l.dlRev d) b a key
  | none => false

/-- Entries that have become due are marked, during a re-sort those that ordinary movement made due (R124, R125, R127). -/
def Lane.dlMark (l : Lane) (d : Fin 16) : Lane :=
  l.onDl d fun x => { x with
    entries := x.entries.map fun (e : DlEntry) => { e with due := e.due || (l.dlDue d e.key && !l.dlSkipped d e.key) } }

/-- The due entry that releases first: the earliest key in the list's direction, then order of insertion (R125). -/
def Lane.dlFirst (l : Lane) (d : Fin 16) : List DlEntry → Option DlEntry
  | [] => none
  | e :: es =>
    match l.dlFirst d es with
    | none => if e.due then some e else none
    | some f =>
      let a := ahead (l.dlSrc d) (l.dlRev d) e.key (l.dlPresent d)
      let b := ahead (l.dlSrc d) (l.dlRev d) f.key (l.dlPresent d)
      if e.due && a ≤ b then some e else some f

/-- The first occurrence of an entry removed. -/
def dropEntry (e : DlEntry) : List DlEntry → List DlEntry
  | [] => []
  | x :: xs => if x = e then xs else x :: dropEntry e xs

/-- The due check and one release of list d, at the end of a PWM cycle after the jumps, inserts and cancels of that cycle, with
its present key; a running re-sort counts down and releases nothing (R124 to R128). -/
def Lane.dlCycle (l : Lane) (d : Fin 16) : Lane :=
  let l := if l.sourceValid (l.dlSrc d) (l.dlNn d) then l.dlMark d else l
  match (l.dl d).resort with
  | some (n, b, a) => l.onDl d fun x => { x with resort := some (n - 1, b, a) }
  | none =>
    if !l.sourceValid (l.dlSrc d) (l.dlNn d) then l
    else
      match l.dlFirst d (l.dl d).entries with
      | none => l
      | some e => (l.onDl d fun x => { x with entries := dropEntry e x.entries }).eventL (72 + d.val) e.tag.toNat e.late

/-- A jump of the source of list d from the key before it to the key after it starts its re-sort, or restarts it with the
key before the first jump of the series (R127). -/
def Lane.dlJump (l : Lane) (d : Fin 16) (before after : Int) : Lane :=
  l.onDl d fun x =>
    let b := match x.resort with | some (_, b, _) => b | none => before
    { x with resort := some (x.entries.length + 4, b, after) }

/-- The re-sort of list d completes: entries in the skipped span are due with LATE, then the held requests are applied
(R127). -/
def Lane.dlResorted (l : Lane) (d : Fin 16) : Lane :=
  match (l.dl d).resort with
  | some (0, b, a) =>
    let src := l.dlSrc d
    let rev := l.dlRev d
    let held := (l.dl d).held
    let l := l.onDl d fun x => { x with
      resort := none, held := [],
      entries := x.entries.map fun (e : DlEntry) => if inSpan src rev b a e.key then { e with due := true, late := true } else e }
    each held (fun r l => l.dlApply d r) l
  | _ => l

/-! ### Compare units (R129 to R133) -/

/-- Compare unit u. -/
def Lane.cu (l : Lane) (u : Fin 24) : CompareUnit := vget l.cus u

/-- The lane with compare unit u changed. -/
def Lane.onCu (l : Lane) (u : Fin 24) (f : CompareUnit → CompareUnit) : Lane := { l with cus := vmod l.cus u f }

/-- The axis channel that owns unit u (R129). -/
def cuAxis (u : Fin 24) : AxisId := fin (u.val / 2)

/-- The present key of unit u. -/
def Lane.cuPresent (l : Lane) (u : Fin 24) : Int := l.presentKey (cmpSource (l.cmpRec u)) (cuAxis u)

/-- What a target does when it is written: behind it fires with LATE, or waits under CROSSING_ONLY; equal it fires without
LATE; EITHER only notes the side (R131, R132). -/
def aimUnit (r : Bytes) (present : Int) (c : CompareUnit) : CompareUnit :=
  let src := cmpSource r
  let d := keyDiff src c.target present
  let back := if cmpDirection r = 1 then 0 < d else d < 0
  if d = 0 then { c with fire := some false, waitBehind := false, below := false }
  else if cmpDirection r = 2 then { c with fire := none, waitBehind := false, below := 0 < d }
  else if back then (if natBit (cmpFlags r) 0 then { c with fire := none, waitBehind := true, below := false }
    else { c with fire := some true, waitBehind := false, below := false })
  else { c with fire := none, waitBehind := false, below := false }

/-- A target is written (R131); a key that is none of its source is refused (R225). -/
def Lane.cuArm (l : Lane) (u : Fin 24) (key : Int) (issuer : Option (Nat × Nat)) : Lane :=
  if keyOk (cmpSource (l.cmpRec u)) key then
    (l.onCu u fun c =>
      aimUnit (l.cmpRec u) (l.cuPresent u) { c with armed := true, target := key, hits := 0, fresh := true }).reply issuer true
  else l.reply issuer false

/-- The unit is disarmed. -/
def CompareUnit.off (c : CompareUnit) : CompareUnit :=
  { c with armed := false, fire := none, waitBehind := false, fresh := false }

/-- The oldest request in flight reaches unit u (R226). -/
def Lane.cuRequest (l : Lane) (u : Fin 24) : Lane :=
  match (l.cu u).inflight with
  | [] => l
  | r :: rs =>
    let l := l.onCu u fun c => { c with inflight := rs }
    match r.2 with
    | .disarm => l.onCu u CompareUnit.off
    | .armAbs k issuer => l.cuArm u k issuer
    | .armRel off issuer => l.cuArm u (l.cuPresent u + off) issuer

/-- The unit hits in this cycle, with or without LATE; none where it does not (R131, R132). -/
def Lane.cuHits (l : Lane) (u : Fin 24) : Option Bool :=
  let c := l.cu u
  let r := l.cmpRec u
  if !c.armed || !l.sourceValid (cmpSource r) (cuAxis u) then none
  else match c.fire with
    | some late => some late
    | none =>
      let d := keyDiff (cmpSource r) c.target (l.cuPresent u)
      if c.waitBehind then none
      else if cmpDirection r = 2 then (if (c.below && d ≤ 0) || (!c.below && 0 ≤ d) then some false else none)
      else if (if cmpDirection r = 1 then 0 ≤ d else d ≤ 0) then some false else none

/-- Under CROSSING_ONLY the present key has moved behind the target: the crossing is awaited (R132). -/
def Lane.cuWait (l : Lane) (u : Fin 24) : Lane :=
  let c := l.cu u
  let r := l.cmpRec u
  if c.armed && c.waitBehind && l.sourceValid (cmpSource r) (cuAxis u) then
    let d := keyDiff (cmpSource r) c.target (l.cuPresent u)
    if (if cmpDirection r = 1 then d < 0 else 0 < d) then l.onCu u fun c => { c with waitBehind := false } else l
  else l

/-- What a hit does to the unit: one more hit, then one-shot or re-armed (R131, R132). -/
def Lane.cuHit (l : Lane) (u : Fin 24) : Lane :=
  let r := l.cmpRec u
  let step : Int := if cmpDirection r = 1 then -(cmpPeriod r : Int) else cmpPeriod r
  let present := l.cuPresent u
  l.onCu u fun c =>
    let c := { c with hits := c.hits + 1 }
    if cmpPeriod r = 0 then c.off else aimUnit r present { c with target := c.target + step }

/-- A target that a jump skips in the unit's direction fires with LATE. A target written in the cycle of the jump was written after it,
and is judged against the key that the jump leads to (R133). -/
def Lane.cuJump (l : Lane) (u : Fin 24) (before after : Int) : Lane :=
  let c := l.cu u
  let r := l.cmpRec u
  let src := cmpSource r
  let rev := if cmpDirection r = 2 then !c.below else cmpDirection r = 1
  if c.armed && c.fresh then l.onCu u fun c => aimUnit r after c
  else if c.armed && inSpan src rev before after c.target then
    l.onCu u fun c => { c with fire := some true, waitBehind := false }
  else l

/-! ### Jumps -/

/-- Every list and unit whose source the selection names sees a jump from the keys of `old` to those of the lane (R127,
R133). -/
def Lane.jumped (l old : Lane) (sel : Nat → AxisId → Bool) : Lane :=
  let l := each (idxs 16) (fun d l =>
    if sel (l.dlSrc d) (l.dlNn d) then l.dlJump d (old.dlPresent d) (l.dlPresent d) else l) l
  each (idxs 24) (fun u l =>
    if sel (cmpSource (l.cmpRec u)) (cuAxis u) then l.cuJump u (old.cuPresent u) (l.cuPresent u) else l) l

/-- An angle jump of an axis: its lists and units see it (R116). -/
def Lane.angleJumped (l old : Lane) (nn : AxisId) : Lane := l.jumped old fun src a => srcAngle src && a = nn

/-- Global time steps to a value: event 146, and a forward step is a jump of everything keyed to it (R113). -/
def Lane.stepGlobal (l : Lane) (v : Int) : Lane :=
  let old := l
  let l := { l with tm := { l.tm with glob := BitVec.ofInt 64 v, frac := 0 } }
  let l := if (old.tm.glob.toNat : Int) < l.tm.glob.toNat then l.jumped old fun src _ => src = 0 else l
  l.event 146 0

/-- The sync state changes; SYNCED raises event 145 and starts the watchdogs of the open endpoints that have accepted nothing (R112, R134, R455). -/
def Lane.setSync (l : Lane) (v : SyncState) : Lane :=
  if l.tm.sync = v then l
  else
    let l := { l with tm := { l.tm with sync := v } }
    if v = .synced then
      { l with eps := l.eps.map fun (x : Endpoint) => { x with watch := x.watch || (decide (x.st ≠ EpState.closed) && x.seq.isNone) } }.event 145 0
    else l

/-- The accumulator of an axis set to a position in revolutions; a jump where the source says so or where it was INVALID
(R116, R117). -/
def Lane.setAngle (l : Lane) (nn : AxisId) (pos : Rat) (fix : Int) (speed bound : Rat) (jump : Bool) : Lane :=
  let old := l
  let was := (l.axis nn).acc.valid
  let l := l.onAxis nn fun a => { a with acc := { a.acc with
    pos := pos, elecFix := fix, valid := true, speed := speed, base := pos, bound := bound } }
  if jump || !was then l.angleJumped old nn else l

/-- The accumulator becomes INVALID and holds its value (R117). -/
def Lane.loseAngle (l : Lane) (nn : AxisId) : Lane :=
  l.onAxis nn fun a => { a with acc := { a.acc with valid := false } }

/-! ### Advancing (R111, R112, R116, R313) -/

/-- Time advances by one PWM cycle. -/
def Timebase.tick (t : Timebase) : Timebase :=
  let loc := t.loc + 5
  if t.sync = .none then { t with loc := loc, glob := loc, frac := 0 }
  else
    let adv := t.frac + 5 * (1 + t.rate + t.slew)
    { t with loc := loc, glob := t.glob + BitVec.ofInt 64 adv.floor, frac := adv - adv.floor }

/-- An accumulator advances by one PWM cycle of its speed, short of one count beyond its last position (R116, R313). -/
def Acc.tick (a : Acc) : Acc :=
  if !a.valid then a
  else
    let p := a.pos + a.speed * (1 / 200000000)
    if a.bound = 0 then { a with pos := p }
    else
      let lim := a.bound - 1 / 4294967296
      { a with pos := clamp p (a.base - lim) (a.base + lim) }

/-! ### Reports -/

/-- TIME_GET (R112). -/
def Lane.timeGet (l : Lane) : Bytes := leBytes 8 l.tm.glob.toNat ++ leBytes 8 l.tm.loc.toNat ++ leBytes 1 (syncCode l.tm.sync)

/-- ANGLE_GET (R114). -/
def Lane.angleGet (l : Lane) (p : Bytes) : Nat × Bytes :=
  match l.reqAxis p with
  | none => (stsRange, [])
  | some nn =>
    let n := (l.axis nn).acc.mech
    (stsOk, leBytes 4 n ++ leBytes 4 (n / 2 ^ 32))

/-! ### Meanings -/

/-- RESORT_COMPLETE (R127). -/
def execResortComplete (l : LaneId) (d : Fin 16) (s : State) : Host.Outcome State Fault Refusal :=
  .next (s.onLane l fun x => x.dlResorted d)

/-- DL_REQUEST_APPLY (R128, R226). -/
def execDlRequestApply (l : LaneId) (d : Fin 16) (s : State) : Host.Outcome State Fault Refusal :=
  .next (s.onLane l fun x => x.dlRequest d)

/-- CMP_REQUEST_APPLY (R131, R226). -/
def execCmpRequestApply (l : LaneId) (u : Fin 24) (s : State) : Host.Outcome State Fault Refusal :=
  .next (s.onLane l fun x => x.cuRequest u)

/-- TIME_GET (R112). -/
def execTimeGet (l : LaneId) (m : MbId) (s : State) : Host.Outcome State Fault Refusal :=
  s.serve l m 0x901 fun x _ => x.respond m stsOk x.timeGet

/-- ANGLE_GET (R114). -/
def execAngleGet (l : LaneId) (m : MbId) (s : State) : Host.Outcome State Fault Refusal :=
  s.serve l m 0x902 fun x p => x.answer m (x.angleGet p)

end Sys2Proof.Machine
end

