-- ==== Sys2Proof/Machine/Sensorless.lean ====
section
/-! DEFINITION. The sensorless supervisor (R325 to R339) and WR_ANGLE's effect on the accumulators (R218, R327), with the rows
LOCK_WRITE_TIMEOUT, HFI_ACQ_TIMEOUT, POLARITY_END, CATCH_WINDOW_END, COAST_END, CATCH_COUNT_CLEAR and ANNOUNCE_REPEAT. -/

namespace Sys2Proof.Machine

/-! ### WR_ANGLE on the accumulators (R218) -/

/-- A written electrical angle (turns) and speed (electrical rev/s) applied: the mechanical accumulator moves by the shortest
way, the electrical one holds the written angle; a jump after INVALID (R116, R117, R218). -/
def Lane.applyAngle (l : Lane) (nn : AxisId) (th om : Rat) : Lane :=
  let r := l.axisRec nn
  let a := l.axis nn
  let p : Rat := polePairs r
  let old := a.elec r
  let d := wrapTurn (th - turnsOf old)
  let pos := a.acc.pos + d / p
  let base : Int := ({ a.acc with pos := pos }.mech : Int) * polePairs r + elecOffset r
  let target : Int := old + roundEven (d * 4294967296)
  l.setAngle nn pos (target - base) (om / p) 0 false

/-! ### The judge (R326) -/

/-- The residual of a write against a reference, in 2^-16 electrical turn (R326). -/
def residual (th : Rat) (now : Nat) (ref : Rat × Rat × Nat) : Int :=
  roundEven (wrapTurn (th - (ref.1 + ref.2.1 * (((now : Int) - ref.2.2 : Int) : Rat) / 1000000000)) * 65536)

/-- What a write is judged: the first after a restart, good, or bad. -/
inductive Verdict where
  | first | good | bad
  deriving DecidableEq, Repr

/-- The verdict on a write: against the last good write while locked, else against the previous one (R326). -/
def Supervisor.verdict (s : Supervisor) (r : Bytes) (th : Rat) (now : Nat) : Verdict :=
  match (if s.locked then s.ref else s.last) with
  | none => .first
  | some ref => if (residual th now ref).natAbs ≤ lockTol r then .good else .bad

/-- The judge after a write: counts, reference, lock (R326). The flag says that it has lost lock. -/
def Supervisor.judge (s : Supervisor) (r : Bytes) (th om : Rat) (now : Nat) : Supervisor × Bool :=
  let w := some (th, om, now)
  match s.verdict r th now with
  | .first => ({ s with last := w, good := 0, bad := 0 }, false)
  | .good => ({ s with last := w, ref := w, good := s.good + 1, bad := 0, locked := s.locked || lockCount r ≤ s.good + 1 }, false)
  | .bad => ({ s with last := w, good := 0, bad := s.bad + 1 }, s.locked && lossCount r ≤ s.bad + 1)

/-- The judge restarted unlocked (R326). -/
def Supervisor.restart (s : Supervisor) : Supervisor :=
  { s with locked := false, lost := false, good := 0, bad := 0, ref := none, last := none }

/-- The magnitude of the speed that a transition compares, in 0.1 Hz (R322, R326). -/
def Supervisor.speed (s : Supervisor) : Rat :=
  match (if s.locked then s.ref else s.last) with
  | some w => 10 * rabs w.2.1
  | none => 0

/-! ### Transitions (R327 to R329, R332) -/

/-- The supervisor of an axis passes to a drive state. A transition that locking causes keeps the judge
locked, every other restarts it (R326); an unlocked judge, POLARITY, CATCH and FAILED leave the accumulator INVALID, COAST
leaves it valid (R327); CATCH loads mask_init and holds the switches off (R329). -/
def Lane.toDrive (l : Lane) (nn : AxisId) (d : Drive) (keep : Bool) : Lane :=
  let r := l.axisRec nn
  l.onAxis nn fun a =>
    let s := if keep then a.sup else a.sup.restart
    { a with sup := { s with drive := d, off := s.off || d = .catching, due := false, lost := false, movedAt := some l.tm.loc,
                             start := false, fall := none, say := true },
             acc := { a.acc with valid := a.acc.valid && (d = .coast || (keep && d ≠ .polarity)) },
             pwm := if d = .catching then { a.pwm with mask := BitVec.ofNat 6 (maskInit r) } else a.pwm }

/-- The transition of the PWM cycle that ends is announced (R333). -/
def Lane.supSay (l : Lane) (nn : AxisId) : Lane :=
  let s := (l.axis nn).sup
  let l := l.onAxis nn fun a => { a with sup := { a.sup with shown := a.sup.drive, say := false } }
  if s.say then l.announce nn s.drive else l

/-- Where a judge that has just locked, or is locked, leads from CATCH, by the speed (R328). -/
def Supervisor.caught (s : Supervisor) (r : Bytes) : Drive :=
  if hfiExitDhz r ≤ s.speed then .observer
  else if catchMinDhz r ≤ s.speed then .hfi
  else if startMode r = 2 then .polarity else .hfi

/-- The first row of R328, from the top, whose cause holds, among those that a lock, a lost lock, a speed or a time limit
causes: the new state, and whether the judge stays locked; none where no cause holds. A catch window that ends unlocked
answers CATCHING (`Lane.catchEnd` counts it). -/
def Supervisor.next (s : Supervisor) (r : Bytes) : Option (Drive × Bool) :=
  let locked := s.locked && !s.lost
  match s.drive with
  | .polarity => if s.due then some (.hfi, false) else none
  | .hfi =>
    if locked && hfiExitDhz r ≤ s.speed then some (.observer, true)
    else if s.lost || (s.due && !s.locked) then some (.catching, false) else none
  | .observer =>
    if s.speed < hfiEnterDhz r then some (.hfi, false)
    else if !s.lost then none
    else if coastMinDhz r ≤ s.speed then some (.coast, false) else some (.catching, false)
  | .coast => if locked then some (.observer, true) else if s.due then some (.catching, false) else none
  | .catching => if locked then some (s.caught r, true) else if s.due then some (.catching, false) else none
  | _ => none

/-- A catch window ends unlocked: the count rises, a new window starts, or the third failure leads to FAILED and, by its report of
source 121, to the safe state (R329, R331). -/
def Lane.catchEnd (l : Lane) (nn : AxisId) : Lane :=
  let l := l.onAxis nn fun a => { a with sup := { a.sup with fails := a.sup.fails + 1 } }
  if (l.axis nn).sup.fails < 3 then l.toDrive nn .catching false
  else (((l.toDrive nn .failed false).fault 121 (l.dev nn) 0 0 0)).enterSafe nn

/-- Where the supervisor of an axis that is enabled starts, by start_mode (R328). -/
def startDrive (r : Bytes) : Drive :=
  match startMode r with
  | 1 => .hfi
  | 2 => .polarity
  | _ => .catching

/-- The transition that a cause outside the judge leads to, by the first row of R328 that holds: from IDLE or FAILED the enable, from
IDLE the switch of FALLBACK. -/
def Supervisor.entered (s : Supervisor) (r : Bytes) : Option Drive :=
  if s.start && (s.drive = .idle || s.drive = .failed) then some (startDrive r)
  else if s.drive = .idle then s.fall
  else none

/-- The supervisor makes the transition that is due, at most one in a PWM cycle: the causes left are judged again in the next cycle
against the new state (R332). -/
def Lane.supEval (l : Lane) (nn : AxisId) : Lane :=
  let s := (l.axis nn).sup
  if s.movedAt = some l.tm.loc then l
  else match s.entered (l.axisRec nn) with
    | some d => l.toDrive nn d false
    | none =>
      let l := l.onAxis nn fun a => { a with sup := { a.sup with start := false, fall := none } }
      match s.next (l.axisRec nn) with
      | none => l
      | some (d, keep) =>
        if s.drive = .catching && d = .catching then l.catchEnd nn else l.toDrive nn d keep

/-- The drive states in which writes are judged (R326). -/
def Drive.judged : Drive → Bool
  | .hfi | .catching | .observer | .coast => true
  | _ => false

/-- A WR_ANGLE write under the supervisor (R326 to R328): judged, then at most one transition, then applied where it is good
and the judge is locked in HFI or OBSERVER. -/
def Lane.supWrite (l : Lane) (nn : AxisId) (th om : Rat) : Lane :=
  let r := l.axisRec nn
  let now := l.tm.loc.toNat
  let s := (l.axis nn).sup
  if !s.drive.judged then l
  else
    let v := s.verdict r th now
    let j := s.judge r th om now
    let l := (l.onAxis nn fun a => { a with sup := { j.1 with lost := j.1.lost || j.2 } }).supEval nn
    let n := (l.axis nn).sup
    if v = .good && n.locked && !n.lost && (n.drive = .hfi || n.drive = .observer) then l.applyAngle nn th om else l

/-- The judge of an axis has seen no write for write_timeout_us: a locked judge loses lock (R326, R339). -/
def Lane.writeTimeout (l : Lane) (nn : AxisId) : Lane :=
  l.onAxis nn fun a => { a with sup := { a.sup with lost := a.sup.lost || (a.sup.drive.judged && a.sup.locked) } }

/-- The time limit of a drive state runs out; what follows is judged at the end of the PWM cycle, so that a lock in the same
cycle goes first (R328, R332). -/
def Lane.timeUp (l : Lane) (nn : AxisId) (d : Drive) : Lane :=
  l.onAxis nn fun a => { a with sup := { a.sup with due := a.sup.due || decide (a.sup.drive = d) } }

/-- WR_ANGLE for an axis channel: the observer's angle where OBSERVER is the source in effect; otherwise the values move no
accumulator (R218, R314). -/
def Lane.writeAngle (l : Lane) (nn : AxisId) (th om : Rat) : Lane :=
  let l := l.onAxis nn fun a => { a with acc := { a.acc with written := some (th, om) } }
  if l.angleSrc nn ≠ 2 then l
  else if l.supRuns nn then l.supWrite nn th om
  else l.applyAngle nn th om

/-! ### Starting (R328, R331, R338) -/

/-- The supervisor of an axis that is enabled starts from IDLE or FAILED as start_mode says, where it runs at all, in the next PWM cycle
where this one has had its transition; the failed-catch count returns to 0 (R328, R331, R332, R338). -/
def Lane.supStart (l : Lane) (nn : AxisId) : Lane :=
  let l := l.onAxis nn fun a => { a with sup := { a.sup with fails := 0 } }
  let s := (l.axis nn).sup
  if !l.supRuns nn || (s.drive ≠ .idle && s.drive ≠ .failed) then l
  else if s.movedAt = some l.tm.loc then l.onAxis nn fun a => { a with sup := { a.sup with start := true } }
  else l.toDrive nn (startDrive (l.axisRec nn)) false

/-- FALLBACK has switched to OBSERVER: CATCH or HFI by the speed v in mechanical rev/s that the feedback channel reported last (R311,
R328), in the next PWM cycle where this one has had its transition (R332). -/
def Lane.supFallback (l : Lane) (nn : AxisId) (v : Rat) : Lane :=
  let r := l.axisRec nn
  let s := (l.axis nn).sup
  let d : Drive := if (hfiExitDhz r : Rat) ≤ 10 * rabs (v * polePairs r) then .catching else .hfi
  if startMode r = 0 || s.drive ≠ .idle || (l.axis nn).safe then l
  else if s.movedAt = some l.tm.loc then l.onAxis nn fun a => { a with sup := { a.sup with fall := some d } }
  else l.toDrive nn d false

/-! ### Meanings -/

/-- LOCK_WRITE_TIMEOUT (R326, R339). -/
def execLockWriteTimeout (l : LaneId) (nn : AxisId) (s : State) : Host.Outcome State Fault Refusal :=
  .next (s.onLane l fun x => x.writeTimeout nn)

/-- HFI_ACQ_TIMEOUT (R326, R328). -/
def execHfiAcqTimeout (l : LaneId) (nn : AxisId) (s : State) : Host.Outcome State Fault Refusal :=
  .next (s.onLane l fun x => x.timeUp nn .hfi)

/-- POLARITY_END (R328). -/
def execPolarityEnd (l : LaneId) (nn : AxisId) (s : State) : Host.Outcome State Fault Refusal :=
  .next (s.onLane l fun x => x.timeUp nn .polarity)

/-- CATCH_WINDOW_END (R329, R331, R332). -/
def execCatchWindowEnd (l : LaneId) (nn : AxisId) (s : State) : Host.Outcome State Fault Refusal :=
  .next (s.onLane l fun x => x.timeUp nn .catching)

/-- COAST_END (R330, R332). -/
def execCoastEnd (l : LaneId) (nn : AxisId) (s : State) : Host.Outcome State Fault Refusal :=
  .next (s.onLane l fun x => x.timeUp nn .coast)

/-- CATCH_COUNT_CLEAR (R331). -/
def execCatchCountClear (l : LaneId) (nn : AxisId) (s : State) : Host.Outcome State Fault Refusal :=
  .next (s.onLane l fun x =>
    if (x.axis nn).sup.locked then x.onAxis nn fun a => { a with sup := { a.sup with fails := 0 } } else x)

/-- ANNOUNCE_REPEAT (R333). -/
def execAnnounceRepeat (l : LaneId) (nn : AxisId) (s : State) : Host.Outcome State Fault Refusal :=
  .next (s.onLane l fun x =>
    if x.supRuns nn && announceUs (x.axisRec nn) ≠ 0 then x.announce nn (x.axis nn).sup.drive else x)

end Sys2Proof.Machine
end

