-- ==== Sys2Proof/Machine/Groups.lean ====
section
/-! DEFINITION. What every axis-group row shares: frames handed to a lane link (R17 to R19), Granary slots (R347 to R350), the
health word (R359), the drop to standby (R354, R357), network-loss profiles of an axis (R104, R105). -/

namespace Sys2Proof.Machine

/-! ### Feedback channels (R303, R321) -/

/-- The PWM clock runs: crystal and PWM PLL (R26, R321), and the block is not under test (R391). -/
def Lane.fbClock (l : Lane) : Bool := l.clockOn 3 && !l.inSlice 10

/-- The channel decodes under a protocol. -/
def Lane.decodes (l : Lane) (nn : AxisId) (p : Nat) : Bool :=
  (l.axis nn).fb.running && l.fbClock && protocol (l.axisRec nn) = p

/-- The lane with the feedback channel of an axis changed. -/
def Lane.onFb (l : Lane) (nn : AxisId) (f : Feedback → Feedback) : Lane := l.onAxis nn fun a => { a with fb := f a.fb }

/-- An SSI channel can start a clock burst: neither a burst nor its recovery time runs (R303). -/
def Lane.ssiReady (l : Lane) (nn : AxisId) : Bool :=
  l.decodes nn 3 && !(l.axis nn).fb.burst && (l.axis nn).fb.readyAt ≤ l.tm.loc.toNat

/-- An event that ssi_trigger may name: 0 PERIOD_START, 1 PERIOD_MID. A trigger during a burst or its recovery time is dropped
(R303). -/
def Lane.ssiEvent (l : Lane) (nn : AxisId) (k : Nat) : Lane :=
  if l.ssiReady nn && ssiTrigger (l.axisRec nn) = k then l.onFb nn fun f => { f with ssiDue := true } else l

/-! ### Lane links -/

/-- The lane of a device axis (R4). -/
def axisLane (a : Nat) : LaneId := fin (a / 12)

/-- A payload handed to the link towards lane k; a link that is down discards and counts it (R221). -/
def Lane.sendLink (l : Lane) (k : LaneId) (cls : Fin 4) (b : LinkPayload) : Lane :=
  if (vget l.links k).up then l.onLink k fun x => { x with txq := vmod x.txq cls fun q => q ++ [b] }
  else l.onLink k fun x => { x with lostTx := x.lostTx + 1 }

/-- The record makes the axis a member of an axis group (R341). -/
def isMember (r : Bytes) : Bool := 2 ≤ cfgRole r && cfgRole r ≤ 4

/-- The partner members a record names (R340). -/
def peersOf (r : Bytes) : List Nat := [peer0 r, peer1 r].filter fun a => a < 36

/-- A payload handed to the link of every partner member's lane. -/
def Lane.sendPeers (l : Lane) (r : Bytes) (cls : Fin 4) (b : LinkPayload) : Lane :=
  each (peersOf r) (fun a l => l.sendLink (axisLane a) cls b) l

/-! ### The Granary (R347 to R350) -/

/-- Offset of slot s of channel nn (R349). -/
def granaryAt (nn : AxisId) (s : Nat) : Nat := 0x180 * nn.val + 0xC0 * s

/-- The 192 bytes of a slot. -/
def Lane.granarySlot (l : Lane) (nn : AxisId) (s : Nat) : Bytes := memReadN l.mem.granary (granaryAt nn s) 192

def ckptN (b : Bytes) : Nat := fieldAt b 1 1
def ckptDigestLen (b : Bytes) : Nat := fieldAt b 2 1
def ckptFinal (b : Bytes) : Bool := natBit (fieldAt b 3 1) 0
def ckptSeqOf (b : Bytes) : Nat := fieldAt b 4 4
def ckptTime (b : Bytes) : Nat := fieldAt b 8 8

/-- A slot's contents are valid for a group whose active member is the axis named (R349). -/
def ckptValid (active : Nat) (b : Bytes) : Bool :=
  fieldAt b 0xBC 4 = crc32c (b.take 0xBC) && fieldAt b 0xB8 4 = ckptSeqOf b && fieldAt b 0 1 = active && 1 ≤ ckptN b &&
    ckptN b ≤ 32 && 1 ≤ ckptDigestLen b && ckptDigestLen b ≤ 8 && fieldAt b 3 1 / 2 = 0 && fieldAt b 0xB0 8 = 0

/-- Sequence a is newer than b (R348). -/
def seqNewer (a b : Nat) : Bool :=
  let d := (a + 2 ^ 32 - b) % 2 ^ 32
  1 ≤ d && d ≤ 2 ^ 31 - 1

/-- The slot and the contents of the newest valid record of a member (R350). -/
def Lane.newestRecord (l : Lane) (nn : AxisId) : Option (Nat × Bytes) :=
  let act := peer0 (l.axisRec nn)
  let a := l.granarySlot nn 0
  let b := l.granarySlot nn 1
  if ckptValid act a then
    if ckptValid act b && seqNewer (ckptSeqOf b) (ckptSeqOf a) then some (1, b) else some (0, a)
  else if ckptValid act b then some (1, b) else none

/-- The age of a record in ns (R353). -/
def Lane.ckptAge (l : Lane) (b : Bytes) : Int := (l.tm.glob.toNat : Int) - ckptTime b

/-- The newest valid record is older than ckpt_age_us, or there is none (R359). -/
def Lane.ckptStale (l : Lane) (nn : AxisId) : Bool :=
  match l.newestRecord nn with
  | none => true
  | some x => 1000 * (ckptAgeUs (l.axisRec nn) : Int) < l.ckptAge x.2

/-! ### Enabling (R267, R286, R290) -/

/-- What AXIS_ENABLE, a takeover and a rejoin require of an axis; a lost heartbeat holds the safe states until lane reset (R21,
R277). -/
def Lane.canEnable (l : Lane) (nn : AxisId) : Bool :=
  l.gateReady nn && !(l.axis nn).sense.calFail && l.busOk && !l.gd.hbLost

/-- The axis's outputs are enabled: they begin at a period start; index 0, mask_init, no carry; the safe state ends (R240,
R244). -/
def Lane.enableOutputs (l : Lane) (nn : AxisId) : Lane :=
  let r := l.axisRec nn
  let l := l.onAxis nn fun a => { a with
    enabled := true, driving := false,
    pwm := { a.pwm with mask := BitVec.ofNat 6 (maskInit r), idx := 0, carry := Vector.replicate 3 0, held := 0,
                        pulseCut := false } }
  l.leaveSafe nn

/-! ### Health words (R359) -/

/-- SENSOR: a member of a duplex group with a monitor whose accumulator is INVALID, or that stands by without global time
(R351, R359, R399). -/
def Lane.sensorBit (l : Lane) (nn : AxisId) : Bool :=
  let r := l.axisRec nn
  let a := l.axis nn
  (cfgRole r = 3 || cfgRole r = 4) && monMode r ≠ 0 && (!a.acc.valid || (a.role = .duplexStandby && l.tm.sync = .none))

/-- The health word of a member without READY. -/
def Lane.healthBits (l : Lane) (nn : AxisId) : Nat :=
  let r := l.axisRec nn
  let a := l.axis nn
  let d := a.red
  d.rotation.toNat * 2 ^ 24 + min d.mismatch 255 * 2 ^ 16 + roleCode a.role * 2 ^ 13 + b2n d.disagree * 2 ^ 12 +
    b2n d.observing.isSome * 2 ^ 11 + b2n d.excluded * 2 ^ 10 + b2n d.incons * 2 ^ 9 +
    b2n ((peersOf r).any fun p => !(vget l.links (axisLane p)).up) * 2 ^ 8 + b2n d.cmpFail * 2 ^ 7 +
    b2n (bit l.afe.refFail (adcOf nn).val) * 2 ^ 6 + b2n (d.gateFail || l.bridgeFault nn) * 2 ^ 5 +
    b2n (l.sensorBit nn) * 2 ^ 4 + b2n (d.mismatch ≠ 0) * 2 ^ 3 + b2n d.torn * 2 ^ 2 +
    b2n (l.ckptStale nn) * 2

/-- The health word (R359): READY for a standby whose bits 1 and 4 to 9 are clear, not in SAFE, ready for R267. -/
def Lane.healthWord (l : Lane) (nn : AxisId) : Nat :=
  let w := l.healthBits nn
  w + b2n ((l.axis nn).role = .duplexStandby && natBits w 1 1 = 0 && natBits w 4 6 = 0 && !(l.axis nn).safe && l.gateReady nn)

/-- A member publishes its health word (R359). -/
def Lane.publishHealth (l : Lane) (nn : AxisId) : Lane :=
  let w := BitVec.ofNat 32 (l.healthWord nn)
  let l := l.onAxis nn fun a => { a with red := { a.red with health := w } }
  let l := { l with mem := { l.mem with health := l.mem.health.set! (l.dev nn) w } }
  (l.event 211 (l.dev nn)).sendPeers (l.axisRec nn) 2 (.health (l.dev nn) w)

/-! ### Dropping to standby (R354, R357) -/

/-- A member drops to standby without entering SAFE: its switches turn off, its role becomes DUPLEX_STANDBY, its supervisor
returns to IDLE (R354). -/
def Lane.dropMember (l : Lane) (nn : AxisId) : Lane :=
  let l := (l.pwmOff nn).supIdle nn
  let l := l.onAxis nn fun a => { a with
    role := .duplexStandby, enabled := false, gate := { a.gate with cmd := 0 },
    pattern := .opened, red := { a.red with takeover := none, planned := .none, mismatch := 0 } }
  l.driveGates nn

/-- A period start of an active member that has posted FINAL: at the second one it drops (R354). -/
def Lane.plannedPeriod (l : Lane) (nn : AxisId) : Lane :=
  match (l.axis nn).red.planned with
  | .posted n =>
    if n = 0 then l.onAxis nn fun a => { a with red := { a.red with planned := .posted 1 } }
    else (l.dropMember nn).onAxis nn fun a => { a with red := { a.red with planned := .dropped } }
  | _ => l

/-! ### Network-loss profiles (R104, R105) -/

/-- A consumer endpoint delivers its payload as valid (R104, R213, R457, R459). -/
def Endpoint.delivers (e : Endpoint) : Bool := e.payload.isSome && (e.st = .running || e.st = .held)

/-- The last valid payloads of the consumers that deliver, or delivered when the hold ended. -/
def Lane.keptPayloads (l : Lane) : List (Nat × Bytes) :=
  (idxs 512).filterMap fun k =>
    let e := vget l.eps k
    if e.kept || e.delivers then e.payload.map fun p => (k.val, p) else none

/-- The profile of an axis starts (R105): SAFE is the safe state, the others change what its graphs read. A RAMP_ZERO that has
started goes on (R106). -/
def Lane.startProfile (l : Lane) (nn : AxisId) : Lane :=
  let p := lossProfile l.laneRec nn
  if p = 0 then l.enterSafe nn
  else if (l.axis nn).profile = 2 then l
  else l.onAxis nn fun a => { a with
    profile := p, rampDone := false, profileAt := l.tm.loc.toNat, atHold := if p = 2 then l.keptPayloads else [] }

/-- Step 6 of a takeover at a period start: event 199 and the notice; with both Greens lost and the hold over, the profile
starts, and SAFE ends the takeover in the safe state (R60, R104, R353). -/
def Lane.takeoverDone (l : Lane) (nn : AxisId) : Lane :=
  let late := l.bothLost && l.net.hold = .ended
  if late && lossProfile l.laneRec nn = 0 then l.enterSafe nn
  else
    let l := l.onAxis nn fun a => { a with red := { a.red with takeover := none, mismatch := 0 } }
    let l := if late then l.startProfile nn else l
    (l.event 199 (l.dev nn)).notify (.takeover (l.dev nn))

end Sys2Proof.Machine
end

