-- ==== Sys2Proof/Machine/Feedback.lean ====
section
/-! DEFINITION. Position feedback (R294 to R314, R319 to R321) and encoder emulation (R315 to R317), with the rows from
ENCODER_TRANSITION to EMULATION_STEP. -/

namespace Sys2Proof.Machine

/-! ### Fields (R297, R315) -/

def supplyEn (r : Bytes) : Bool := natBit (fbFlags r) 0
def fbInvert (r : Bytes) : Bool := natBit (fbFlags r) 1
def ssiGray (r : Bytes) : Bool := natBit (fbFlags r) 2
def emulEnabled (r : Bytes) : Bool := natBit (emulFlags r) 0
def emulInvert (r : Bytes) : Bool := natBit (emulFlags r) 1
def emulZ (r : Bytes) : Bool := natBit (emulFlags r) 2

/-- Counts of one revolution under ABZ and Hall (R297, R302). -/
def fbCpr (r : Bytes) : Nat := if protocol r = 2 then 6 * polePairs r else cpr r

/-- One count in revolutions (R310). -/
def countUnit (r : Bytes) : Rat :=
  match protocol r with
  | 1 => mkRat 1 (fbCpr r)
  | 2 => mkRat 1 (fbCpr r)
  | _ => mkRat 1 (2 ^ stBits r)

/-! ### Speed (R310 to R312) -/

/-- The window's changes back to the first one at or before a time. -/
def trimWindow (old : Int) : List (Nat × Int) → List (Nat × Int)
  | [] => []
  | x :: xs => if (x.1 : Int) ≤ old then [x] else x :: trimWindow old xs

/-- n counts in dt ns as revolutions per second; no time gives the estimate kept. -/
def countRate (r : Bytes) (keep : Rat) (n : Int) (dt : Nat) : Rat :=
  if dt = 0 then keep else (n : Rat) * countUnit r * 1000000000 / dt

/-- The estimate over a window, newest change first. -/
def windowRate (r : Bytes) (keep : Rat) : List (Nat × Int) → Rat
  | [] => keep
  | x :: xs => match xs.getLast? with
    | none => keep
    | some y => countRate r keep (x.2 - y.2) (x.1 - y.1)

/-- A change of d counts at a local time (R310, R312). One that carries an angle jump is alone in the window and yields no
estimate; a reversal is one count since the previous change. -/
def Feedback.change (f : Feedback) (r : Bytes) (now : Nat) (d : Int) (jump : Bool) : Feedback :=
  let total := f.total + d
  let dir := if d = 0 then f.dir else d.sign
  let back := f.dir ≠ 0 && dir = -f.dir
  let g := { f with total := total, dir := dir, rev := if back then 2 else f.rev - 1, lastAt := now, stopped := false }
  if jump then { g with window := [(now, total)] }
  else if back then { g with window := [(now, total)], est := countRate r f.est dir (now - f.lastAt) }
  else
    let w := (now, total) :: trimWindow ((now : Int) - 1000 * speedWindowUs r) f.window
    { g with window := w, est := windowRate r f.est w }

/-- The reported speed at a local time, in mechanical rev/s (R311). -/
def Feedback.speedAt (f : Feedback) (r : Bytes) (now : Nat) : Rat :=
  let dt := now - f.lastAt
  if f.stopped || 1000000 * stopMs r ≤ dt then 0
  else if dt = 0 then f.est
  else
    let b := countUnit r * 1000000000 / dt
    if rabs f.est ≤ b then f.est else if f.est < 0 then -b else b

/-! ### Validity and errors (R296, R300, R307 to R309, R314) -/

/-- The channel delivers valid positions (R300, R302, R309). -/
def Feedback.valid (f : Feedback) (r : Bytes) : Bool :=
  f.running && !f.invalid && f.supply ≠ .tripped && f.first && (protocol r ≠ 1 || indexMode r = 0 || f.indexSeen)

/-- The channel becomes INVALID through itself: armed again, no index, word or sector seen; the accumulator it feeds becomes
INVALID, FALLBACK switches to OBSERVER, fault source 80 + nn reads FAULT (R300, R309, R314). -/
def Lane.fbInvalid (l : Lane) (nn : AxisId) (cause : Nat) : Lane :=
  let r := l.axisRec nn
  let f := (l.axis nn).fb
  if f.invalid then l
  else
    let src := l.angleSrc nn
    let l := l.onFb nn fun f => { f with
      invalid := true, armed := true, indexSeen := false, okRun := 0, first := f.first && protocol r = 1, sector := none,
      apply := none }
    let l := if src = 1 then l.loseAngle nn else l
    let l := if angleSource r = 3 && !f.observer then
        (l.onFb nn fun f => { f with observer := true }).supFallback nn (f.speedAt r l.tm.loc.toNat) else l
    l.fault (80 + nn.val) (l.dev nn) cause 0 0

/-- Errors of a cause are ignored: other causes than SUPPLY while the supply is switched off or has just come on (R296, R309). -/
def Feedback.deaf (f : Feedback) (cause : Nat) : Bool := cause ≠ 7 && (f.supply = .tripped || f.settling)

/-- An error of a channel (R296, R308, R309): TIMEOUT and SUPPLY, and the err_limit-th in a row, make the channel INVALID. -/
def Lane.fbError (l : Lane) (nn : AxisId) (cause : Nat) : Lane :=
  let f := (l.axis nn).fb
  if f.deaf cause then l
  else
    let n := satInc f.errRun 255
    let l := (l.onFb nn fun f => { f with errRun := n, okRun := 0 }).event (89 + 2 * nn.val) cause
    if cause = 3 || cause = 7 || errLimit (l.axisRec nn) ≤ n then l.fbInvalid nn cause else l

/-- A valid word or change counts (R309). -/
def Feedback.good (f : Feedback) : Feedback := { f with errRun := 0, okRun := satInc f.okRun 255 }

/-- The channel leaves INVALID once rec_count valid words or changes in a row, and the index they need, have come; not while its supply is switched off (R309). -/
def Lane.fbRecover (l : Lane) (nn : AxisId) : Lane :=
  let r := l.axisRec nn
  let f := (l.axis nn).fb
  if f.invalid && f.supply ≠ .tripped && recCount r ≤ f.okRun && (protocol r ≠ 1 || indexMode r = 0 || f.indexSeen) then
    (l.onFb nn fun f => { f with invalid := false }).healthy (80 + nn.val)
  else l

/-- A position held at 2^-32 revolution, to nearest even (R307). -/
def snapTurn (p : Rat) : Rat := mkRat (roundEven (p * 4294967296)) 4294967296

/-- A position has been decoded: the next PWM cycle applies it where the channel is the source in effect and valid (R307,
R314). `sample` is the sample time of a word; a position not applied yet is superseded, its jump is not. -/
def Lane.fbDecoded (l : Lane) (nn : AxisId) (sample : Option Nat) (jump : Bool) : Lane :=
  if l.angleSrc nn = 1 && (l.axis nn).fb.valid (l.axisRec nn) then
    l.onFb nn fun f => { f with apply := some (sample, jump || f.apply.any fun p => p.2) }
  else l

/-- The accumulator takes the position last decoded, a word's with the way that the speed estimate covers since its sample time
(R307, R310); interpolation keeps within one count of it (R313). -/
def Lane.fbPlace (l : Lane) (nn : AxisId) (sample : Option Nat) (jump : Bool) : Lane :=
  let r := l.axisRec nn
  let f := (l.axis nn).fb
  let now := l.tm.loc.toNat
  let v := f.speedAt r now
  let lead : Rat := match sample with
    | none => 0
    | some t => (if f.stopped then 0 else f.est) * ((((now : Int) - t : Int) : Rat) / 1000000000)
  l.setAngle nn (snapTurn f.pos + lead) 0 v (countUnit r) jump

/-- A valid change or word of d counts with its time stamp, after the position has been decoded: recovery, speed, the position
to apply (R307, R309, R310). `was` says whether the channel was valid before it, `jump` that the count was reset. -/
def Lane.fbChange (l : Lane) (nn : AxisId) (was : Bool) (now : Nat) (d : Int) (jump : Bool) : Lane :=
  let r := l.axisRec nn
  let l := l.fbRecover nn
  let jump := jump || (!was && (l.axis nn).fb.valid r)
  let l := l.onFb nn fun f => f.change r now d jump
  l.fbDecoded nn none jump

/-! ### The input filter (R295) -/

/-- An input sampled in a PWM cycle, where n + 1 samples make a level. -/
def InFilter.sample (i : InFilter) (n : Nat) : InFilter :=
  let run := if i.pin = i.last then min (i.run + 1) (n + 1) else 1
  { i with last := i.pin, run := run, level := if run = n + 1 then some i.pin else i.level }

/-- The accepted levels of the three inputs, once each has one. -/
def Feedback.levels (f : Feedback) : Option (Bool × Bool × Bool) :=
  match (vget f.ins 0).level, (vget f.ins 1).level, (vget f.ins 2).level with
  | some a, some b, some c => some (a, b, c)
  | _, _, _ => none

/-- ns between counted transitions at the highest count rate that a channel follows (R295). -/
def countGap (r : Bytes) : Nat := max 25 (5 * (filterCycles r + 2))

/-! ### Incremental encoders (R299 to R301) -/

/-- Place of a level pair in the forward sequence: A leads B (R299). -/
def quadIndex (a b : Bool) : Int :=
  match a, b with
  | false, false => 0 | true, false => 1 | true, true => 2 | false, true => 3

/-- The step of a transition: 1 forward, -1 reverse, 0 none, or none for an illegal one (R299). -/
def quadStep (r : Bytes) (a b a' b' : Bool) : Option Int :=
  let d := (quadIndex a' b' - quadIndex a b) % 4
  if d = 0 then some 0
  else if d = 2 then none
  else some (if (d == 1) != fbInvert r then 1 else -1)

/-- The shift in counts that brings a count to another by the shortest way (R300). -/
def countShift (n : Nat) (count target : Int) : Int :=
  let d := (target - count) % n
  if (n : Int) < 2 * d then d - n else d

/-- The first sample after the channel has started: no transition to count; under index mode NONE the position is valid with
count 0 (R300). -/
def Lane.abzFirst (l : Lane) (nn : AxisId) (a b z : Bool) : Lane :=
  (l.onFb nn fun f => { f with a := a, b := b, z := z, first := true }).fbDecoded nn none true

/-- An index (R300, R301): from the second since arming on it is checked; ALWAYS, and ONCE while armed, set the count.
Answers the lane and whether the count changed. -/
def Lane.abzIndex (l : Lane) (nn : AxisId) : Lane × Bool :=
  let r := l.axisRec nn
  let f := (l.axis nn).fb
  let shift := countShift (cpr r) f.count (indexCount r)
  let l := if !f.armed && indexTol r ≠ 0 && indexTol r < shift.natAbs then l.fbError nn 6 else l
  if indexMode r = 1 || f.armed then
    ((l.onFb nn fun f => { f with
        count := indexCount r, pos := f.pos + shift * countUnit r, armed := false, indexSeen := true }).event
      (88 + 2 * nn.val) 0, shift ≠ 0)
  else (l, false)

/-- A counted transition, and the index it may be (R299, R300). -/
def Lane.abzStep (l : Lane) (nn : AxisId) (d : Int) : Lane :=
  let r := l.axisRec nn
  let was := (l.axis nn).fb.valid r
  let l := l.onFb nn fun f => { f.good with count := (f.count + d) % cpr r, pos := f.pos + d * countUnit r }
  let f := (l.axis nn).fb
  let (l, jump) :=
    if indexMode r ≠ 0 && f.z && b2n f.a + 2 * b2n f.b = zGate r then l.abzIndex nn else (l, false)
  l.fbChange nn was l.tm.loc.toNat d jump

/-- A transition comes sooner after the change before it than the highest count rate allows (R295). -/
def Lane.tooFast (l : Lane) (nn : AxisId) : Bool :=
  let f := (l.axis nn).fb
  !f.window.isEmpty && l.tm.loc.toNat < f.lastAt + countGap (l.axisRec nn)

/-- The filtered levels of A, B and Z in one PWM cycle (R299 to R301). Whether a transition beyond the highest count rate is
counted is a free value (notes/assumptions/65.md). -/
def Lane.encoder (l : Lane) (nn : AxisId) (a b z : Bool) : Lane :=
  let f := (l.axis nn).fb
  if !f.first then l.abzFirst nn a b z
  else
    let l := l.onFb nn fun f => { f with a := a, b := b, z := z }
    match quadStep (l.axisRec nn) f.a f.b a b with
    | none => l.fbError nn 5
    | some d =>
      if d = 0 then l
      else if l.tooFast nn then (if l.freeBelow 2 = 0 then l.useFree else l.useFree.abzStep nn d)
      else l.abzStep nn d

/-! ### Hall sensors (R302) -/

/-- The sector of a state; none for 000 and 111. -/
def hallSector (r : Bytes) (h : BitVec 3) : Option Nat :=
  let k := match h.toNat with
    | 1 => some 0 | 3 => some 1 | 2 => some 2 | 6 => some 3 | 4 => some 4 | 5 => some 5 | _ => none
  if fbInvert r then k.map fun k => 5 - k else k

/-- The first valid state: the centre of its sector, the revolutions kept. -/
def Lane.hallFirst (l : Lane) (nn : AxisId) (k : Nat) : Lane :=
  let r := l.axisRec nn
  let n : Int := (k : Int) + (fbCpr r : Int) * (l.axis nn).fb.pos.floor
  let was := (l.axis nn).fb.valid r
  let l := l.onFb nn fun f => { f with
    first := true, sector := some k, count := n, pos := ((n : Rat) + 1 / 2) * countUnit r }
  l.fbChange nn was l.tm.loc.toNat 0 true

/-- A change to the neighbouring sector: the boundary crossed becomes the position. -/
def Lane.hallStep (l : Lane) (nn : AxisId) (k : Nat) (d : Int) : Lane :=
  let r := l.axisRec nn
  let was := (l.axis nn).fb.valid r
  let l := l.onFb nn fun f => { f.good with
    sector := some k, count := f.count + d, pos := ((f.count + (if d = 1 then 1 else 0) : Int) : Rat) * countUnit r }
  (l.event (88 + 2 * nn.val) 0).fbChange nn was l.tm.loc.toNat d false

/-- A change that skips a sector: ILLEGAL, the position moves to the boundary of the new sector by the shorter way; for the
opposite sector the way is a free value. Where the error makes the channel INVALID, the state it stands in is the first valid one
after it. -/
def Lane.hallSkip (l : Lane) (nn : AxisId) (k d : Nat) : Lane :=
  let r := l.axisRec nn
  let step : Int := if d = 2 then 2 else if d = 4 then -2 else if l.freeBelow 2 = 0 then 3 else -3
  let l := (if d = 3 then l.useFree else l).fbError nn 5
  (l.onFb nn fun f => { f with
    sector := f.sector.map fun _ => k, count := f.count + step, pos := ((f.count + step : Int) : Rat) * countUnit r
    }).fbDecoded nn none false

/-- The filtered Hall state in one PWM cycle; a standing state without a sector reports once (R302). -/
def Lane.hall (l : Lane) (nn : AxisId) (h : BitVec 3) : Lane :=
  let f := (l.axis nn).fb
  let l := l.onFb nn fun f => { f with hall := some h, a := bit h 0, b := bit h 1, z := bit h 2 }
  match hallSector (l.axisRec nn) h with
  | none => if f.hall = some h then l else l.fbError nn 5
  | some k => match f.sector with
    | none => l.hallFirst nn k
    | some j =>
      let d := (k + 6 - j) % 6
      if d = 0 then l else if d = 1 then l.hallStep nn k 1 else if d = 5 then l.hallStep nn k (-1) else l.hallSkip nn k d

/-! ### One sample of the inputs (R295) -/

/-- The levels that the filters accept, decoded under the channel's protocol. -/
def Lane.fbDecode (l : Lane) (nn : AxisId) : Lane :=
  match (l.axis nn).fb.levels with
  | none => l
  | some (a, b, c) =>
    if l.decodes nn 1 then l.encoder nn a b c
    else if l.decodes nn 2 then l.hall nn (BitVec.ofNat 3 (b2n a + 2 * b2n b + 4 * b2n c))
    else l

/-- The inputs are sampled, once in a PWM cycle, and decoded. -/
def Lane.fbSample (l : Lane) (nn : AxisId) : Lane :=
  let n := filterCycles (l.axisRec nn)
  if (l.axis nn).fb.sampled || !l.fbClock then l
  else (l.onFb nn fun f => { f with sampled := true, ins := f.ins.map fun i => i.sample n }).fbDecode nn

/-- The three inputs take levels; the PWM cycle in which they do samples them. -/
def Lane.fbInputs (l : Lane) (nn : AxisId) (a b c : Bool) : Lane :=
  (l.onFb nn fun f => { f with ins := Vector.ofFn fun k : Fin 3 =>
    { vget f.ins k with pin := if k = 0 then a else if k = 1 then b else c } }).fbSample nn

/-- The PWM cycle ends: inputs not yet sampled in it are sampled. -/
def Lane.fbCycle (l : Lane) (nn : AxisId) : Lane := (l.fbSample nn).onFb nn fun f => { f with sampled := false }

/-! ### Words (R303 to R307) -/

/-- More than twice the spacing of the last two valid samples has passed since the last: interpolation stops (R313). -/
def Feedback.spent (f : Feedback) (now : Nat) : Bool := f.spacing ≠ 0 && f.sampleAt + 2 * f.spacing < now

/-- A valid word: its position moves on by the shorter way from the last one, or starts afresh at `start` (R307). -/
def Lane.wordGood (l : Lane) (nn : AxisId) (sample : Nat) (frac start : Rat) : Lane :=
  let r := l.axisRec nn
  let f := (l.axis nn).fb
  let was := f.valid r
  let pos := if f.first then f.pos + wrapTurn (frac - f.pos) else start
  let d : Int := if f.first then roundEven ((pos - f.pos) * 2 ^ stBits r) else 0
  let l := l.onFb nn fun f => { f.good with first := true, pos := pos }
  let l := (l.event (88 + 2 * nn.val) 0).fbRecover nn
  let jump := !was && (l.axis nn).fb.valid r
  let l := if d = 0 && !jump then l else l.onFb nn fun f => f.change r sample d jump
  let l := l.onFb nn fun f => { f with spacing := if f.sampleAt = 0 then 0 else sample - f.sampleAt, sampleAt := sample }
  l.fbDecoded nn (some sample) jump

/-- Data bits of an SSI word (R303). -/
def ssiBits (r : Bytes) : Nat := mtBits r + stBits r + ssiStatus r + 6 * ssiCrc r

/-- One bit of the SSI CRC, polynomial x^6 + x + 1 (R304). -/
def crc6Bit (c : Nat) (b : Bool) : Nat := ((2 * c) % 64) ^^^ (if (c / 32 = 1) != b then 3 else 0)

/-- The n low bits of a number, most significant first. -/
def msbFirst (v : Nat) : Nat → List Bool
  | 0 => []
  | n + 1 => natBit v n :: msbFirst v n

/-- The number of bits given most significant first. -/
def ofMsb (bs : List Bool) : Nat := bs.foldl (fun v b => 2 * v + b2n b) 0

/-- Gray decoding of n bits (R303). -/
def grayDecode (v n : Nat) : Nat :=
  ((msbFirst v n).foldl (fun (acc : Nat × Bool) b => let x := b != acc.2; (2 * acc.1 + b2n x, x)) (0, false)).1

/-- The data line was high when the burst started, and high again within mono_us after its end (R304, step 1). -/
def ssiFramed (w : SsiWord) (r : Bytes) : Bool :=
  w.startHigh && match w.highAfter with | some t => t ≤ 1000 * monoUs r | none => false

/-- The first failed check of an SSI word (R304), none where it passes; `turn` is the revolution count that the word makes. -/
def ssiCause (r : Bytes) (w : SsiWord) (first : Bool) (mt : Nat) (turn : Int) : Option Nat :=
  let v := w.bits.toNat
  let crc := ((msbFirst (v / 64) (ssiBits r - 6)).foldl crc6Bit 0) ^^^ 63
  let status := v / 2 ^ (6 * ssiCrc r)
  if !ssiFramed w r then some 4
  else if ssiCrc r = 1 && v % 64 ≠ crc then some 2
  else if errBit r ≠ 0xFF && natBit status (errBit r) = (errLevel r = 0) then some 1
  else if first && mtBits r ≠ 0 && turn % 2 ^ mtBits r ≠ mt then some 6
  else none

/-- The clock burst of a trigger starts, under FREE one as soon as the recovery time is over (R303). -/
def Lane.ssiStart (l : Lane) (nn : AxisId) : Lane :=
  let free := ssiTrigger (l.axisRec nn) = 2
  if !l.ssiReady nn || !((l.axis nn).fb.ssiDue || free) then l
  else l.onFb nn fun f => { f with burst := true, burstAt := l.tm.loc.toNat, ssiDue := false }

/-- The word of the burst completes (R303, R304, R307). -/
def Lane.ssiWord (l : Lane) (nn : AxisId) (w : SsiWord) : Lane :=
  let r := l.axisRec nn
  let f := (l.axis nn).fb
  if !l.decodes nn 3 || !f.burst then l
  else
    let l := l.onFb nn fun f => { f with burst := false, readyAt := l.tm.loc.toNat + 1000 * monoUs r }
    let v := w.bits.toNat / 2 ^ (ssiStatus r + 6 * ssiCrc r)
    let group (x n : Nat) : Nat := if ssiGray r then grayDecode (x % 2 ^ n) n else x % 2 ^ n
    let frac : Rat := mkRat (group v (stBits r)) (2 ^ stBits r)
    let mt := group (v / 2 ^ stBits r) (mtBits r)
    match ssiCause r w f.first mt (f.pos + wrapTurn (frac - f.pos)).floor with
    | some c => l.fbError nn c
    | none => l.wordGood nn f.burstAt frac (mt + frac)

/-- One nibble of the SENT CRC, polynomial x^4 + x^3 + x^2 + 1 (R305). -/
def crc4Shift (c : Nat) : Nat :=
  let one (c : Nat) : Nat := ((2 * c) % 16) ^^^ (if c / 8 = 1 then 13 else 0)
  one (one (one (one c)))

/-- The recommended CRC of SAE J2716: seed 0101, the data nibbles, one zero nibble (R305). -/
def sentCrc (data : List (BitVec 4)) : Nat :=
  crc4Shift (data.foldl (fun c n => crc4Shift c ^^^ n.toNat) 5)

/-- Length of a pulse in ticks of the frame, to the nearest tick: 56 ticks make its sync pulse (R305;
notes/assumptions/66.md). -/
def sentTicks (w : SentFrame) (p : SentPulse) : Nat := (112 * p.len + w.sync) / (2 * w.sync)

/-- The nibble that a pulse of 12 to 27 ticks carries (SAE J2716, named by R305; notes/assumptions/66.md). -/
def sentNibble (w : SentFrame) (p : SentPulse) : BitVec 4 := BitVec.ofNat 4 (sentTicks w p - 12)

def sentNibbleList (w : SentFrame) : List (BitVec 4) := w.pulses.map (sentNibble w)

/-- The status nibble, the data nibbles and the CRC nibble. -/
def sentStatus (w : SentFrame) : BitVec 4 := (sentNibbleList w).headD 0
def sentData (w : SentFrame) : List (BitVec 4) := (sentNibbleList w).tail.dropLast
def sentCrcNibble (w : SentFrame) : BitVec 4 := (sentNibbleList w).getLastD 0

/-- The timing of a frame (R305, step 1): its tick within 20 % of sent_tick_ns, every nibble 12 to 27 ticks long, no low pulse
shorter than 4 ticks, that of the sync pulse included. -/
def sentTimed (r : Bytes) (w : SentFrame) : Bool :=
  let want := 56 * sentTickNs r
  4 * want ≤ 5 * w.sync && 5 * w.sync ≤ 6 * want && 4 * w.sync ≤ 56 * w.syncLow &&
    w.pulses.all fun p => 12 ≤ sentTicks w p && sentTicks w p ≤ 27 && 4 * w.sync ≤ 56 * p.low

/-- The first failed check of a SENT frame (R305). -/
def sentCause (r : Bytes) (w : SentFrame) : Option Nat :=
  if !sentTimed r w || (sentData w).length ≠ sentNibbles r then some 4
  else if (sentCrcNibble w).toNat ≠ sentCrc (sentData w) then some 2
  else if errBit r ≠ 0xFF && natBit (sentStatus w).toNat (errBit r) = (errLevel r = 0) then some 1
  else none

/-- One bit of the enhanced serial message's CRC, x^6 + x^4 + x^3 + 1 (SAE J2716, named by R306; notes/assumptions/18.md). -/
def esmCrcBit (c : Nat) (b : Bool) : Nat := ((2 * c) % 64 + b2n b) ^^^ (if c / 32 = 1 then 0x19 else 0)

/-- A complete enhanced serial message from 18 pairs of status bits 3 and 2, oldest first: its ID and data, none where its
frame pattern or CRC fails (R306; layout of SAE J2716, notes/assumptions/18.md). -/
def esmMessage (p : List (Bool × Bool)) : Option (Nat × Nat) :=
  let b3 := p.map fun x => x.1
  let b2 := p.map fun x => x.2
  if b3.take 7 ≠ [true, true, true, true, true, true, false] || b3.getD 12 true || b3.getD 17 true then none
  else
    let body := (p.drop 6).flatMap fun x => [x.2, x.1]
    let crc := (body ++ List.replicate 6 false).foldl esmCrcBit 21
    if ofMsb (b2.take 6) ≠ crc then none
    else
      let data := ofMsb (b2.drop 6)
      let hi := ofMsb ((b3.drop 8).take 4)
      let lo := ofMsb ((b3.drop 13).take 4)
      if b3.getD 7 false then some (hi, lo * 4096 + data) else some (hi * 16 + lo, data)

/-- A frame's status bits join the message (R306). Answers the channel and whether a diagnostic message is complete. -/
def Feedback.esmStep (f : Feedback) (r : Bytes) (w : SentFrame) : Feedback × Bool :=
  if !natBit (sentEsm r) 0 then (f, false)
  else
    let p := ((bit (sentStatus w) 3, bit (sentStatus w) 2) :: f.esm).take 18
    let pattern := p.length = 18 && ((p.reverse.map fun x => x.1).take 7 = [true, true, true, true, true, true, false])
    match esmMessage p.reverse with
    | none => ({ f with esm := if pattern then [] else p }, false)
    | some (id, data) => ({ f with esm := [] }, natBit (sentEsm r) 1 && id = sentDiagId r && data ≠ 0)

/-- A diagnostic message that an erroneous frame completes is reported too; the frame counts once (R306, R309). -/
def Lane.sentDiag (l : Lane) (nn : AxisId) : Lane :=
  if (l.axis nn).fb.deaf 8 then l else l.event (89 + 2 * nn.val) 8

/-- A SENT frame completes (R305 to R307). -/
def Lane.sentFrame (l : Lane) (nn : AxisId) (w : SentFrame) : Lane :=
  let r := l.axisRec nn
  if !l.decodes nn 4 then l
  else
    let cause := sentCause r w
    let e := if cause = some 4 || cause = some 2 then ({ (l.axis nn).fb with esm := [] }, false)
      else (l.axis nn).fb.esmStep r w
    let l := l.onFb nn fun _ => e.1
    match cause with
    | some c => (if e.2 then l.sentDiag nn else l).fbError nn c
    | none =>
      if e.2 then l.fbError nn 8
      else
        let f := (l.axis nn).fb
        let code := ((sentData w).take (stBits r / 4)).foldl (fun (v : Nat) n => 16 * v + n.toNat) 0
        let frac : Rat := mkRat code (2 ^ stBits r)
        l.wordGood nn w.sample.toNat frac (f.pos.floor + frac)

/-! ### Supplies, restarts, return from FALLBACK (R296, R309, R314, R319) -/

/-- The sensor supply has failed for 1 ms: off, SUPPLY (R296). -/
def Lane.supplyFault (l : Lane) (nn : AxisId) : Lane :=
  if (l.axis nn).fb.supply = .on then
    (l.onFb nn fun f => { f with supply := .tripped, settling := false }).fbError nn 7
  else l

/-- The channel starts or restarts with its line HEALTHY and the accumulator it feeds INVALID (R309, R319). `keep` holds
OBSERVER in effect under FALLBACK, as a FAULT_CLEAR does. -/
def Lane.fbRestart (l : Lane) (nn : AxisId) (keep : Bool) : Lane :=
  let r := l.axisRec nn
  let used := protocol r ≠ 0
  let sup := used && supplyEn r
  let l := if (l.axis nn).fb.invalid then l.healthy (80 + nn.val) else l
  let l := l.onFb nn fun f => { Feedback.cold with
    running := used, supply := if sup then .on else .off, settling := sup, ins := f.ins,
    sampled := f.sampled, observer := keep && f.observer }
  if l.angleSrc nn = 2 && keep then l else l.loseAngle nn

/-- Every channel whose supply is switched off starts again, as a FAULT_CLEAR that returns OK does (R296, R309). -/
def Lane.fbClear (l : Lane) : Lane :=
  each (idxs 12) (fun nn l => if (l.axis nn).fb.supply = .tripped then l.fbRestart nn true else l) l

/-- AXIS_ENABLE under FALLBACK returns the source to a valid feedback channel (R314); the supervisor ends. -/
def Lane.fbReturn (l : Lane) (nn : AxisId) : Lane :=
  let r := l.axisRec nn
  let f := (l.axis nn).fb
  if angleSource r = 3 && f.observer && f.valid r then
    let l := (l.supIdle nn).onFb nn fun f => { f with observer := false }
    l.fbPlace nn none true
  else l

/-- The first self-test slice of SHUTDOWN starts: decoding and supplies end, emulation outputs go low (R320). -/
def Lane.fbShutdown (l : Lane) : Lane :=
  let l := { l with emu := Vector.replicate 2 Emul.cold }
  each (idxs 12) (fun nn l => l.onFb nn fun f => { f with running := false, supply := .off, settling := false }) l

/-! ### Encoder emulation (R315 to R317) -/

/-- The axis channel an emulation output follows. -/
def Lane.emulNn (l : Lane) (e : Fin 2) : AxisId := channelOfAxis (emulAxis (l.emulRec e))

/-- The target count (R316). -/
def Lane.emulTarget (l : Lane) (e : Fin 2) : Int :=
  let r := l.emulRec e
  let nn := l.emulNn e
  let n := if emulSource r = 2 then (l.axis nn).elec (l.axisRec nn) else (l.axis nn).acc.mech
  (mkRat (toSigned 64 n * (4 * lines r)) 4294967296).floor

/-- The levels of an emitted count: a forward step has A leading B; Z is one count wide (R316). -/
def Emul.levels (u : Emul) (r : Bytes) : Emul :=
  let q := u.count % 4
  let x := q = 1 || q = 2
  let y := q = 2 || q = 3
  { u with
    a := if emulInvert r then y else x, b := if emulInvert r then x else y,
    z := emulZ r && u.count % (4 * lines r : Nat) = (zPosition r * (4 * lines r) / 4294967296 : Nat) }

/-- The lane with an emulation output changed. -/
def Lane.onEmul (l : Lane) (e : Fin 2) (f : Emul → Emul) : Lane := { l with emu := vmod l.emu e f }

/-- An output starts or restarts from its present target (R319). -/
def Lane.emulRestart (l : Lane) (e : Fin 2) : Lane :=
  let r := l.emulRec e
  let t := l.emulTarget e
  l.onEmul e fun _ => if emulEnabled r then { Emul.cold with running := true, count := t }.levels r else Emul.cold

/-- At least 100 ns have passed since the output's last step (R316). -/
def Emul.rested (u : Emul) (now : Nat) : Bool := match u.stepAt with | some t => t + 100 ≤ now | none => true

/-- One step towards the target (R316). -/
def Lane.emulStep (l : Lane) (e : Fin 2) : Lane :=
  let u := vget l.emu e
  let t := l.emulTarget e
  let now := l.tm.loc.toNat
  if !u.running || !(l.axis (l.emulNn e)).acc.valid || !l.fbClock || u.count = t || !u.rested now then l
  else l.onEmul e fun u =>
    { u with count := if u.count < t then u.count + 1 else u.count - 1, stepAt := some now }.levels (l.emulRec e)

/-- One PWM cycle of an output: LOW while the accumulator is INVALID, the lag and its fault (R317). -/
def Lane.emulTick (l : Lane) (e : Fin 2) : Lane :=
  let r := l.emulRec e
  let u := vget l.emu e
  if !u.running then l
  else if !(l.axis (l.emulNn e)).acc.valid then
    (if invalidMode r = 1 then l.onEmul e fun u => { u with a := false, b := false, z := false } else l)
  else
    let lag := (l.emulTarget e - u.count).natAbs
    let l := l.onEmul e fun u => { u with lagging := (u.lagging || lagLimit r < lag) && lag ≠ 0 }.levels r
    if lagLimit r < lag && !u.lagging then l.fault (92 + e.val) 0xFF 0 0 0 else l

/-! ### Meanings -/

/-- ENCODER_TRANSITION (R295, R299 to R301, R307 to R312): A, B and Z take levels at the pins, which the filters sample; an
accepted transition is counted. -/
def execEncoderTransition (l : LaneId) (nn : AxisId) (a b z : Bool) (s : State) : Host.Outcome State Fault Refusal :=
  .next (s.onLane l fun x => x.fbInputs nn a b z)

/-- HALL_CHANGE (R295, R302, R307 to R312): H1, H2 and H3 take levels at the pins, which the filters sample; an accepted state
is decoded. -/
def execHallChange (l : LaneId) (nn : AxisId) (h : BitVec 3) (s : State) : Host.Outcome State Fault Refusal :=
  .next (s.onLane l fun x => x.fbInputs nn (bit h 0) (bit h 1) (bit h 2))

/-- SSI_BURST_START (R303). -/
def execSsiBurstStart (l : LaneId) (nn : AxisId) (s : State) : Host.Outcome State Fault Refusal :=
  .next (s.onLane l fun x => x.ssiStart nn)

/-- SSI_WORD_RECEIVE (R303, R304, R307). -/
def execSsiWordReceive (l : LaneId) (nn : AxisId) (w : SsiWord) (s : State) : Host.Outcome State Fault Refusal :=
  .next (s.onLane l fun x => x.ssiWord nn w)

/-- SENT_FRAME_RECEIVE (R305 to R307). -/
def execSentFrameReceive (l : LaneId) (nn : AxisId) (w : SentFrame) (s : State) : Host.Outcome State Fault Refusal :=
  .next (s.onLane l fun x => x.sentFrame nn w)

/-- FEEDBACK_TIMEOUT (R309): no valid word for t_w. -/
def execFeedbackTimeout (l : LaneId) (nn : AxisId) (s : State) : Host.Outcome State Fault Refusal :=
  .next (s.onLane l fun x => if x.decodes nn 3 || x.decodes nn 4 then x.fbError nn 3 else x)

/-- SENSOR_SUPPLY_FAULT (R296). -/
def execSensorSupplyFault (l : LaneId) (nn : AxisId) (s : State) : Host.Outcome State Fault Refusal :=
  .next (s.onLane l fun x => x.supplyFault nn)

/-- SENSOR_SUPPLY_SETTLE (R296). -/
def execSensorSupplySettle (l : LaneId) (nn : AxisId) (s : State) : Host.Outcome State Fault Refusal :=
  .next (s.onLane l fun x => x.onFb nn fun f => { f with settling := false })

/-- SPEED_STOP (R311). -/
def execSpeedStop (l : LaneId) (nn : AxisId) (s : State) : Host.Outcome State Fault Refusal :=
  .next (s.onLane l fun x => x.onFb nn fun f => { f with stopped := true })

/-- EMULATION_STEP (R316). -/
def execEmulationStep (l : LaneId) (e : Fin 2) (s : State) : Host.Outcome State Fault Refusal :=
  .next (s.onLane l fun x => x.emulStep e)

end Sys2Proof.Machine
end

