-- ==== Sys2Proof/Machine/Image.lean ====
section
/-! DEFINITION. Graph images: well-formedness (R142, R181 to R187, R202 to R204, R213, R219, R221, R222) and the slot that an
image becomes (R139 to R146). -/

namespace Sys2Proof.Machine

/-! ### Sections of an image (R140) -/

/-- A little-endian 16-byte word. -/
def word128 (b : Bytes) : BitVec 128 := BitVec.ofNat 128 (ofLe b)

/-- Runs of `w` bytes, at most `n`. -/
def chunks (w : Nat) : Nat → Bytes → List Bytes
  | 0, _ => []
  | n + 1, bs => bs.take w :: chunks w n (bs.drop w)

/-- Offsets of the link table, the successor array and the coefficients. -/
def offLinks (b : Bytes) : Nat := 64 + 16 * imgNodes b
def offSuccs (b : Bytes) : Nat := offLinks b + 8 * imgNodes b
def offCoef (b : Bytes) : Nat := offSuccs b + succBytes (imgSucc b)

/-- The slot that an image becomes: STOPPED, initial coefficients, node state 0 (R146, R159). -/
def Slot.ofImage (b : Bytes) : Slot :=
  { Slot.cold with
    st := .stopped, hdr := b.take 64,
    nodes := (chunks 16 (imgNodes b) (b.drop 64)).map word128,
    links := (chunks 8 (imgNodes b) (b.drop (offLinks b))).map fun x => (fieldAt x 0 1, fieldAt x 1 1, fieldAt x 4 4),
    succs := (chunks 2 (imgSucc b) (b.drop (offSuccs b))).map ofLe,
    coef := (chunks 4 (imgCoef b) (b.drop (offCoef b))).map fun x => BitVec.ofNat 32 (ofLe x),
    state := List.replicate (imgState b) 0 }

/-! ### The link graph (R142, R184) -/

/-- Nodes reached from a frontier in at most the given number of steps, each once. -/
def reach (s : Slot) : Nat → List Nat → List Nat → List Nat
  | 0, _, seen => seen
  | n + 1, front, seen =>
    let next := ((front.flatMap s.succOf).filter fun j => !seen.contains j).dedup
    if next.isEmpty then seen else reach s n next (seen ++ next)

/-- The descendants of node j. -/
def Slot.descendants (s : Slot) (j : Nat) : List Nat := reach s s.nodes.length [j] []

/-- Node i is an ancestor of node j. -/
def Slot.isAncestor (s : Slot) (i j : Nat) : Bool := (s.descendants i).contains j

/-- The link table and the successor array are well formed (R142). -/
def Slot.linksOk (s : Slot) : Bool :=
  let n := s.nodes.length
  let all := (List.range n).flatMap s.succOf
  s.succs.all (fun j => j < n) &&
  ((List.range n).all fun j => let k := s.link j
    k.1 ≤ 16 && k.2.1 ≤ 16 && k.2.2 + k.2.1 ≤ s.succs.length && k.1 = all.count j && !(s.descendants j).contains j) &&
  !s.sources.isEmpty

/-! ### Operands of a node -/

/-- What an operation accepts as an operand. -/
inductive Role1 where
  /-- nothing -/
  | no
  /-- data of n elements -/
  | data (n : Nat)
  /-- data of n elements, or nothing -/
  | opt (n : Nat)
  /-- a parameter block of n coefficient words -/
  | block (n : Nat)
  /-- one coefficient word read whole (R223) -/
  | whole
  /-- a digest from an ancestor's stage (R221) -/
  | digest (n : Nat)
  /-- a gather list of n entries (R221, R222) -/
  | gather (n : Nat)
  /-- a device axis of the lane, or another resource below n (R202) -/
  | axis
  | below (n : Nat)
  deriving DecidableEq, Repr

/-- Every field of a NONE descriptor is 0 (R183). -/
def Desc.isNone (d : Desc) : Bool := d.kind = 0 && d.first = 0 && d.resv = 0 && !d.bcast && d.index = 0

/-- Coefficient words in range, directly or in a bank (R183, R185). -/
def Slot.coefOk (s : Slot) (d : Desc) (n : Nat) : Bool :=
  d.first = 0 && (if d.kind = 3 then s.usesBank && d.index + n ≤ imgBankSize s.hdr else d.index + n ≤ imgCoef s.hdr)

/-- A data operand of n elements of node j (R184, R185). -/
def Slot.dataOk (s : Slot) (j : Nat) (d : Desc) (n : Nat) : Bool :=
  let m := if d.bcast then 1 else n
  match d.kind with
  | 0 => false
  | 1 => d.index < s.nodes.length && (d.index = j || s.isAncestor d.index j || s.isAncestor j d.index) && d.first + m ≤ 8
  | _ => s.coefOk d m

/-- A word lies in the operation state region of node i (R187, R222). -/
def Slot.inOpState (s : Slot) (i w : Nat) : Bool :=
  let x := s.node i
  let lo := nodeState x + 1 + nodeLen x
  lo ≤ w && w < lo + opStates (nodeOp x) (nodeLen x)

/-- A gather-list entry of node j names a word of an ancestor or a descendant (R222). -/
def Slot.gatherOk (s : Slot) (j : Nat) (v : W32) : Bool :=
  v.toNat < 65536 && (List.range s.nodes.length).any fun i =>
    (s.isAncestor i j || s.isAncestor j i) && s.inOpState i v.toNat

/-- A resource descriptor (R202). -/
def Desc.resourceOk (d : Desc) : Bool := d.kind = 0 && d.first = 0 && !d.bcast

/-- An operand of node j is what its operation accepts (R181). -/
def Slot.operandOk (l : LaneId) (s : Slot) (j : Nat) (d : Desc) (r : Role1) : Bool :=
  d.resv = 0 && match r with
    | .no => d.isNone
    | .data n => s.dataOk j d n
    | .opt n => d.isNone || s.dataOk j d n
    | .block n => 2 ≤ d.kind && !d.bcast && s.coefOk d n
    | .whole => d.kind = 2 && s.coefOk d 1
    | .digest n => d.kind = 1 && s.isAncestor d.index j && s.dataOk j d n
    | .gather n => d.kind = 2 && !d.bcast && s.coefOk d n &&
        (List.range n).all fun i => s.gatherOk j (s.coef.getD (d.index + i) 0)
    | .axis => d.resourceOk && d.index / 12 = l.val && d.index < 36
    | .below n => d.resourceOk && d.index < n

/-! ### Operations -/

/-- What an operation fixes: output lengths, options, immediate, operands A, B and C. -/
structure OpRule where
  len : Bool
  opt : Bool
  imm : Bool
  a : Role1
  b : Role1
  c : Role1
  deriving DecidableEq, Repr

/-- A rule without options and immediate, the length as given. -/
def plainRule (w : BitVec 128) (len : Bool) (a b c : Role1) : OpRule :=
  { len := len, opt := nodeOpt w = 0, imm := nodeImm w = 0, a := a, b := b, c := c }

/-- A rule whose options may take the values below n. -/
def optRule (w : BitVec 128) (n : Nat) (len : Bool) (a b c : Role1) : OpRule :=
  { plainRule w len a b c with opt := nodeOpt w < n }

/-- Bytes of a payload element (R213). -/
def payloadSize (fmt : Nat) : Nat := if fmt = 0 then 2 else 4

/-- The rule of an operation word; none for a reserved code (R180, R191 to R200, R203, R205, R210, R215, R225). `plen` is the
payload length of an endpoint. -/
def opRule (plen : Nat → Nat) (w : BitVec 128) : Option OpRule :=
  let len := nodeLen w
  let any := 1 ≤ len && len ≤ 8
  let n := nodeImm w % 16
  let count := 1 ≤ n && n ≤ 8 && nodeImm w < 16
  let blocks := if nodeOpt w % 2 = 1 then len else 1
  let fmt := nodeOpt w % 4
  let stat := natBit (nodeOpt w) 2
  let ele := plainRule w any (.data len)
  match nodeOp w with
  | 0x01 => some (ele .no .no)
  | 0x02 => some (ele (.data len) .no)
  | 0x03 => some (ele (.data len) .no)
  | 0x04 => some (ele (.data len) .no)
  | 0x05 => some (ele (.data len) (.data len))
  | 0x06 => some (ele .no .no)
  | 0x07 => some (ele .no .no)
  | 0x08 => some { ele .no .no with imm := true }
  | 0x09 => some (ele (.data len) .no)
  | 0x0A => some (ele .no .no)
  | 0x0B => some (ele .no .no)
  | 0x0C => some { plainRule w (len = 1) (.data n) (.data n) .no with imm := count }
  | 0x0D => some { plainRule w (len = 1) (.data n) .no .no with imm := count }
  | 0x0E => some { plainRule w (n < len && len ≤ 8) (.data n) (.data (len - n)) .no with
      imm := 1 ≤ n && n ≤ 7 && nodeImm w < 16 }
  | 0x0F => some (ele (.data len) (.data len))
  | 0x20 => some (optRule w 2 (len = 2) (.data (if nodeOpt w = 1 then 2 else 3)) .no .no)
  | 0x21 => some (plainRule w (len = 2) (.data 2) (.data 1) .no)
  | 0x22 => some (plainRule w (len = 2) (.data 2) (.data 1) .no)
  | 0x23 => some (optRule w 2 (len = 3) (.data 2) .no .no)
  | 0x30 => some (optRule w 2 any (.data len) (.block (4 * blocks)) .no)
  | 0x31 => some (optRule w 2 any (.data len) (.block (6 * blocks)) .no)
  | 0x32 => some (optRule w 2 any (.data len) (.block (2 * blocks)) .no)
  | 0x33 => some (optRule w 2 any (.data len) (.block (2 * blocks)) .no)
  | 0x40 => some (ele (.block 1) .no)
  | 0x41 => some (ele (.block 5) .no)
  | 0x42 => some (ele (.block 2) .no)
  | 0x50 => some (optRule w 2 any (.data len) (.block 3) .no)
  | 0x51 => some (ele (.data len) .no)
  | 0x52 => some (ele (.data len) .no)
  | 0x53 => some (optRule w 2 any (.data len) (.data len) .no)
  | 0x60 => some (plainRule w (len = 2) (.data 1) .no .no)
  | 0x61 => some (plainRule w (len = 1) (.data 2) .no .no)
  | 0x62 => some { plainRule w (len = 1) (.data n) .no .no with imm := count }
  | 0x80 => some (optRule w 3 (len = 2) (.data (if nodeOpt w = 1 then 2 else 1)) (.block 3) (.opt 1))
  | 0x81 => some (plainRule w (len = 2) (.data 2) (.data 2) (.block 5))
  | 0x82 => some (plainRule w (len = 2) (.data 2) (.block 4) .no)
  | 0x83 => some (optRule w 4 (len = 2) (.data 1) (.block 1) .no)
  | 0x90 => some (optRule w 3 (len = if nodeOpt w = 2 then 6 else 3) .no .no .axis)
  | 0x91 => some (optRule w 3 (len = 3) .no .no .axis)
  | 0x92 => some { plainRule w (any && (!stat || 2 ≤ len)) .no .no (.below 512) with
      opt := fmt ≠ 3, imm := nodeImm w + payloadSize fmt * (len - b2n stat) ≤ 96 }
  | 0x93 => some (plainRule w (len = 4) .no .no .no)
  | 0x94 => some (plainRule w (len = 1) .no .no .no)
  | 0xA0 => some (plainRule w (len = 3) (.data 3) .no .axis)
  | 0xA1 => some (plainRule w (len = 1) (.data 1) .no .axis)
  | 0xA2 => some (plainRule w (len = 1) .no .no .axis)
  | 0xA3 => some (plainRule w (len = 2) (.data 2) .no .axis)
  | 0xA4 => some { plainRule w any (.data len) .no (.below 512) with
      opt := fmt ≠ 3, imm := nodeImm w + payloadSize fmt * len ≤ plen (nodeResource w) }
  | 0xA5 => some { plainRule w (len = 1) (.data 1) .no .no with imm := nodeImm w < 16 }
  | 0xA6 => some { plainRule w any (.digest len) (.gather (nodeImm w)) .axis with
      imm := 1 ≤ nodeImm w && nodeImm w ≤ 32 }
  | 0xA7 => some (plainRule w any (.data len) .whole .axis)
  | 0xA8 => some (plainRule w (len = 1) .no .no .no)
  | 0xB0 => some (optRule w 3 (len = 1) (.data 2) .no (.below 16))
  | 0xB1 => some (plainRule w (len = 1) (.data 1) .no (.below 16))
  | 0xB2 => some (optRule w 3 (len = 1) (.data 1) .no (.below 24))
  | 0xB3 => some (plainRule w (len = 1) .no .no (.below 24))
  | _ => none

/-- The words of a node's state block (R187). -/
def blockWords (w : BitVec 128) : Nat := 1 + nodeLen w + opStates (nodeOp w) (nodeLen w)

/-- Node j keeps every rule of its operation (R181). -/
def Slot.nodeOk (l : LaneId) (plen : Nat → Nat) (s : Slot) (j : Nat) : Bool :=
  let w := s.node j
  match opRule plen w with
  | none => false
  | some r =>
    nodeField w 120 8 = 0 && (nodePin w || nodeField w 16 8 = 0) && r.len && r.opt && r.imm &&
    s.operandOk l j (nodeDesc w 0) r.a && s.operandOk l j (nodeDesc w 1) r.b && s.operandOk l j (nodeDesc w 2) r.c &&
    nodeState w + blockWords w ≤ imgState s.hdr

/-- No two state blocks overlap (R187). -/
def blocksApart : List (BitVec 128) → Bool
  | [] => true
  | w :: ws => (ws.all fun v => nodeState w + blockWords w ≤ nodeState v || nodeState v + blockWords v ≤ nodeState w) &&
      blocksApart ws

/-! ### The header (R139, R142) -/

/-- One trigger entry. -/
def triggerOk (b : Bytes) (k : Nat) : Bool :=
  let o := 0x28 + 4 * k
  fieldAt b (o + 1) 1 ≤ 2 && !eventReserved (fieldAt b o 1)

/-- The header's fields lie in their ranges (R139, R142, R151). -/
def headerOk (l : LaneId) (b : Bytes) : Bool :=
  let axis := fieldAt b 0x12 1
  let sel := imgBankSel b
  let size := imgBankSize b
  fieldAt b 0 4 = 0x47525048 && imgTotal b = b.length && b.length % 4 = 0 && 64 ≤ b.length && b.length ≤ 1048576 &&
  1 ≤ imgNodes b && imgNodes b ≤ 8192 && fieldAt b 0x10 1 ≤ 31 && fieldAt b 0x11 1 ≤ 7 &&
  (axis = 0xFF || (axis < 36 && axis / 12 = l.val)) && fieldAt b 0x13 1 ≤ 1 && !(fieldAt b 0x13 1 = 1 && axis = 0xFF) &&
  1 ≤ fieldAt b 0x14 2 && fieldAt b 0x14 2 ≤ 1024 && fieldAt b 0x18 4 ≤ 100000000 && imgSucc b ≤ 131072 &&
  (if sel = 0xFFFF then size = 0 else 1 ≤ size && size ≤ 32767 && sel + 1 + 2 * size ≤ imgCoef b) &&
  ((List.range 4).all (triggerOk b)) && ((List.range 4).any fun k => fieldAt b (0x29 + 4 * k) 1 ≠ 0) &&
  fieldAt b 0x38 8 = 0 && b.length = 64 + nodeBytes b + 4 * imgCoef b

/-- The reserved parts of the link table and the padding of the successor array are 0 (R140, R141). -/
def linkBytesOk (b : Bytes) : Bool :=
  ((chunks 8 (imgNodes b) (b.drop (offLinks b))).all fun x => fieldAt x 2 2 = 0) &&
  fieldAt b (offSuccs b + 2 * imgSucc b) (succBytes (imgSucc b) - 2 * imgSucc b) = 0

/-- The image is well formed (R142, R181). -/
def imageOk (l : LaneId) (plen : Nat → Nat) (b : Bytes) : Bool :=
  headerOk l b && linkBytesOk b &&
  (let s := Slot.ofImage b
   s.linksOk && ((List.range s.nodes.length).all (s.nodeOk l plen)) && blocksApart s.nodes)

/-- The status of a complete image, if it fails (R144). -/
def Lane.imageStatus (l : Lane) (b : Bytes) : Option Nat :=
  if fieldAt b 5 1 ≠ 1 then some stsVersion
  else if fieldAt b 0x0C 4 ≠ imageCrc b then some stsCrc
  else if !imageOk l.idx (fun e => connLength (l.connRec (fin e))) b then some stsRange
  else none

end Sys2Proof.Machine
end

