-- ==== Sys2Proof/Machine/Pwm.lean ====
section
/-! DEFINITION. The PWM block (R228 to R251): period lengths and placed intervals, carry, requests, masks, trips, auxiliary
outputs, debug halt, with its rows from PERIOD_MID to DEBUG_RESUME, OVERCURRENT_COMPARATOR and BUS_OVERVOLTAGE. The rows that start
a period stand in Redundancy.lean. -/

namespace Sys2Proof.Machine

/-! ### Fields of the section (R231, R322) -/

def pwmCarry (r : Bytes) : Bool := natBit (pwmFlags r) 0
def maskTabled (r : Bytes) : Bool := natBit (pwmFlags r) 1
def stepReverse (r : Bytes) : Bool := natBit (pwmFlags r) 2
def sixStep (r : Bytes) : Bool := natBit (commFlags r) 0
def brakePulse (r : Bytes) : Bool := natBit (commFlags r) 1

/-- COT or COFT (R232). -/
def carrierVar (c : Nat) : Bool := c = 2 || c = 3

/-! ### Lengths and intervals (R230, R234, R238) -/

/-- The length of a period that begins now, in PWM cycles (R230). -/
def Lane.periodLength (l : Lane) (r : Bytes) : Nat :=
  let n := periodCycles r
  if pwmTimebase r = 1 || l.tm.sync = .none then n
  else
    let t := 5 * n
    let x := ((l.tm.glob.toNat : Int) - 5 * offsetCycles r) % t |>.toNat
    let early := t - x
    if x < 5 || early < 5 then n
    else if x ≤ 320 then n - 1
    else if early ≤ 320 then n + 1
    else n + early / 5

/-- A placed interval: width and next carry, in steps. -/
structure Placed where
  width : Int
  carry : Int
  deriving DecidableEq, Repr

/-- The width of a duty in a period of n steps with its carry (R234, R238): `dead` steps and a minimum pulse of `mpNs` ns. -/
def placeWidth (duty : Rat) (n : Int) (carryOn : Bool) (carry : Int) (dead mpNs : Nat) : Placed :=
  let w := roundEven (duty * n)
  let w := if carryOn then (if w + carry < 0 then 0 else if n < w + carry then n else w + carry) else w
  let short (v : Int) : Bool := 0 < v && 5 * v < 5 * (dead : Int) + 32 * mpNs
  if short w then { width := 0, carry := if carryOn then w else 0 }
  else if short (n - w) then { width := n, carry := if carryOn then w - n else 0 }
  else { width := w, carry := 0 }

/-- Where an interval of width w begins (R234). -/
def placeStart (carrier : Nat) (n w : Int) : Int := if carrier = 0 then (n - w) / 2 else 0

/-- An edge while the last calibration failed: on one of the two neighbours of the 5 ns grid, which of them the spec leaves open
(R228). -/
def gridEdge (up : Bool) (x : Int) : Int := 32 * ((x + if up then 31 else 0) / 32)

/-- The edges of an interval as the delay line gives them, first step and width: on their steps, or on the 5 ns grid with the
neighbours that the choice n takes; an interval without width has no edge (R228). -/
def gridInterval (grid : Option Nat) (start width : Int) : Int × Int :=
  match grid with
  | none => (start, width)
  | some n =>
    if width = 0 then (start, 0)
    else let a := gridEdge (natBit n 0) start; (a, gridEdge (natBit n 1) (start + width) - a)

/-- The time rule of R229 is met in the present PWM cycle: on local time, or on global time where the axis chooses it and it is
not NONE. -/
def Lane.onTarget (l : Lane) (r : Bytes) : Bool :=
  let t : Int := 5 * periodCycles r
  let o : Int := 5 * offsetCycles r
  if pwmTimebase r = 1 || l.tm.sync = .none then ((l.tm.loc.toNat : Int) - o) % t = 0
  else ((((l.tm.glob.toNat : Int) - o) % t : Int) : Rat) + l.tm.frac < 5 * (1 + l.tm.rate + l.tm.slew)

/-- A period of a CENTRE or EDGE carrier starts in the present PWM cycle: the first one by the time rule, strictly after the
start of the carrier, every other one at the end of the period before (R229, R230, R249). -/
def Lane.periodDue (l : Lane) (nn : AxisId) : Bool :=
  let p := (l.axis nn).pwm
  p.since ≠ 0 && if p.firstWait then l.onTarget (l.axisRec nn) else p.since % p.length = 0

/-! ### Requests (R234, R235, R239, R324, R335) -/

/-- The carrier requests the high side of a phase now. -/
def highNow (r : Bytes) (p : Pwm) (ph : Phase) : Bool :=
  match carrier r with
  | 2 => vget p.fixedInt ph
  | 3 => !vget p.fixedInt ph
  | _ =>
    let e := gridInterval (p.grid.map fun n => n / 4 ^ ph.val) (vget p.start ph) (vget p.width ph)
    let x : Int := 32 * (p.since % p.length : Nat)
    e.1 ≤ x && x < e.1 + e.2

/-- A pulsed zero vector is in force (R335). -/
def zeroPulse (r : Bytes) (p : Pwm) : Bool := brakePulse r && !carrierVar (carrier r) && (p.mask = 0x2A || p.mask = 0x15)

/-- The request for one switch. -/
def requestOf (r : Bytes) (p : Pwm) (sw : Switch) : Bool :=
  if zeroPulse r p then !p.pulseCut
  else
    let ph := phaseOf sw
    let lowOnly := bit p.mask (2 * ph.val + 1) && !bit p.mask (2 * ph.val)
    if isHigh sw then highNow r p ph else (sixStep r && lowOnly) || !highNow r p ph

/-- The switches wanted on: request and mask bit, held pairs off (R239, R241). -/
def wanted (r : Bytes) (p : Pwm) : BitVec 6 :=
  each (idxs 6) (fun sw v => bitPut v sw.val (requestOf r p sw && bit p.mask sw.val && !bit p.held (phaseOf sw).val)) 0

/-- The outputs of an axis may follow its carrier (R244, R329, R344, R353, R354). -/
def Lane.mayDrive (l : Lane) (nn : AxisId) : Bool :=
  let a := l.axis nn
  a.enabled && !l.tripped nn && !a.safe && a.role ≠ .duplexStandby && a.red.observing.isNone &&
    match a.red.takeover with
    | none => true
    | some t => t.role && t.duty && (t.cause ≠ .mismatch || t.released)

/-- The switch commands of an axis follow their requests; frozen in a debug halt (R248). -/
def Lane.pwmDrive (l : Lane) (nn : AxisId) : Lane :=
  if l.sys.halted then l
  else
    let r := l.axisRec nn
    l.onAxis nn fun a =>
      let want := if a.driving && !a.sup.off && !a.pwm.firstWait then wanted r a.pwm else 0
      { a with pwm := pwmMove r want a.pwm }

/-! ### Period starts (R230, R234 to R236, R243, R244) -/

/-- What every period start of an axis does before its intervals: a planned drop, the end of a catch window's hold, the
begin of the outputs, and of a takeover's outputs with its event (R243, R244, R329, R353, R354). A period that starts in the PWM
cycle of a release does not start strictly after it (R243). -/
def Lane.periodHead (l : Lane) (nn : AxisId) : Lane :=
  let l := l.plannedPeriod nn
  let go := l.mayDrive nn && (l.axis nn).pwm.relAt ≠ some l.tm.loc
  let taking := go && (l.axis nn).red.takeover.isSome
  let l := l.onAxis nn fun a => { a with
    driving := go, sup := { a.sup with off := a.sup.off && a.sup.drive = .catching },
    pwm := { a.pwm with firstWait := false, pulseCut := false, since := 0 } }
  if taking then l.takeoverDone nn else l

/-- The outputs of an axis follow its carrier: it drives, outside a catch window and a pulsed zero vector (R238, R329, R335). -/
def Axis.follows (a : Axis) (r : Bytes) : Bool := a.driving && !a.sup.off && !zeroPulse r a.pwm

/-- The three intervals of a CENTRE or EDGE period of `len` PWM cycles; the carry moves only where the outputs follow the
carrier (R234, R238). -/
def Axis.placeAll (a : Axis) (r : Bytes) (len : Nat) (grid : Option Nat) : Axis :=
  let steps : Int := 32 * len
  let v : Vector Placed 3 := Vector.ofFn fun p =>
    placeWidth (vget a.pwm.duty p) steps (pwmCarry r && a.follows r) (vget a.pwm.carry p) (deadOf r p) (minPulseNs r)
  { a with pwm := { a.pwm with
    length := len, grid := grid, width := v.map Placed.width, start := v.map fun x => placeStart (carrier r) steps x.width,
    carry := if a.follows r then v.map Placed.carry else a.pwm.carry } }

/-- The end of a period start that raises event 4 nn + 0: sets, health word (R234, R282, R359). -/
def Lane.periodTail (l : Lane) (nn : AxisId) : Lane :=
  let l := (((l.event (4 * nn.val) 0).takeSets nn 1).takePositions nn).ssiEvent nn 0
  if isMember (l.axisRec nn) then l.publishHealth nn else l

/-- Where the edges of a period that starts now fall: on their steps, or, while the last calibration failed, on the 5 ns grid
(R228). -/
def Lane.newGrid (l : Lane) : Option Nat := if l.afe.calGood then none else some l.freeNow

/-- A period of a CENTRE or EDGE carrier starts (R234); under a pulsed zero vector the threshold comparators take brake_limit
(R335). -/
def Lane.fixedStart (l : Lane) (nn : AxisId) : Lane :=
  let r := l.axisRec nn
  let len := l.periodLength r
  let grid := l.newGrid
  let l := (if l.afe.calGood then l else l.useFree).periodHead nn
  let l := l.onAxis nn fun a => { a with pwm := { a.pwm with
    duty := a.pwm.shadow,
    thr := if zeroPulse r a.pwm then Vector.replicate 3 (mkRat (brakeLimit r) 8192) else a.pwm.thr } }.placeAll r len grid
  (l.pwmDrive nn).periodTail nn

/-- A period of one phase of a COT or COFT carrier starts (R235, R236). Phase A carries the axis's events. -/
def Lane.varStart (l : Lane) (nn : AxisId) (p : Phase) : Lane :=
  let l := if p = 0 then l.periodHead nn else l
  let l := l.onAxis nn fun a => { a with pwm := { a.pwm with
    duty := vset a.pwm.duty p (vget a.pwm.shadow p), thr := vset a.pwm.thr p (vget a.pwm.shadow p),
    fixedInt := vset a.pwm.fixedInt p true, count := vset a.pwm.count p 0 } }
  let l := l.pwmDrive nn
  if p = 0 then l.periodTail nn else l

/-- The carrier of an axis runs on its clock and is not frozen (R248, R249, R500) or under test (R391). -/
def Lane.carrierOn (l : Lane) (nn : AxisId) : Bool :=
  (l.axis nn).pwm.running && l.clockOn 3 && !l.sys.halted && !l.inSlice 12

/-- A period of an axis carrier starts where one is due. The periods of COT and COFT start with the carrier and at the end of a
variable interval (R235, R249). -/
def Lane.axisPeriod (l : Lane) (nn : AxisId) : Lane :=
  if l.carrierOn nn && !carrierVar (carrier (l.axisRec nn)) && l.periodDue nn then l.fixedStart nn else l

/-- The PWM cycle of step N/2, rounded down, of a CENTRE or EDGE period (R234). -/
def Lane.midDue (l : Lane) (nn : AxisId) : Bool :=
  let p := (l.axis nn).pwm
  l.carrierOn nn && !carrierVar (carrier (l.axisRec nn)) && !p.firstWait && p.length ≠ 0 && p.since % p.length = p.length / 2

/-- A period mid (R234, R282). -/
def Lane.axisMid (l : Lane) (nn : AxisId) : Lane :=
  if !l.midDue nn then l
  else ((l.event (4 * nn.val + 1) 0).takeSets nn 2).ssiEvent nn 1

/-- A phase is in a period of COT or COFT, in its fixed or its variable interval (R235). -/
def Lane.inPeriod (l : Lane) (nn : AxisId) (p : Phase) (fixed : Bool) : Bool :=
  l.carrierOn nn && carrierVar (carrier (l.axisRec nn)) && !(l.axis nn).pwm.firstWait && vget (l.axis nn).pwm.fixedInt p = fixed

/-- The fixed interval of a phase ends after t_fixed_ns and its variable interval begins (R235). -/
def Lane.axisFixedEnd (l : Lane) (nn : AxisId) (p : Phase) : Lane :=
  let w := (l.axis nn).pwm
  if !l.inPeriod nn p true || 5 * vget w.count p < tFixedNs (l.axisRec nn) then l
  else
    let l := l.onAxis nn fun a => { a with pwm := { a.pwm with
      fixedInt := vset a.pwm.fixedInt p false, varAt := vset a.pwm.varAt p (vget a.pwm.count p) } }
    let l := l.pwmDrive nn
    if p = 0 then ((l.event (4 * nn.val + 1) 0).takeSets nn 2).ssiEvent nn 1 else l

/-- t_limit_ns has elapsed since the period of a phase began: its next period starts (R235). -/
def Lane.axisLimit (l : Lane) (nn : AxisId) (p : Phase) : Lane :=
  if l.inPeriod nn p false && tLimitNs (l.axisRec nn) ≤ 5 * vget (l.axis nn).pwm.count p then l.varStart nn p else l

/-- A threshold comparator of a phase crosses its level: it ends the variable interval (R235, R289), or cuts a pulsed zero
vector (R335); too early a crossing is ignored. -/
def Lane.axisCross (l : Lane) (nn : AxisId) (p : Phase) : Lane :=
  let r := l.axisRec nn
  let w := (l.axis nn).pwm
  if l.inPeriod nn p false then
    (if minPulseNs r ≤ 5 * (vget w.count p - vget w.varAt p) then l.varStart nn p else l)
  else if l.carrierOn nn && zeroPulse r w && minPulseNs r ≤ 5 * w.since then
    (l.onAxis nn fun a => { a with pwm := { a.pwm with pulseCut := true } }).pwmDrive nn
  else l

/-! ### Masks (R217, R240) -/

/-- The mask of an axis is written; its effect passes R237 (R217, R239). The switches of a pulsed zero vector wait for the next
period start (R335). -/
def Lane.writeMask (l : Lane) (nn : AxisId) (m : BitVec 6) : Lane :=
  let r := l.axisRec nn
  (l.onAxis nn fun a => { a with pwm := { a.pwm with
    mask := m,
    pulseCut := a.pwm.pulseCut || (m ≠ a.pwm.mask && zeroPulse r { a.pwm with mask := m }) } }).pwmDrive nn

/-- A commutation event steps the mask table where MASK_TABLE is set (R240). -/
def Lane.commutate (l : Lane) (nn : AxisId) : Lane :=
  let r := l.axisRec nn
  if !maskTabled r || l.sys.halted then l
  else
    let n := max (maskSteps r) 1
    let i := if stepReverse r then ((l.axis nn).pwm.idx + n - 1) % n else ((l.axis nn).pwm.idx + 1) % n
    let l := l.onAxis nn fun a => { a with pwm := { a.pwm with idx := i } }
    l.writeMask nn (BitVec.ofNat 6 (maskTable r i))

/-- Commutation event 4 nn + 3 of an axis, with its step (R134, R240); none during a debug halt (R248). -/
def Lane.commutEvent (l : Lane) (nn : AxisId) (ctx : Nat) : Lane :=
  if l.sys.halted then l else (l.event (4 * nn.val + 3) ctx).commutate nn

/-- The PWM block takes what its axis's nodes have sent since the cycle before: COMMUT steps first, then the written mask
(R217); in a debug halt it waits (R248). -/
def Lane.takeMask (l : Lane) (nn : AxisId) : Lane :=
  if l.sys.halted then l
  else
    let p := (l.axis nn).pwm
    let l := l.onAxis nn fun a => { a with pwm := { a.pwm with maskReq := none, stepReq := 0 } }
    let l := each (List.range p.stepReq) (fun _ l => l.commutate nn) l
    match p.maskReq with
    | none => l
    | some m => l.writeMask nn m

/-! ### Dead time, interlock, trips (R237, R241 to R243) -/

/-- The dead time of a switch after its complement's off command ends: a waiting turn-on proceeds, in the block and in a
pattern (R237, R270). Counters stand still in a debug halt, the pattern's do not (R248). -/
def Lane.deadEnd (l : Lane) (nn : AxisId) (sw : Switch) : Lane :=
  if l.sys.halted && !l.patternHeld nn then l
  else
    let l := l.onAxis nn fun a =>
      let p := a.pwm
      let on := bit p.pendOn sw.val
      { a with pwm := { p with dead := bitPut p.dead sw.val false, pendOn := bitPut p.pendOn sw.val false,
                               cmd := if on then bitPut p.cmd sw.val true else p.cmd } }
    if l.patternHeld nn then l.driveGates nn else l

/-- The interlock sees both commands of a pair on: both off, each with its dead time, the pair held, latched and reported
(R237, R241). -/
def Lane.interlock (l : Lane) (nn : AxisId) (p : Phase) : Lane :=
  let hi := 2 * p.val
  let lo := 2 * p.val + 1
  let wait := deadOf (l.axisRec nn) p ≠ 0
  let l := l.onAxis nn fun a => { a with
    pwm := { a.pwm with dead := if wait then bitPut (bitPut a.pwm.dead hi true) lo true else a.pwm.dead,
                        cmd := bitPut (bitPut a.pwm.cmd hi false) lo false,
                        pendOn := bitPut (bitPut a.pwm.pendOn hi false) lo false, held := bitPut a.pwm.held p.val true },
    gate := { a.gate with cmd := bitPut (bitPut a.gate.cmd hi false) lo false, shoot := bitPut a.gate.shoot p.val true } }
  (l.autoOpen nn).fault (32 + 4 * nn.val + 2) (l.dev nn) p.val 0 0

/-- The release of a trip: every turn-on waits one full dead time from here (R243). -/
def Lane.tripRelease (l : Lane) (nn : AxisId) : Lane :=
  let r := l.axisRec nn
  let now := l.tm.loc
  l.onAxis nn fun a => { a with pwm := { a.pwm with
    relAt := some now,
    dead := each (idxs 6) (fun sw d => if deadOf r (phaseOf sw) ≠ 0 then bitPut d sw.val true else d) a.pwm.dead } }

/-- An axis after a change of its trip sources, given whether it was tripped before: an onset commands every switch off,
latches in LATCHED mode and reports source 117; in CYCLE mode the end of the sources releases (R242, R243). -/
def Lane.tripUpdate (l : Lane) (was : Bool) (nn : AxisId) : Lane :=
  if !was && l.tripSource nn then
    let latch := tripMode (l.axisRec nn) = 0
    let l := (l.pwmOff nn).onAxis nn fun a => { a with pwm := { a.pwm with latched := latch } }
    l.fault 117 (l.dev nn) 0 0 0
  else if was && !l.tripped nn then l.tripRelease nn
  else l

/-- An auxiliary output after a change of the trip inputs: a selected active one latches it off (R238, R247). -/
def Lane.auxTrip (l : Lane) (x : Fin 8) : Lane :=
  if auxTripMask (l.auxRec x) % 16 &&& l.afe.trips.toNat ≠ 0 then
    { l with aux := vmod l.aux x (fun u => { u with latched := true, cmd := false, carry := 0 }) }
  else l

/-- Every axis and auxiliary output after a change of trip sources that `f` makes. -/
def Lane.withTrips (l : Lane) (f : Lane → Lane) : Lane :=
  let n := f l
  let n := each (idxs 12) (fun nn x => x.tripUpdate (l.tripped nn) nn) n
  each (idxs 8) (fun x n => n.auxTrip x) n

/-- Every latched trip released, as a FAULT_CLEAR that returns OK does; the outputs wait for a period start (R243, R247). -/
def Lane.releaseTrips (l : Lane) : Lane :=
  let l := each (idxs 12) (fun nn l =>
    if (l.axis nn).pwm.latched then (l.onAxis nn fun a => { a with pwm := { a.pwm with latched := false } }).tripRelease nn
    else l) l
  let now := l.tm.loc
  { l with aux := l.aux.map fun (u : Aux) =>
      { u with latched := false, wait := u.wait || u.latched, relAt := if u.latched then some now else u.relAt } }

/-- An overcurrent window comparator of a phase changes (R288). -/
def Lane.overcurrent (l : Lane) (nn : AxisId) (p : Phase) (active : Bool) : Lane :=
  if !l.afe.running then l
  else l.withTrips fun l => l.onAxis nn fun a =>
    { a with sense := { a.sense with oc := bitPut a.sense.oc p.val active } }

/-! ### Auxiliary outputs (R246, R247) -/

/-- The lane with auxiliary output x changed. -/
def Lane.onAux (l : Lane) (x : Fin 8) (f : Aux → Aux) : Lane := { l with aux := vmod l.aux x f }

/-- Bit k of a payload, counted from bit 0 of byte 0 (R246). -/
def payloadBit (p : Bytes) (k : Nat) : Bool := bit (p.getD (k / 8) 0) (k % 8)

/-- The command of an auxiliary output at a period start; none keeps the present one (R246, R247). -/
def Lane.auxCommand (l : Lane) (x : Fin 8) : Option Bool :=
  let r := l.auxRec x
  let inv := natBit (auxFlags r) 0
  match auxSource r with
  | 1 =>
    let e := vget l.eps (fin (auxIndex r))
    if e.delivers then some (payloadBit (e.payload.getD []) (auxBit r) != inv)
    else if auxLoss r = 1 then none else some false
  | 2 => some ((vget l.inp.pairs (fin (auxIndex r))).value != inv)
  | _ => some false

/-- An auxiliary output's switch is wanted on now (R234, R235, R243, R247, R249). -/
def Lane.auxWant (l : Lane) (x : Fin 8) : Bool :=
  let u := vget l.aux x
  u.running && u.on && !u.latched && !u.wait && !l.auxOff &&
    match auxCarrier (l.auxRec x) with
    | 2 => u.fixedInt
    | 3 => !u.fixedInt
    | _ =>
      let t := auxPeriod (l.auxRec x)
      let e := gridInterval u.grid u.start u.width
      let pos : Int := 32 * (u.since % t : Nat)
      e.1 ≤ pos && pos < e.1 + e.2

/-- The command of an auxiliary output follows what is wanted; frozen in a debug halt (R248). -/
def Lane.auxDrive (l : Lane) (x : Fin 8) : Lane :=
  if l.sys.halted then l else let w := l.auxWant x; l.onAux x fun u => { u with cmd := w }

/-- A period of an auxiliary carrier starts: the command is sampled, an off-to-on change starts the pull-in, the level gives
the width or the threshold (R234 to R238, R247). A released output waits for a period that starts strictly after its release
(R243). -/
def Lane.auxStart (l : Lane) (x : Fin 8) : Lane :=
  let r := l.auxRec x
  let u := vget l.aux x
  if !u.running || l.sys.halted then l
  else
    let on := (l.auxCommand x).getD u.on && !l.auxOff
    let pulling := if on && !u.on then decide (pullMs r ≠ 0) else on && u.pulling
    let level := if pulling then levelPull r else levelHold r
    let duty : Rat := if on then mkRat level 65536 else 0
    let follow := on && !u.latched && !(u.wait && u.relAt = some l.tm.loc)
    let steps : Int := 32 * auxPeriod r
    let w := placeWidth duty steps (natBit (auxFlags r) 1 && follow) u.carry 0 (auxMinPulseNs r)
    let grid := l.newGrid
    let var := carrierVar (auxCarrier r)
    let now := l.tm.loc
    let l := (if l.afe.calGood then l else l.useFree).onAux x fun u => { u with
      firstWait := false, wait := u.wait && u.relAt = some now, since := 0, on := on, pulling := pulling, level := level, grid := grid,
      start := if var then 0 else placeStart (auxCarrier r) steps w.width, width := if var then 0 else w.width,
      carry := if follow then w.carry else u.carry, fixedInt := var, thr := mkRat level 65536 }
    l.auxDrive x

/-- A period of a CENTRE or EDGE auxiliary carrier starts in the present PWM cycle; its timebase is LOCAL with offset 0 (R229,
R247, R249). -/
def Lane.auxDue (l : Lane) (x : Fin 8) : Bool :=
  let u := vget l.aux x
  let t := auxPeriod (l.auxRec x)
  !carrierVar (auxCarrier (l.auxRec x)) && u.since ≠ 0 && if u.firstWait then l.tm.loc.toNat % (5 * t) = 0 else u.since % t = 0

/-- An auxiliary output is in a period of COT or COFT, in its fixed or its variable interval (R235). -/
def Lane.auxIn (l : Lane) (x : Fin 8) (fixed : Bool) : Bool :=
  let u := vget l.aux x
  u.running && !l.sys.halted && carrierVar (auxCarrier (l.auxRec x)) && u.fixedInt = fixed

/-- The fixed interval of an auxiliary output ends (R235). -/
def Lane.auxFixedEnd (l : Lane) (x : Fin 8) : Lane :=
  if l.auxIn x true && auxFixedNs (l.auxRec x) ≤ 5 * (vget l.aux x).since then
    (l.onAux x fun u => { u with fixedInt := false, varAt := u.since }).auxDrive x
  else l

/-- t_limit_ns has elapsed since the period of an auxiliary output began: the next one starts (R235). -/
def Lane.auxLimit (l : Lane) (x : Fin 8) : Lane :=
  if l.auxIn x false && auxLimitNs (l.auxRec x) ≤ 5 * (vget l.aux x).since then l.auxStart x else l

/-- The threshold comparator of an auxiliary output crosses its level (R235, R289). -/
def Lane.auxCross (l : Lane) (x : Fin 8) : Lane :=
  let u := vget l.aux x
  if l.auxIn x false && auxMinPulseNs (l.auxRec x) ≤ 5 * (u.since - u.varAt) then l.auxStart x else l

/-- One PWM cycle of an auxiliary carrier; it stands still in a debug halt (R248). In the cycle in which a period ends, the start
of the next one drives the output. -/
def Lane.auxTick (l : Lane) (x : Fin 8) : Lane :=
  let l := if l.sys.halted then l else l.onAux x fun u => { u with since := if u.running then u.since + 1 else u.since }
  if l.auxDue x && !(vget l.aux x).firstWait then l else l.auxDrive x

/-! ### Rows by carrier -/

/-- A period of a carrier starts where one is due; the three phases of a CENTRE or EDGE carrier share it (R234). -/
def Lane.periodStart (l : Lane) : CarrierId → Lane
  | .axis nn _ => l.axisPeriod nn
  | .aux x => if l.auxDue x then l.auxStart x else l

/-- The fixed interval of a carrier ends. -/
def Lane.fixedEnd (l : Lane) : CarrierId → Lane
  | .axis nn p => l.axisFixedEnd nn p
  | .aux x => l.auxFixedEnd x

/-- t_limit_ns has elapsed in a variable interval: the next period starts (R235). -/
def Lane.limitEnd (l : Lane) : CarrierId → Lane
  | .axis nn p => l.axisLimit nn p
  | .aux x => l.auxLimit x

/-- A threshold comparator crosses its level (R289). -/
def Lane.crossing (l : Lane) : CarrierId → Lane
  | .axis nn p => l.axisCross nn p
  | .aux x => l.auxCross x

/-! ### Debug halt (R65, R248) -/

/-- The lane is halted where its mode is WORKSHOP; the pair's window closes (R65, R248, R383). -/
def Lane.debugHalt (l : Lane) : Lane :=
  if l.sys.mode = .workshop then { l with sys := { l.sys with halted := true } }.pairHalt else l

/-! ### Meanings -/

/-- PERIOD_MID (R234, R282). -/
def execPeriodMid (l : LaneId) (nn : AxisId) (s : State) : Host.Outcome State Fault Refusal :=
  .next (s.onLane l fun x => x.axisMid nn)

/-- COT_FIXED_END (R235). -/
def execCotFixedEnd (l : LaneId) (c : CarrierId) (s : State) : Host.Outcome State Fault Refusal :=
  .next (s.onLane l fun x => x.fixedEnd c)

/-- DEAD_TIME_END (R237, R270). -/
def execDeadTimeEnd (l : LaneId) (nn : AxisId) (sw : Switch) (s : State) : Host.Outcome State Fault Refusal :=
  .next (s.onLane l fun x => x.deadEnd nn sw)

/-- The present periods after a calibration: their edges fall on their steps again after a good one, on the 5 ns grid after a failed
one, where they do not already (R228). -/
def Lane.regrid (l : Lane) (good : Bool) : Lane :=
  let n := l.freeNow
  let put (k : Nat) (g : Option Nat) : Option Nat := if good then none else some (g.getD (n / 64 ^ k % 64))
  { if good then l else l.useFree with
    ax := Vector.ofFn fun nn => { l.axis nn with pwm := { (l.axis nn).pwm with grid := put nn.val (l.axis nn).pwm.grid } },
    aux := Vector.ofFn fun x => { vget l.aux x with grid := put (12 + x.val) (vget l.aux x).grid } }

/-- DELAY_LINE_CALIBRATION (R228): a failed one is reported as source 23. -/
def execDelayLineCalibration (l : LaneId) (good : Bool) (s : State) : Host.Outcome State Fault Refusal :=
  .next (s.onLane l fun x =>
    let x := ({ x with afe := { x.afe with calGood := good } }).regrid good
    if good then x else x.fault 23 0xFF 0 0 0)

/-- SHOOT_THROUGH (R241). -/
def execShootThrough (l : LaneId) (nn : AxisId) (p : Phase) (s : State) : Host.Outcome State Fault Refusal :=
  .next (s.onLane l fun x => x.interlock nn p)

/-- TRIP_INPUT_CHANGE (R242, R243, R247). -/
def execTripInputChange (l : LaneId) (k : Fin 4) (active : Bool) (s : State) : Host.Outcome State Fault Refusal :=
  .next (s.onLane l fun x => x.withTrips fun x => { x with afe := { x.afe with trips := bitPut x.afe.trips k.val active } })

/-- AUX_PULL_END (R247). -/
def execAuxPullEnd (l : LaneId) (x : Fin 8) (s : State) : Host.Outcome State Fault Refusal :=
  .next (s.onLane l fun n =>
    if (vget n.aux x).pulling && !n.sys.halted then
      n.onAux x fun u => { u with pulling := false, level := levelHold (n.auxRec x) }
    else n)

/-- DEBUG_HALT (R65, R248). -/
def execDebugHalt (l : LaneId) (s : State) : Host.Outcome State Fault Refusal := .next (s.onLane l Lane.debugHalt)

/-- DEBUG_RESUME (R248). -/
def execDebugResume (l : LaneId) (s : State) : Host.Outcome State Fault Refusal :=
  .next (s.onLane l fun x => { x with sys := { x.sys with halted := false } })

/-- OVERCURRENT_COMPARATOR (R242, R288). -/
def execOvercurrentComparator (l : LaneId) (nn : AxisId) (p : Phase) (active : Bool) (s : State) :
    Host.Outcome State Fault Refusal :=
  .next (s.onLane l fun x => x.overcurrent nn p active)

/-- BUS_OVERVOLTAGE (R242, R290). -/
def execBusOvervoltage (l : LaneId) (active : Bool) (s : State) : Host.Outcome State Fault Refusal :=
  .next (s.onLane l fun x =>
    if x.afe.running then x.withTrips fun x => { x with afe := { x.afe with busOv := active } } else x)

end Sys2Proof.Machine
end

