-- ==== Sys2Proof/Machine/Issue.lean ====
section
/-! DEFINITION. Issue: the snapshot that an input node takes of its source at its issue cycle (R210 to R214), and the row
DISPATCH_CYCLE (R153 to R156, R177, R189). -/

namespace Sys2Proof.Machine

/-- The axis channel that operand C of a node names (R202). -/
def NodeCtx.axis (c : NodeCtx) : AxisId := channelOfAxis (nodeResource c.word)

/-- The endpoint that operand C names. -/
def NodeCtx.endpoint (c : NodeCtx) : Fin 512 := fin (nodeResource c.word)

/-! ### Snapshots (R210 to R214) -/

/-- The set an RD_ADC reads: the one whose completion triggered the run, else the newest (R211). -/
def Lane.adcSet (l : Lane) (nn : AxisId) (trig : Event) : Option AdcSet :=
  let done := (l.axis nn).sense.done
  (if trig.num.toNat = 4 * nn.val + 2 then done.find? fun (x : AdcSet) => x.set = trig.ctx.toNat else none).or done.head?

/-- One conversion of a set; an input that the set does not hold has no stated value: a free code (R211). -/
def adcElem (l : Lane) (s : AdcSet) (i : Fin 6) : Rat × Bool × Bool :=
  match (contentInputs s.content).idxOf? i with
  | some k => let x := s.codes.getD k (0, false); (mkRat x.1 8192, x.2, false)
  | none => (mkRat ((l.freeNow / 16384 ^ i.val % 16384 : Nat) - 8192) 8192, false, true)

/-- RD_ADC: zeros before the first set; overrange sets SAT (R211, R286). The third part says that a free code was needed. -/
def Lane.snapAdc (l : Lane) (c : NodeCtx) (trig : Event) : List Rat × BitVec 3 × Bool :=
  let ins := contentInputs (nodeOpt c.word % 4)
  match l.adcSet c.axis trig with
  | none => (ins.map fun _ => 0, 0, false)
  | some s =>
    let xs := ins.map (adcElem l s)
    (xs.map fun x => x.1, if xs.any fun x => x.2.1 then 1 else 0, xs.any fun x => x.2.2)

/-- The speed estimate of the angle source now, in mechanical rev/s (R212, R218, R311). -/
def Lane.angleSpeed (l : Lane) (nn : AxisId) : Rat :=
  if l.angleSrc nn = 1 && (l.axis nn).acc.valid then (l.axis nn).fb.speedAt (l.axisRec nn) l.tm.loc.toNat
  else (l.axis nn).acc.speed

/-- The status of an accumulator (R212). -/
def Lane.angleStatus (l : Lane) (nn : AxisId) : Rat :=
  if !(l.axis nn).acc.valid then -1
  else if l.angleSrc nn = 2 then 2
  else if (l.axis nn).fb.rev ≠ 0 then 1
  else 0

/-- RD_POS (R212). -/
def Lane.snapPos (l : Lane) (c : NodeCtx) : List Rat :=
  let nn := c.axis
  let r := l.axisRec nn
  let a := l.axis nn
  let v := l.angleSpeed nn
  let x := match nodeOpt c.word % 4 with
    | 0 => (wrapTurn (turnsOf a.acc.mech), v)
    | 1 => (wrapTurn (turnsOf (a.elec r)), v * polePairs r)
    | _ => (mkRat (toSigned 64 a.acc.mech) 4294967296, v)
  [x.1, x.2, l.angleStatus nn]

/-- One payload element in a format at a byte offset; bytes beyond the payload read 0 (R213). -/
def payloadElem (fmt : Nat) (p : Bytes) (off : Nat) : Rat :=
  match fmt with
  | 0 => mkRat (toSigned 16 (fieldAt p off 2)) 32768
  | 1 => mkRat (toSigned 32 (fieldAt p off 4)) 2147483648
  | _ => bfpValue (BitVec.ofNat 32 (fieldAt p off 4))

/-- The factor of a RAMP_ZERO profile: from 1 to 0 over ramp_ms (R105). -/
def Lane.rampFactor (l : Lane) (nn : AxisId) : Rat :=
  let a := l.axis nn
  let t := 1000000 * rampMs l.laneRec
  let dt := l.tm.loc.toNat - a.profileAt
  if a.rampDone || t ≤ dt then 0 else 1 - mkRat dt t

/-- What endpoint k delivers to a graph gated by an axis: payload, factor and status (R104 to R106, R213, R457, R459). Under
RAMP_ZERO it is what the axis's profile started from; under HOLD and GRAPH the last payload until the next valid PDU; a
withdrawn payload reads as no bytes. -/
def Lane.delivered (l : Lane) (gate : Nat) (k : Fin 512) : Bytes × Rat × Rat :=
  let e := vget l.eps k
  let last := e.payload.getD []
  let plain : Bytes × Rat × Rat :=
    if e.delivers then (last, 1, if e.st = .held || e.heldFlag || e.inHold then 1 else 0) else ([], 1, -1)
  match l.ownAxis gate with
  | none => plain
  | some nn =>
    match (l.axis nn).profile with
    | 2 => match (l.axis nn).atHold.lookup k.val with
      | some p => (p, l.rampFactor nn, 1)
      | none => ([], 1, -1)
    | 0 => plain
    | _ => if e.kept && e.st ≠ .closed then (last, 1, 1) else plain

/-- RD_PDU (R213). -/
def Lane.snapPdu (l : Lane) (c : NodeCtx) : List Rat :=
  let fmt := nodeOpt c.word % 4
  let stat := c.opt 2
  let d := l.delivered c.slot.gateAxis c.endpoint
  let n := c.len - b2n stat
  ((List.range n).map fun i => payloadElem fmt d.1 (c.imm + payloadSize fmt * i) * d.2.1) ++ if stat then [d.2.2] else []

/-- RD_TRIG: event, context, LATE, age at issue in µs (R214). -/
def Lane.snapTrig (l : Lane) (e : Event) : List Rat :=
  [e.num.toNat, e.ctx.toNat, b2n e.late, mkRat ((l.tm.loc.toNat : Int) - e.time.toNat) 1000]

/-- What the node of an issue takes from its source: elements, flags, whether a free code was needed; nothing for a node that
is no input node (R210). -/
def Lane.snapshot (l : Lane) (c : NodeCtx) (trig : Event) : List Rat × BitVec 3 × Bool :=
  match nodeOp c.word with
  | 0x90 => l.snapAdc c trig
  | 0x91 => (l.snapPos c, 0, false)
  | 0x92 => (l.snapPdu c, 0, false)
  | 0x93 => (l.snapTrig trig, 0, false)
  | 0x94 => ([c.slot.shown.toNat], 0, false)
  | _ => ([], 0, false)

/-! ### Issue (R155, R189) -/

/-- No event: what a job without a run would carry. -/
def Event.none : Event := { num := 0, ctx := 0, late := false, time := 0 }

/-- The node of an entry issued to unit x (R155, R189, R210). -/
def Lane.issueTo (l : Lane) (x : Fin 4) (e : Ready) : Lane :=
  let s := l.slot e.2.1
  let w := s.node e.2.2
  let run : Bool × Event := match s.run with | some r => (r.bank, r.trig) | none => (false, Event.none)
  let v := l.snapshot { slot := s, word := w, node := e.2.2, bank := run.1 } run.2
  (if v.2.2 then l.useFree else l).setUnit x (some
    { slot := e.2.1, node := e.2.2, left := nodeCycles w - 1, executed := false, orphan := false, bank := run.1, trig := run.2,
      snap := v.1, snapFlags := v.2.1 })

/-- The units that hold no node (R155). -/
def Lane.idleUnits (l : Lane) : List (Fin 4) := (idxs 4).filter fun x => (l.unit x).isNone

/-- Up to one node to each idle unit; what remains ready (R155). -/
def Lane.issue (l : Lane) (idle : List (Fin 4)) (rs : List Ready) : Lane × List Ready :=
  idle.foldl (fun acc x => match readyBest acc.2 with
    | none => acc
    | some e => (acc.1.issueTo x e, readyDrop e acc.2)) (l, rs)

/-! ### The dispatch cycle (R153) -/

/-- One cycle of the units' counts. -/
def Lane.ageUnits (l : Lane) : Lane :=
  { l with dsp := { l.dsp with units := l.dsp.units.map fun (u : Option UnitJob) => u.map fun (j : UnitJob) =>
      { j with left := j.left - 1 } } }

/-- GRAPH_STATUS bits 2:0 follow the nodes, with event 212 when they pass from all 0 to any 1 (R152, R177). -/
def Lane.showFlags (l : Lane) (k : Fin 64) : Lane :=
  let s := l.slot k
  let v := s.nodeFlags
  if v = s.shown then l
  else
    let l := l.onSlot k fun s => { s with shown := v }
    if s.shown = 0 then l.event 212 k.val else l

/-- Gamar's COEF_WRITE in progress reaches a word that nothing constrains: any number of its words are written (R57, R157). -/
def Lane.coefProgress (l : Lane) : Lane :=
  match l.hp.coefJobs with
  | [] => l
  | j :: js =>
    let n := l.freeBelow (j.rest.length + 1)
    let l := l.useFree.coefWords j n
    { l with hp := { l.hp with coefJobs := { j with done := j.done + n, rest := j.rest.drop n } :: js } }

/-- One dispatch cycle in the order of R153: it first ends the completions of the cycle before that had no row of their own,
then come the flags those completions show, pending and arriving triggers with their bank samples, and issue. A node occupies
its unit through its completion cycle (R189). Starts and stops are commands of their own. A stopped axis-engine clock stops all
of it (R163, R201). -/
def Lane.dispatch (l : Lane) : Lane :=
  if !l.engineOk then l
  else
    let l := each (idxs 4) (fun x l => l.complete x) l
    let l := each (idxs 64) (fun k l => l.showFlags k) l
    let entering := l.dsp.fresh
    let events := l.dsp.events.filter l.ripe
    let came := l.dsp.entered
    let l := { l.ageUnits with dsp := { l.ageUnits.dsp with
      fresh := [], entered := [], events := l.dsp.events.filter fun e => !l.ripe e, setNow := [], cycle := l.dsp.cycle + 1 } }
    let (l, src) := (idxs 64).foldl (fun acc k => let r := acc.1.releaseDue k; (r.1, acc.2 ++ r.2)) (l, came)
    let (l, src) := events.foldl (fun acc e => let r := acc.1.triggerAll e; (r.1, acc.2 ++ r.2)) (l, src)
    let l := l.checkReserves (l.dsp.ready ++ src ++ entering)
    let src := readySort (l.liveEntries src)
    let entering := l.liveEntries entering
    let old := l.dsp.ready
    let (l, left) := l.issue l.idleUnits (old ++ src)
    let oldLeft := left.filter fun r => old.contains r
    let srcLeft := left.filter fun r => !old.contains r
    { l with dsp := { l.dsp with ready := oldLeft ++ readySort (srcLeft ++ entering) } }.coefProgress

/-- DISPATCH_CYCLE (R153 to R156, R177, R210). -/
def execDispatchCycle (l : LaneId) (s : State) : Host.Outcome State Fault Refusal := .next (s.onLane l Lane.dispatch)

end Sys2Proof.Machine
end

