-- ==== Sys2Proof/Machine/IoNodes.lean ====
section
/-! DEFINITION. Input, output and scheduling nodes of the axis engine (R202 to R227): the rows from RD_ADC to EMIT_RAISE, with the
coordinator exchange (R343 to R345) and the posting of checkpoints (R347, R348). -/

namespace Sys2Proof.Machine

/-- An element read as an integer within bounds: nearest even, clipped with SAT (R173, R204). -/
def intWithin (q : Rat) (lo hi : Int) : Int × BitVec 3 :=
  let v := roundEven q
  if v < lo then (lo, 1) else if hi < v then (hi, 1) else (v, 0)

/-! ### Input nodes (R210 to R214) -/

/-- An input node delivers the snapshot it took of its source at its issue cycle, with the flags that came with it (R210). -/
def ioInput (l : Lane) (j : UnitJob) (_c : NodeCtx) : Lane × Calc :=
  (l, { out := j.snap.map Elem.of, st := [], flags := j.snapFlags })

/-! ### Output nodes (R215 to R224) -/

/-- WR_DUTY: the three shadows as one unit, clipped to 0 to 1 with SAT; the first one after step 5 of a takeover lets its
outputs begin (R216, R353). -/
def ioWrDuty (l : Lane) (_j : UnitJob) (c : NodeCtx) : Lane × Calc :=
  let xs := c.operand 0 3
  let ys := xs.map fun x => clamp x 0 1
  let l := l.onAxis c.axis fun a => { a with
    pwm := { a.pwm with shadow := Vector.ofFn fun p : Fin 3 => ys.getD p.val 0 },
    red := { a.red with takeover := a.red.takeover.map fun (t : Takeover) => { t with duty := t.duty || t.role } } }
  (l, { out := ys.map Elem.of, st := [], flags := if xs = ys then 0 else 1 })

/-- WR_MASK: the mask crosses into the PWM block, which takes it in its next cycle; a value outside 0 to 63 is an undefined
point and leaves the mask (R217). -/
def ioWrMask (l : Lane) (_j : UnitJob) (c : NodeCtx) : Lane × Calc :=
  let v := roundEven (c.one 0)
  if 0 ≤ v && v ≤ 63 then
    (l.onAxis c.axis fun a => { a with pwm := { a.pwm with maskReq := some (BitVec.ofInt 6 v) } }, Calc.pure [Elem.of v])
  else (l, Calc.pure [Elem.bad (l.axis c.axis).pwm.mask.toNat])

/-- COMMUT: event 4 nn + 3 with context 0, none during a debug halt; it steps the mask table in the PWM block's next cycle
(R217, R240, R248). -/
def ioCommut (l : Lane) (_j : UnitJob) (c : NodeCtx) : Lane × Calc :=
  (if l.sys.halted then l
   else (l.event (4 * c.axis.val + 3) 0).onAxis c.axis fun a => { a with pwm := { a.pwm with stepReq := a.pwm.stepReq + 1 } },
   Calc.pure [Elem.of 0])

/-- WR_ANGLE (R218, R326, R327). -/
def ioWrAngle (l : Lane) (_j : UnitJob) (c : NodeCtx) : Lane × Calc :=
  let xs := c.operand 0 2
  (l.writeAngle c.axis (xs.getD 0 0) (xs.getD 1 0), Calc.pure (xs.map Elem.of))

/-- A value in a payload format: its bytes, the value they stand for, whether it was clipped (R213, R219). -/
def payloadCode (fmt : Nat) (q : Rat) : Bytes × Rat × BitVec 3 :=
  match fmt with
  | 0 => let v := intWithin (q * 32768) (-32768) 32767; (leBytes 2 (ofSigned 16 v.1), mkRat v.1 32768, v.2)
  | 1 =>
    let v := intWithin (q * 2147483648) (-2147483648) 2147483647
    (leBytes 4 (ofSigned 32 v.1), mkRat v.1 2147483648, v.2)
  | _ => let w := (stateWord 0 (Encl.of q)).1; (leBytes 4 w.toNat, q, 0)

/-- Bytes written into a staging buffer of n bytes; those past its end are discarded (R219). -/
def stagePayload (n : Nat) (old : Bytes) (off : Nat) (new : Bytes) : Bytes := (putAt (slice old 0 n) off new).take n

/-- WR_PDU on a producer endpoint; SEND completes the staged payload (R219, R456). -/
def Lane.writePdu (l : Lane) (e : Fin 512) (off : Nat) (data : Bytes) (send : Bool) : Lane :=
  let r := l.connRec e
  if connRole r ≠ 1 then l
  else l.onEp e fun x =>
    let st := stagePayload (connLength r) x.staging off data
    let x := { x with staging := st }
    if send then
      { x with complete := some st, stale := false, st := if x.st = .waiting || x.st = .stale then .running else x.st }
    else x

/-- WR_PDU (R219). -/
def ioWrPdu (l : Lane) (_j : UnitJob) (c : NodeCtx) : Lane × Calc :=
  let xs := (c.operand 0 c.len).map (payloadCode (nodeOpt c.word % 4))
  (l.writePdu c.endpoint c.imm (xs.flatMap fun x => x.1) (c.opt 2),
    { out := xs.map fun x => Elem.of x.2.1, st := [], flags := xs.foldl (fun v x => v ||| x.2.2) 0 })

/-- EMIT: at most 16 requests wait, the oldest is dropped (R220). -/
def ioEmit (l : Lane) (_j : UnitJob) (c : NodeCtx) : Lane × Calc :=
  let v := intWithin (c.one 0) 0 65535
  let q := l.dsp.emits ++ [(c.imm % 16, BitVec.ofInt 16 v.1)]
  ({ l with dsp := { l.dsp with emits := q.drop (q.length - 16) } },
    { out := [Elem.of v.1], st := [], flags := v.2 })

/-- CKPT: acts for a duplex-active axis, whose run then carries the request with its digest (R221). -/
def ioCkpt (l : Lane) (j : UnitJob) (c : NodeCtx) : Lane × Calc :=
  let xs := c.operand 0 c.len
  let digest := xs.map fun x => (stateWord 0 (Encl.of x)).1
  let l := if (l.axis c.axis).role = .duplexActive && !j.orphan then
      l.onSlot j.slot fun s => { s with run := s.run.map fun (r : Run) => { r with ckpt := r.ckpt ++ [(c.axis, j.node, digest)] } }
    else l
  (l, Calc.pure (xs.map Elem.of))

/-- FLAGCLR: the sticky flags of every node of the graph are cleared, but for those that nodes completing in the same dispatch
cycle set (R176, R224). -/
def ioFlagclr (l : Lane) (j : UnitJob) (_c : NodeCtx) : Lane × Calc :=
  let kept (k : Nat) : BitVec 3 := l.dsp.setNow.foldl (fun v x => if x.1 = j.slot && x.2.1 = k then v ||| x.2.2 else v) 0
  let clear (s : Slot) : Slot := { s with state := (List.range s.nodes.length).foldl (fun st k =>
    let b := nodeState (s.node k)
    let h := s.stateAt b
    st.set b ((h &&& 0xFFF8FFFF) ||| BitVec.ofNat 32 ((hdrFlags h &&& kept k).toNat * 65536))) s.state }
  (l.onSlot j.slot clear, Calc.pure [Elem.of 0])

/-! ### The coordinator exchange (R223, R343 to R345) -/

/-- The values of a partner member that are present: fresh, without OBSERVING or EXCLUDED, not dropped (R223, R343, R344). -/
def Lane.partnerPresent (l : Lane) (nn : AxisId) (maxAgeUs : Nat) (k : LaneId) : Option (List Rat) :=
  let d := (l.axis nn).red
  match vget d.partner k with
  | none => none
  | some v =>
    if maxAgeUs ≠ 0 && l.tm.loc.toNat - v.time ≤ 1000 * maxAgeUs && !v.observing && !v.excluded && !bit d.dropped k.val
    then some v.vals else none

/-- The middle of three numbers. -/
def median3 (a b c : Rat) : Rat := rmax (rmin a b) (rmin (rmax a b) c)

/-- The largest absolute difference of two rows over n elements. -/
def rowGap (n : Nat) (a b : List Rat) : Rat :=
  (List.range n).foldl (fun m i => rmax m (rabs (a.getD i 0 - b.getD i 0))) 0

/-- What a COORD execution finds: the selection, the member out of band among own (0) and the partners (1, 2), DISAGREE, and
whether the own value is in band for an observation (R223, R343, R344). -/
structure CoordView where
  sel : List Rat
  out : Option Nat
  disagree : Bool
  inBand : Bool
  deriving DecidableEq, Repr

/-- The view with both partners' values. -/
def coordThree (n : Nat) (tol : Rat) (own a b : List Rat) : CoordView :=
  let med := (List.range n).map fun i => median3 (own.getD i 0) (a.getD i 0) (b.getD i 0)
  let d0 := rowGap n own med
  let d1 := rowGap n a med
  let d2 := rowGap n b med
  let top := rmax d0 (rmax d1 d2)
  let tied := b2n (d0 = top) + b2n (d1 = top) + b2n (d2 = top) ≠ 1
  { sel := med, inBand := d0 ≤ tol, disagree := tol < top && tied,
    out := if top ≤ tol || tied then none else if d0 = top then some 0 else if d1 = top then some 1 else some 2 }

/-- The view with one partner's values. -/
def coordTwo (n : Nat) (tol : Rat) (own a : List Rat) : CoordView :=
  let far := tol < rowGap n own a
  { sel := (List.range n).map fun i => (own.getD i 0 + a.getD i 0) / 2, out := none, disagree := far, inBand := !far }

/-- The view alone (R100). -/
def coordOne (own : List Rat) : CoordView := { sel := own, out := none, disagree := false, inBand := true }

/-- The view of what is present. -/
def coordView (n : Nat) (tol : Rat) (own : List Rat) (pa pb : Option (List Rat)) : CoordView :=
  match pa, pb with
  | some a, some b => coordThree n tol own a b
  | some a, none => coordTwo n tol own a
  | none, some b => coordTwo n tol own b
  | none, none => coordOne own

/-- The counts of a member after an execution: one more for the member out of band, 0 for every other present one (R344). -/
def coordCounts (c : Vector Nat 3) (ks : List LaneId) (present : List Bool) (out : Option Nat) : Vector Nat 3 :=
  each ((ks.zip present).zip (List.range ks.length)) (fun x c =>
    if out = some x.2 then vset c x.1.1 (satInc (vget c x.1.1) 255) else if x.1.2 then vset c x.1.1 0 else c) c

/-- A member excludes itself: EXCLUDED, source 118 with its reaction, safe state, event 200 (R344, R366). -/
def Lane.excludeSelf (l : Lane) (nn : AxisId) : Lane :=
  let l := l.onAxis nn fun a => { a with red := { a.red with excluded := true } }
  ((l.fault 118 (l.dev nn) 0 0 0).enterSafe nn).event 200 (l.dev nn)

/-- A member stops using a partner's values: event 200 with the partner's device axis (R344). -/
def Lane.excludePartner (l : Lane) (nn : AxisId) (k : LaneId) (a : Nat) : Lane :=
  (l.onAxis nn fun x => { x with red := { x.red with
    dropped := bitPut x.red.dropped k.val true, flagged := bitPut x.red.flagged k.val false,
    counts := vset x.red.counts k 0 } }).event 200 a

/-- One period of an observation: in band counts down, out of band starts again; at the end the bridges are enabled where
R267, R286 and R290 allow it (R109, R344). -/
def Lane.observe (l : Lane) (nn : AxisId) (inBand : Bool) : Lane :=
  match (l.axis nn).red.observing with
  | none => l
  | some n =>
    if !inBand then l.onAxis nn fun a => { a with red := { a.red with observing := some (rejoinObserve l.laneRec) } }
    else if 1 < n then l.onAxis nn fun a => { a with red := { a.red with observing := some (n - 1) } }
    else
      let l := l.onAxis nn fun a => { a with red := { a.red with observing := none, probation := false } }
      if l.canEnable nn then l.enableOutputs nn else l.enterSafe nn

/-- What the counts of R344 lead to; an INCONSISTENT group excludes no member (R342). -/
def Lane.coordExclude (l : Lane) (nn : AxisId) (ps : List Nat) (out : Option Nat) : Lane :=
  let r := l.axisRec nn
  let d := (l.axis nn).red
  if d.incons then l
  else match out with
    | none => l
    | some 0 => if triCount r ≤ vget d.counts l.idx then l.excludeSelf nn else l
    | some m =>
      let a := ps.getD (m - 1) 0
      if triCount r ≤ vget d.counts (axisLane a) then l.excludePartner nn (axisLane a) a else l

/-- COORD on the lane: posts the own values, answers the selection, judges; in single-lane mode with its own value alone (R100,
R223, R342 to R345). -/
def Lane.coordinate (l : Lane) (nn : AxisId) (own : List Rat) (maxAgeUs : Nat) : Lane × List Rat :=
  let r := l.axisRec nn
  let d := (l.axis nn).red
  let busy := d.observing.isSome || d.excluded
  let ps := peersOf r
  let l := l.sendPeers r 0 (.coord (l.dev nn) d.observing.isSome d.excluded own)
  let got := ps.map fun a => if l.singleLane then none else l.partnerPresent nn maxAgeUs (axisLane a)
  let tol := bfpValue (BitVec.ofNat 32 (triTol r))
  let v := coordView own.length tol own (got.getD 0 none) (got.getD 1 none)
  let out := if v.out = some 0 && busy then none else v.out
  let counts := coordCounts d.counts (l.idx :: ps.map axisLane) ((!busy) :: got.map Option.isSome) out
  let l := l.onAxis nn fun a => { a with red := { a.red with disagree := v.disagree, counts := counts } }
  ((l.coordExclude nn ps out).observe nn v.inBand, v.sel)

/-- COORD: max_age is the word of operand B read whole (R223). -/
def ioCoord (l : Lane) (_j : UnitJob) (c : NodeCtx) : Lane × Calc :=
  let r := l.coordinate c.axis (c.operand 0 c.len) (c.coefWord (nodeDesc c.word 1) 0).toNat
  (r.1, Calc.pure (r.2.map Elem.of))

/-! ### Scheduling nodes (R225, R226) -/

/-- The outcome of a node's previous request: 0 or -1 (R226). -/
def replyOf (s : Slot) (node : Nat) : Rat :=
  match s.replies.find? fun x => x.1 = node with
  | some (_, false) => -1
  | _ => 0

/-- An offset as a key step of its source (R225). -/
def keyStep (src : Nat) (v : Rat) : Int := roundEven (v * if srcAngle src then 65536 else 1000)

/-- Where a request's key starts. -/
inductive KeyBase where
  | present
  | at (key : Int)
  | bad
  deriving DecidableEq, Repr

/-- The base of a request (R225): the trigger's time stamp becomes global time by the present difference of the two times. -/
def Lane.keyBase (l : Lane) (j : UnitJob) (c : NodeCtx) (src : Nat) : KeyBase :=
  match nodeOpt c.word % 4 with
  | 0 => .present
  | 1 =>
    if srcAngle src then .bad
    else if src = 0 then .at ((j.trig.time + (l.tm.glob - l.tm.loc)).toNat) else .at j.trig.time.toNat
  | _ => if srcAngle src then .at 0 else .bad

/-- The node of a job sends a request to list d (R226). -/
def Lane.dlSend (l : Lane) (j : UnitJob) (d : Fin 16) (q : DlReq) : Lane :=
  l.onDl d fun x => { x with inflight := insertReq (l.reqKey j, q) x.inflight }

/-- DL_INSERT (R225, R226). DESIGN CHOICE: a list whose record failed (R80) takes entries under the Default column, its Almanac status
EXCLUDED all the same: the spec names no safe state of a list (notes/assumptions/81.md). -/
def ioDlInsert (l : Lane) (j : UnitJob) (c : NodeCtx) : Lane × Calc :=
  let d : Fin 16 := fin (nodeResource c.word)
  let xs := c.operand 0 2
  let step := keyStep (l.dlSrc d) (xs.getD 0 0)
  let tag := intWithin (xs.getD 1 0) 0 65535
  let t := BitVec.ofInt 16 tag.1
  let who := some (j.slot.val, j.node)
  let was := replyOf c.slot j.node
  match l.keyBase j c (l.dlSrc d) with
  | .present => (l.dlSend j d (.insertRel step t who), { out := [Elem.of was], st := [], flags := tag.2 })
  | .at k => (l.dlSend j d (.insertAbs (k + step) t who), { out := [Elem.of was], st := [], flags := tag.2 })
  | .bad => (l, { out := [Elem.bad was], st := [], flags := tag.2 })

/-- DL_CANCEL (R128, R226). -/
def ioDlCancel (l : Lane) (j : UnitJob) (c : NodeCtx) : Lane × Calc :=
  let tag := intWithin (c.one 0) 0 65535
  (l.dlSend j (fin (nodeResource c.word)) (.cancel (BitVec.ofInt 16 tag.1) (some (j.slot.val, j.node))),
    { out := [Elem.of (replyOf c.slot j.node)], st := [], flags := tag.2 })

/-- The node of a job sends a request to compare unit u (R226). -/
def Lane.cuSend (l : Lane) (j : UnitJob) (u : Fin 24) (q : CmpReq) : Lane :=
  l.onCu u fun x => { x with inflight := insertReq (l.reqKey j, q) x.inflight }

/-- CMP_ARM (R225, R226). DESIGN CHOICE: a unit whose record failed (R80) is armed under the Default column, its Almanac status
EXCLUDED all the same: the spec names no safe state of a unit (notes/assumptions/81.md). -/
def ioCmpArm (l : Lane) (j : UnitJob) (c : NodeCtx) : Lane × Calc :=
  let u : Fin 24 := fin (nodeResource c.word)
  let src := cmpSource (l.cmpRec u)
  let step := keyStep src (c.one 0)
  let who := some (j.slot.val, j.node)
  let was := replyOf c.slot j.node
  match l.keyBase j c src with
  | .present => (l.cuSend j u (.armRel step who), Calc.pure [Elem.of was])
  | .at k => (l.cuSend j u (.armAbs (k + step) who), Calc.pure [Elem.of was])
  | .bad => (l, Calc.pure [Elem.bad was])

/-- CMP_DISARM (R226). -/
def ioCmpDisarm (l : Lane) (j : UnitJob) (c : NodeCtx) : Lane × Calc :=
  (l.cuSend j (fin (nodeResource c.word)) .disarm, Calc.pure [Elem.of (replyOf c.slot j.node)])

/-! ### After the run (R220, R221, R347, R348) -/

/-- The record of a checkpoint (R347). -/
def ckptRecord (axis n dlen flags seq time : Nat) (digest values : List W32) : Bytes :=
  let words (ws : List W32) (k : Nat) : Bytes := slice ((ws.take k).flatMap fun w => leBytes 4 w.toNat) 0 (4 * k)
  let b := leBytes 1 axis ++ leBytes 1 n ++ leBytes 1 dlen ++ leBytes 1 flags ++ leBytes 4 seq ++ leBytes 8 time ++
    words digest 8 ++ words values 32 ++ List.replicate 8 0 ++ leBytes 4 seq
  b ++ leBytes 4 (crc32c b)

/-- The words a CKPT node gathers, as they stand (R221). -/
def Slot.gather (s : Slot) (node : Nat) : List W32 :=
  let w := s.node node
  let d := nodeDesc w 1
  (List.range (nodeImm w % 64)).map fun i => s.stateAt ((s.coef.getD (d.index + i) 0).toNat % 65536)

/-- One recorded checkpoint request of a completed run is posted towards the standby's lane with the next sequence; none in
SHUTDOWN, from a member that is no longer active, or towards a lost lane (R96, R221, R347, R348, R354, R361). -/
def Lane.postOne (l : Lane) (k : Fin 64) (q : AxisId × Nat × List W32) : Lane :=
  let nn := q.1
  let digest := q.2.2
  let values := (l.slot k).gather q.2.1
  let r := l.axisRec nn
  let d := (l.axis nn).red
  let dst := axisLane (peer0 r)
  if l.sys.mode = .shutdown || (l.axis nn).role ≠ .duplexActive || (vget l.links dst).line = .r01 then l
  else
    let seq := d.ckptSeq + 1
    let final := d.planned = .armed
    let rec' := ckptRecord (l.dev nn) values.length digest.length (b2n final) seq.toNat l.tm.glob.toNat digest values
    let l := l.onAxis nn fun a => { a with red := { a.red with
      ckptSeq := seq, planned := if final then .posted 0 else a.red.planned } }
    l.sendLink dst 1 (.checkpoint (peer0 r) rec')

/-- Every checkpoint that a completed run of slot k has recorded is posted, in the order of the requests (R221). -/
def Lane.postCkpt (l : Lane) (k : Fin 64) : Lane :=
  each (l.slot k).ckptDue (fun q l => l.postOne k q) (l.onSlot k fun s => { s with ckptDue := [] })

/-- Gamar takes the oldest EMIT request: event 240 + k where emit_enable has its bit, otherwise nothing (R220). -/
def Lane.emitRaise (l : Lane) : Lane :=
  if !l.gamarRuns then l
  else match l.dsp.emits with
    | [] => l
    | e :: es =>
      let l := { l with dsp := { l.dsp with emits := es } }
      if natBit (emitEnable l.laneRec) e.1 then l.event (240 + e.1) e.2.toNat else l

/-! ### Meanings -/

/-- RD_ADC (R211). -/
def execRdAdc (l : LaneId) (x : Fin 4) (s : State) : Host.Outcome State Fault Refusal := s.nodeIo l x 0x90 ioInput
/-- RD_POS (R212). -/
def execRdPos (l : LaneId) (x : Fin 4) (s : State) : Host.Outcome State Fault Refusal := s.nodeIo l x 0x91 ioInput
/-- RD_PDU (R213). -/
def execRdPdu (l : LaneId) (x : Fin 4) (s : State) : Host.Outcome State Fault Refusal := s.nodeIo l x 0x92 ioInput
/-- RD_TRIG (R214). -/
def execRdTrig (l : LaneId) (x : Fin 4) (s : State) : Host.Outcome State Fault Refusal := s.nodeIo l x 0x93 ioInput
/-- RD_FLAGS (R214). -/
def execRdFlags (l : LaneId) (x : Fin 4) (s : State) : Host.Outcome State Fault Refusal := s.nodeIo l x 0x94 ioInput
/-- WR_DUTY (R216). -/
def execWrDuty (l : LaneId) (x : Fin 4) (s : State) : Host.Outcome State Fault Refusal := s.nodeIo l x 0xA0 ioWrDuty
/-- WR_MASK (R217). -/
def execWrMask (l : LaneId) (x : Fin 4) (s : State) : Host.Outcome State Fault Refusal := s.nodeIo l x 0xA1 ioWrMask
/-- COMMUT (R217). -/
def execCommut (l : LaneId) (x : Fin 4) (s : State) : Host.Outcome State Fault Refusal := s.nodeIo l x 0xA2 ioCommut
/-- WR_ANGLE (R218). -/
def execWrAngle (l : LaneId) (x : Fin 4) (s : State) : Host.Outcome State Fault Refusal := s.nodeIo l x 0xA3 ioWrAngle
/-- WR_PDU (R219). -/
def execWrPdu (l : LaneId) (x : Fin 4) (s : State) : Host.Outcome State Fault Refusal := s.nodeIo l x 0xA4 ioWrPdu
/-- EMIT (R220). -/
def execEmit (l : LaneId) (x : Fin 4) (s : State) : Host.Outcome State Fault Refusal := s.nodeIo l x 0xA5 ioEmit
/-- CKPT (R221). -/
def execCkpt (l : LaneId) (x : Fin 4) (s : State) : Host.Outcome State Fault Refusal := s.nodeIo l x 0xA6 ioCkpt
/-- COORD (R223). -/
def execCoord (l : LaneId) (x : Fin 4) (s : State) : Host.Outcome State Fault Refusal := s.nodeIo l x 0xA7 ioCoord
/-- FLAGCLR (R224). -/
def execFlagclr (l : LaneId) (x : Fin 4) (s : State) : Host.Outcome State Fault Refusal := s.nodeIo l x 0xA8 ioFlagclr
/-- DL_INSERT (R225). -/
def execDlInsert (l : LaneId) (x : Fin 4) (s : State) : Host.Outcome State Fault Refusal := s.nodeIo l x 0xB0 ioDlInsert
/-- DL_CANCEL (R225). -/
def execDlCancel (l : LaneId) (x : Fin 4) (s : State) : Host.Outcome State Fault Refusal := s.nodeIo l x 0xB1 ioDlCancel
/-- CMP_ARM (R225, R226). -/
def execCmpArm (l : LaneId) (x : Fin 4) (s : State) : Host.Outcome State Fault Refusal := s.nodeIo l x 0xB2 ioCmpArm
/-- CMP_DISARM (R226). -/
def execCmpDisarm (l : LaneId) (x : Fin 4) (s : State) : Host.Outcome State Fault Refusal := s.nodeIo l x 0xB3 ioCmpDisarm

/-- CKPT_POST (R221, R347, R348). -/
def execCkptPost (l : LaneId) (k : Fin 64) (s : State) : Host.Outcome State Fault Refusal :=
  .next (s.onLane l fun x => x.postCkpt k)

/-- EMIT_RAISE (R220). -/
def execEmitRaise (l : LaneId) (s : State) : Host.Outcome State Fault Refusal := .next (s.onLane l Lane.emitRaise)

end Sys2Proof.Machine
end

