-- ==== Sys2Proof/Machine/Endpoints.lean ====
section
/-! DEFINITION. Safety connections (R446 to R461): PDUs and containers, consumers, producers, opening and closing; the rows
CONN_STATUS, CONN_OPEN, CONN_CLOSE, CONN_WATCHDOG_EXPIRE and PRODUCER_STALE. -/

namespace Sys2Proof.Machine

/-! ### Fields (R450) -/

def connAuto (r : Bytes) : Bool := natBit (connFlags r) 0

/-- State of an endpoint as CONN_STATUS reports it (R456). -/
def epCode : EpState → Nat
  | .closed => 0 | .waiting => 1 | .running => 2 | .failed => 3 | .held => 4 | .stale => 5

/-- Endpoint e. -/
def Lane.ep (l : Lane) (e : Fin 512) : Endpoint := vget l.eps e

/-- A 32-bit counter that stays at its largest value (R456). -/
def sat32 (v : W32) (n : Nat) : W32 := BitVec.ofNat 32 (min (v.toNat + n) 0xFFFFFFFF)

/-- A counter of an endpoint: 0 ACCEPTED or SENT, 1 CRC, 2 SEQUENCE, 3 LOST, 4 TIME, 5 OTHER (R456). -/
def Endpoint.count (x : Endpoint) (k : Fin 6) (n : Nat) : Endpoint := { x with counters := vmod x.counters k (fun v => sat32 v n) }

/-- Source 104 with the endpoint as index (R457). -/
def Lane.connFault (l : Lane) (e : Fin 512) : Lane := l.fault 104 0xFF 0 e.val 0

/-! ### PDUs (R446 to R449) -/

/-- The crc of a PDU: over the two identities, its 12 header bytes and its payload (R447). -/
def pduCrc (r head payload : Bytes) : Nat := crc32c (leBytes 4 (producerId r) ++ leBytes 4 (consumerId r) ++ head ++ payload)

/-- Bytes that a PDU of a payload length takes in a container (R449). -/
def pduSize (n : Nat) : Nat := (16 + n + 3) / 4 * 4

/-- Offsets of the PDUs of a container, at most `n` (R449). -/
def pduOffsets (c : Bytes) (o : Nat) : Nat → List Nat
  | 0 => []
  | n + 1 =>
    if c.length < o + 20 || fieldAt c o 2 = 0 then [] else o :: pduOffsets c (o + pduSize (fieldAt c (o + 8) 1)) n

/-! ### Consuming (R453 to R459) -/

/-- What a consumer finds of one PDU. -/
inductive PduVerdict where
  /-- discarded, under the counter of R456 -/
  | discard (k : Fin 6)
  /-- accepted -/
  | accept
  deriving DecidableEq, Repr

/-- Steps 1 to 3 of R453 for the PDU at offset `o` of a container: the counter of the first failure. -/
def pduForm (r c : Bytes) (o : Nat) : Option (Fin 6) :=
  let n := fieldAt c (o + 8) 1
  let flags := fieldAt c (o + 9) 1
  let ver := fieldAt c (o + 10) 1 % 16
  if c.length < o + 16 + n || n ≠ connLength r then some 5
  else if fieldAt c (o + 12 + n) 4 ≠ pduCrc r (slice c o 12) (slice c (o + 12) n) then some 1
  else if ver < verMin r || verMax r < ver || (ver = 1 && (64 < n || natBit flags 1)) || flags / 4 ≠ 0 ||
    fieldAt c (o + 11) 1 ≠ 0 then some 5
  else none

/-- Step 4 (R454): whether the sequence passes, and the PDUs it shows as lost. -/
def seqCheck (last : Option W16) (restart : Bool) (q : Nat) : Bool × Nat :=
  match last with
  | none => (true, 0)
  | some p =>
    let d := (q + 65536 - p.toNat) % 65536
    if restart then (true, 0) else if 1 ≤ d && d ≤ 32767 then (true, d - 1) else (false, 0)

/-- Step 5 (R455): the age at the arrival time in ns. -/
def Lane.ageOk (l : Lane) (r : Bytes) (t : Int) (stamp : Nat) : Bool :=
  let age := toSigned 32 (ofSigned 32 (t / 1000 - stamp))
  l.tm.sync = .synced && -10 ≤ age && age ≤ maxAgeUs r

/-- The PDU at offset `o` checked by endpoint e, with what step 4 adds to LOST. -/
def Lane.pduCheck (l : Lane) (e : Fin 512) (c : Bytes) (o : Nat) (t : Int) : PduVerdict × Nat :=
  let r := l.connRec e
  match pduForm r c o with
  | some k => (.discard k, 0)
  | none =>
    let s := seqCheck (l.ep e).seq (natBit (fieldAt c (o + 9) 1) 0) (fieldAt c (o + 2) 2)
    if !s.1 then (.discard 2, 0)
    else if l.ageOk r t (fieldAt c (o + 4) 4) then (.accept, s.2) else (.discard 4, s.2)

/-- The record of an accepted PDU: counter, sequence, version, offer, PRODUCER_HELD. -/
def Endpoint.noteAccepted (x : Endpoint) (c : Bytes) (o : Nat) : Endpoint :=
  { x.count 0 1 with
    seq := some (BitVec.ofNat 16 (fieldAt c (o + 2) 2)), version := BitVec.ofNat 8 (fieldAt c (o + 10) 1 % 16),
    watch := true, offer := some (fieldAt c (o + 10) 1 / 16), heldFlag := natBit (fieldAt c (o + 9) 1) 1 }

/-- An accepted PDU counts towards the end of FAILED (R457). -/
def Endpoint.recovers (x : Endpoint) (r : Bytes) : Bool := recoverMode r = 0 && recoverCount r ≤ x.okRun + 1

/-- An accepted PDU: delivered with its group's event, or not delivered while FAILED (R453, R457 to R459). -/
def Lane.pduAccept (l : Lane) (e : Fin 512) (c : Bytes) (o : Nat) : Lane :=
  let r := l.connRec e
  let x := (l.ep e).noteAccepted c o
  if x.st = .failed && !x.recovers r then
    l.onEp e fun _ => { x with okRun := if recoverMode r = 0 then x.okRun + 1 else 0 }
  else
    let l := l.onEp e fun _ => { x with
      st := .running, okRun := 0, payload := some (slice c (o + 12) (connLength r)), inHold := false, kept := false }
    if connGroup r < 16 then l.arrive (connGroup r) e.val else l

/-- The state of an open producer that no version failure holds: with a complete payload or without, past refresh_us or not (R452,
R456). -/
def Endpoint.producing (x : Endpoint) : EpState := if x.complete.isNone then .waiting else if x.stale then .stale else .running

/-- The open producers whose peer is endpoint e judge its newest offer (R460). -/
def Lane.judgeOffers (l : Lane) (e : Fin 512) : Lane :=
  match (l.ep e).offer with
  | none => l
  | some v => each (idxs 512) (fun p l =>
      let r := l.connRec p
      let x := l.ep p
      if connRole r ≠ 1 || peerEndpoint r ≠ e.val || x.st = .closed then l
      else if v < verMin r then
        (if x.st = .failed then l else (l.onEp p fun x => { x with st := .failed }).connFault p)
      else if x.st = .failed then l.onEp p fun x => { x with st := x.producing }
      else l) l

/-- The open consumer endpoint that a PDU of a slot matches (R453). -/
def Lane.consumerOf (l : Lane) (slot conn : Nat) : Option (Fin 512) :=
  (idxs 512).find? fun e =>
    (l.ep e).isOpen && connRole (l.connRec e) = 2 && connId (l.connRec e) = conn && connSlot (l.connRec e) = slot

/-- One PDU offered to its endpoint; `seen` holds the endpoints of earlier PDUs of the container (R453). -/
def Lane.pduOffer (l : Lane) (slot : Nat) (c : Bytes) (t : Int) (seen : List (Fin 512)) (o : Nat) : Lane × List (Fin 512) :=
  match l.consumerOf slot (fieldAt c o 2) with
  | none => (l, seen)
  | some e =>
    if seen.contains e then (l.onEp e fun x => { x.count 5 1 with okRun := 0 }, seen)
    else
      let v := l.pduCheck e c o t
      let l := l.onEp e fun x => x.count 3 v.2
      match v.1 with
      | .discard k => (l.onEp e fun x => { x.count k 1 with okRun := 0 }, e :: seen)
      | .accept => ((l.pduAccept e c o).judgeOffers e, e :: seen)

/-- The container of a delivered DATA frame read (R449, R453). -/
def Lane.readContainer (l : Lane) (slot : Nat) (c : Bytes) (t : Int) : Lane :=
  ((pduOffsets c 0 75).foldl (fun acc o => acc.1.pduOffer slot c t acc.2 o) (l, [])).1

/-- The trunk that leads to device j owns the slot of a consumer in every schedule instance that uses it (R476). -/
def Lane.trunkOwns (l : Lane) (j : Fin 4) (slot : Nat) : Bool :=
  let r := l.cascadeRec
  let owners := (idxs 2).filterMap fun g => match l.slotOf g slot with
    | some e => if e.used then some (e.owner = trunkPort r g j.val && e.owner < 16) else none
    | none => none
  !owners.isEmpty && owners.all id

/-- A trunk is lost and its hold has not ended (R476). -/
def Lane.trunkHolds (l : Lane) (j : Fin 4) : Bool := bit l.net.trunkLost j.val && !bit l.net.trunkEnded j.val

/-- A consumer is under a hold: both Greens lost, or its trunk (R104, R476). -/
def Lane.heldFor (l : Lane) (e : Fin 512) : Bool :=
  l.net.hold = .holding || (idxs 4).any fun j => l.trunkHolds j && l.trunkOwns j (connSlot (l.connRec e))

/-- A hold runs that PDUs report with PRODUCER_HELD (R452, R476). -/
def Lane.anyHold (l : Lane) : Bool := l.net.hold = .holding || (idxs 4).any l.trunkHolds

/-- The watchdog of an endpoint runs, once after each acceptance: from the latest acceptance, or from the first SYNCED since CONN_OPEN where nothing has
been accepted (R455); with both Greens absent a consumer stays WAITING (R92). -/
def Lane.watched (l : Lane) (e : Fin 512) : Bool :=
  let x := l.ep e
  connRole (l.connRec e) = 2 && x.watch &&
    (x.st = .running || x.st = .held || (x.st = .waiting && !(idxs 2).all fun g => (vget l.net.chan g).view = .absent))

/-- Translations of the endpoint's window leave the TLB (R481, R482). -/
def Lane.tlbForget (l : Lane) (e : Fin 512) : Lane :=
  let pages := (List.range 128).map fun k => Config.tlbPage (0x20000000 + 128 * e.val + k)
  { l with str := { l.str with tlb := l.str.tlb.filter fun x => !pages.contains x.2 } }

/-- The watchdog of an endpoint expires: FAILED, or HELD during the hold (R457, R459); a consumer that a lost trunk already holds stays
HELD and reports (R476). -/
def Lane.watchdog (l : Lane) (e : Fin 512) : Lane :=
  if !l.watched e then l
  else if l.heldFor e then (l.onEp e fun x => { x with st := .held, watch := false, okRun := 0 }).connFault e
  else ((l.tlbForget e).onEp e fun x => { x with st := .failed, okRun := 0 }).connFault e

/-- The HELD flag is set on every consumer that a hold concerns and that delivers (R104, R476). -/
def Lane.holdMark (l : Lane) : Lane :=
  { l with eps := Vector.ofFn fun e : Fin 512 =>
      let x := l.ep e
      { x with inHold := x.inHold || (x.delivers && l.heldFor e) } }

/-- The delivering consumers of trunk j are HELD (R476). -/
def Lane.trunkMark (l : Lane) (j : Fin 4) : Lane :=
  { l with eps := Vector.ofFn fun e : Fin 512 =>
      let x := l.ep e
      let r := l.connRec e
      { x with st := if x.st = .running && connRole r = 2 && l.trunkOwns j (connSlot r) then .held else x.st } }

/-- A hold of the consumers that `sel` selects has ended: the HELD ones enter FAILED, the HELD flag goes from the others unless
another hold runs for them (R104, R459, R476). -/
def Lane.holdRelease (l : Lane) (sel : Fin 512 → Bool) : Lane :=
  let l := each (idxs 512) (fun e l => if sel e && (l.ep e).st = .held then l.tlbForget e else l) l
  { l with eps := Vector.ofFn fun e : Fin 512 =>
      let x := l.ep e
      if !sel e then x
      else if x.st = .held then { x with st := .failed, okRun := 0, inHold := false }
      else { x with inHold := x.inHold && l.heldFor e } }

/-! ### Producing (R452, R460) -/

/-- The version a producer sends (R460). -/
def Lane.sendVersion (l : Lane) (e : Fin 512) : Nat :=
  let r := l.connRec e
  let p : Fin 512 := fin (peerEndpoint r)
  if peerEndpoint r < 512 && connRole (l.connRec p) = 2 then
    match (l.ep p).offer with
    | some v => min (verMax r) v
    | none => verMin r
  else verMin r

/-- What an endpoint advertises (R460). -/
def Lane.advertised (l : Lane) (e : Fin 512) : Nat :=
  let r := l.connRec e
  if peerEndpoint r < 512 then verMax (l.connRec (fin (peerEndpoint r))) else verMax r

/-- The PDU of a producer with its payload (R446, R447, R452). -/
def Lane.pduOf (l : Lane) (e : Fin 512) (payload : Bytes) : Bytes :=
  let r := l.connRec e
  let x := l.ep e
  let q := match x.seq with | some q => q + 1 | none => 0
  let ver := l.sendVersion e
  let head := leBytes 2 (connId r) ++ leBytes 2 q.toNat ++ leBytes 4 (l.tm.glob.toNat / 1000) ++ leBytes 1 (connLength r) ++
    leBytes 1 (b2n x.seq.isNone + 2 * b2n (ver = 2 && l.anyHold)) ++ leBytes 1 (ver + 16 * l.advertised e) ++ [0]
  head ++ payload ++ leBytes 4 (pduCrc r head payload)

/-- A RUNNING producer of a slot packs its PDU: container so far, then the PDU padded to 4 bytes (R449, R452). -/
def Lane.packOne (l : Lane) (slot : Nat) (c : Bytes) (e : Fin 512) : Lane × Bytes :=
  let r := l.connRec e
  let x := l.ep e
  match x.complete with
  | none => (l, c)
  | some payload =>
    if connRole r ≠ 1 || connSlot r ≠ slot || x.st ≠ .running then (l, c)
    else
      let pdu := l.pduOf e payload
      let l := l.onEp e fun x => { x.count 0 1 with
        seq := some (match x.seq with | some q => q + 1 | none => 0), version := BitVec.ofNat 8 (l.sendVersion e) }
      (l, c ++ slice pdu 0 (pduSize (connLength r)))

/-- The container of a slot (R449, R452). -/
def Lane.packSlot (l : Lane) (slot : Nat) : Lane × Bytes :=
  (idxs 512).foldl (fun acc e => acc.1.packOne slot acc.2 e) (l, [])

/-- The newest complete payload is older than refresh_us; a producer in FAILED keeps that too (R452, R456). -/
def Lane.goStale (l : Lane) (e : Fin 512) : Lane :=
  if connRole (l.connRec e) = 1 && refreshUs (l.connRec e) ≠ 0 && (l.ep e).isOpen && (l.ep e).complete.isSome then
    l.onEp e fun x => { x with stale := true, st := if x.st = .running then .stale else x.st }
  else l

/-! ### Opening and closing (R460, R461) -/

/-- A producer's peer has accepted an offer below its ver_min (R460). -/
def Lane.offerBad (l : Lane) (e : Fin 512) : Bool :=
  let r := l.connRec e
  connRole r = 1 && peerEndpoint r < 512 &&
    match (l.ep (fin (peerEndpoint r))).offer with
    | some v => v < verMin r
    | none => false

/-- An endpoint closes at once (R461). -/
def Lane.closeConn (l : Lane) (e : Fin 512) : Lane := (l.tlbForget e).onEp e fun x => { x with st := .closed }

/-- CONN_OPEN's effect: status and lane; VERSION leaves the endpoint CLOSED (R460, R461). -/
def Lane.openConn (l : Lane) (e : Fin 512) : Lane × Nat :=
  let st := (l.ep e).st
  if connRole (l.connRec e) = 0 then (l, stsState)
  else if st ≠ .closed && st ≠ .failed then (l, stsOk)
  else if l.offerBad e then (l.closeConn e, stsVersion)
  else (l.onEp e fun x => { Endpoint.cold with st := .waiting, staging := x.staging, watch := l.tm.sync = .synced }, stsOk)

/-- AUTO_OPEN endpoints at an entry to LANE_ACTIVE (R461). -/
def Lane.autoOpenAll (l : Lane) : Lane :=
  each (idxs 512) (fun e l => if connAuto (l.connRec e) then (l.openConn e).1 else l) l

/-- Every endpoint closes (R469). -/
def Lane.closeAll (l : Lane) : Lane :=
  let l := each (idxs 512) (fun e l => if (l.ep e).isOpen then l.tlbForget e else l) l
  { l with eps := l.eps.map fun (x : Endpoint) => { x with st := .closed } }

/-- The endpoint a request names. -/
def reqEndpoint (p : Bytes) : Option (Fin 512) :=
  let k := fieldAt p 0 2
  if h : k < 512 then some ⟨k, h⟩ else none

/-- CONN_STATUS (R456). -/
def Lane.connStatus (l : Lane) (p : Bytes) : Nat × Bytes :=
  match reqEndpoint p with
  | none => (stsRange, [])
  | some e =>
    let x := l.ep e
    (stsOk, leBytes 1 (epCode x.st) ++ leBytes 1 x.version.toNat ++ leBytes 2 0 ++
      x.counters.toList.flatMap fun v => leBytes 4 v.toNat)

/-- CONN_OPEN (R45, R460, R461). -/
def Lane.connOpen (l : Lane) (m : MbId) (p : Bytes) : Lane :=
  match reqEndpoint p with
  | none => l.respond m stsRange []
  | some e =>
    if l.jobHolds 8 e.val then l.respond m stsBusy []
    else let r := l.openConn e; r.1.respond m r.2 []

/-- CONN_CLOSE (R45, R461). -/
def Lane.connClose (l : Lane) (m : MbId) (p : Bytes) : Lane :=
  match reqEndpoint p with
  | none => l.respond m stsRange []
  | some e => if l.jobHolds 8 e.val then l.respond m stsBusy [] else (l.closeConn e).respond m stsOk []

/-! ### Meanings -/

/-- CONN_STATUS (R456). -/
def execConnStatus (l : LaneId) (m : MbId) (s : State) : Host.Outcome State Fault Refusal :=
  s.serve l m 0x602 fun x p => x.answer m (x.connStatus p)

/-- CONN_OPEN (R460, R461). -/
def execConnOpen (l : LaneId) (m : MbId) (s : State) : Host.Outcome State Fault Refusal :=
  s.serve l m 0x603 fun x p => x.connOpen m p

/-- CONN_CLOSE (R461). -/
def execConnClose (l : LaneId) (m : MbId) (s : State) : Host.Outcome State Fault Refusal :=
  s.serve l m 0x604 fun x p => x.connClose m p

/-- CONN_WATCHDOG_EXPIRE (R455, R457, R459). -/
def execConnWatchdogExpire (l : LaneId) (e : Fin 512) (s : State) : Host.Outcome State Fault Refusal :=
  .next (s.onLane l fun x => x.watchdog e)

/-- PRODUCER_STALE (R452, R456). -/
def execProducerStale (l : LaneId) (e : Fin 512) (s : State) : Host.Outcome State Fault Refusal :=
  .next (s.onLane l fun x => x.goStale e)

end Sys2Proof.Machine
end

