-- ==== Sys2Proof/Machine/GateDrive.lean ====
section
/-! DEFINITION. The gate-driver die (R252 to R277) and its heartbeat (R21): switch commands, readback, shorts and their
turn-offs, supplies, x_GDEN, with the rows from GATE_COMMAND to GDEN_RISE, HEARTBEAT_TOGGLE and HEARTBEAT_LOSS. -/

namespace Sys2Proof.Machine

/-! ### Fields (R255) -/

def scEnabled (r : Bytes) : Bool := natBit (gateFlags r) 0
def rbEnabled (r : Bytes) : Bool := natBit (gateFlags r) 1
def scellEnabled (r : Bytes) (nn : AxisId) : Bool := isHeavy nn.val && natBit (gateFlags r) 2

/-- The detail byte of a gate fault (R259). -/
def gateDetail (sw : Switch) (rbHigh : Bool) (detector : Nat) : Nat :=
  64 * b2n rbHigh + 16 * detector + 4 * b2n (isHigh sw) + (phaseOf sw).val

/-- A report of gate fault source 32 + 4 nn + k (R259, R367). -/
def Lane.gateFault (l : Lane) (nn : AxisId) (k : Fin 4) (detail : Nat) : Lane :=
  l.fault (32 + 4 * nn.val + k.val) (l.dev nn) detail 0 0

/-! ### Switch commands (R257, R260) -/

/-- A switch command of an axis reaches the die. The die follows on commands only for an enabled axis outside its safe state
(R275); both commands of a pair on meet the interlock (R241). An on command starts the blanking (R260). -/
def Lane.axisCommand (l : Lane) (nn : AxisId) (sw : Switch) (on : Bool) : Lane :=
  if !on then
    (l.onAxis nn fun a => { a with gate := { a.gate with cmd := bitPut a.gate.cmd sw.val false,
                                                          blank := bitPut a.gate.blank sw.val false } }).driveGates nn
  else if !(l.axis nn).enabled || l.patternHeld nn then l
  else if bit (l.axis nn).gate.cmd (other sw).val then l.interlock nn (phaseOf sw)
  else
    (l.onAxis nn fun a => { a with gate := { a.gate with cmd := bitPut a.gate.cmd sw.val true,
                                                          blank := bitPut a.gate.blank sw.val true } }).driveGates nn

/-- A switch command reaches the die (R257). -/
def Lane.gateCommand (l : Lane) (t : GateId) (on : Bool) : Lane :=
  match t with
  | .axis nn sw => l.axisCommand nn sw on
  | .aux x => (l.onAux x fun u => { u with gcmd := on }).driveAux

/-! ### Readback and shorts (R258, R260 to R263) -/

/-- A readback mismatch: both switches of the leg off, latched, reported (R258). -/
def Lane.readback (l : Lane) (nn : AxisId) (sw : Switch) (high : Bool) : Lane :=
  if !rbEnabled (l.axisRec nn) then l
  else
    let l := l.onAxis nn fun a => { a with gate := { a.gate with readback := bitPut a.gate.readback (phaseOf sw).val true } }
    (l.autoOpen nn).gateFault nn 3 (gateDetail sw high 0)

/-- A short is latched: the switch starts the turn-off of its class, the other switch of the leg is held off, source
32 + 4 nn + 1 (R260, R263). -/
def Lane.latchShort (l : Lane) (nn : AxisId) (sw : Switch) (detector : Nat) : Lane :=
  let l := l.onAxis nn fun a => { a with gate := { a.gate with
    short := bitPut a.gate.short (phaseOf sw).val true,
    drive := vset a.gate.drive sw (if isHeavy nn.val then .plateau else .soft) } }
  (l.autoOpen nn).gateFault nn 1 (gateDetail sw false detector)

/-- A detector of a switch that is on can latch a short of its leg now (R260, R262). -/
def Lane.shortArmed (l : Lane) (nn : AxisId) (sw : Switch) : Bool :=
  let g := (l.axis nn).gate
  vget g.drive sw = .on && !bit g.short (phaseOf sw).val

/-- The switch voltage, or the sense cell's normal level, has stayed above its threshold after blanking (R260, R262). -/
def Lane.shortDetected (l : Lane) (nn : AxisId) (sw : Switch) (cell : Bool) : Lane :=
  let r := l.axisRec nn
  if (if cell then scellEnabled r nn else scEnabled r) && l.shortArmed nn sw && !bit (l.axis nn).gate.blank sw.val then
    l.latchShort nn sw (b2n cell)
  else l

/-- The sense cell has exceeded its fast level, armed during blanking too (R262). -/
def Lane.fastTrip (l : Lane) (nn : AxisId) (sw : Switch) : Lane :=
  if scellEnabled (l.axisRec nn) nn && l.shortArmed nn sw then l.latchShort nn sw 2 else l

/-- A gate in one stage of a turn-off passes to full sink (R263). -/
def Lane.turnOffEnd (l : Lane) (nn : AxisId) (sw : Switch) (d : GateDrive) : Lane :=
  if vget (l.axis nn).gate.drive sw = d then
    l.onAxis nn fun a => { a with gate := { a.gate with drive := vset a.gate.drive sw .off } }
  else l

/-! ### Supplies (R265, R266) -/

/-- The axis channels of a VGD group (R253). -/
def groupAxes (g : Fin 4) : List AxisId := [fin (3 * g.val), fin (3 * g.val + 1), fin (3 * g.val + 2)]

/-- A group's undervoltage is latched and reported once for each of its axes (R265). -/
def Lane.groupLatch (l : Lane) (g : Fin 4) : Lane :=
  let l := { l with gd := { l.gd with uvlo := bitPut l.gd.uvlo g.val true } }
  let l := each (groupAxes g) (fun nn l => l.autoOpen nn) l
  l.collect ((groupAxes g).map fun nn => report (32 + 4 * nn.val) (l.dev nn) 0x0B 0 0)

/-- A group becomes invalid: every gate it supplies is low; a fault if it had been valid (R265). -/
def Lane.groupInvalid (l : Lane) (g : Fin 4) : Lane :=
  if !bit l.gd.valid g.val then l
  else
    let l := { l with gd := { l.gd with valid := bitPut l.gd.valid g.val false } }.driveAll
    l.groupLatch g

/-- A group becomes valid (R265). -/
def Lane.groupValid (l : Lane) (g : Fin 4) : Lane :=
  { l with gd := { l.gd with valid := bitPut l.gd.valid g.val true, everValid := bitPut l.gd.everValid g.val true } }.driveAll

/-- A floating-supply undervoltage of a watched axis is latched and reported (R266). -/
def Lane.floatLatch (l : Lane) (nn : AxisId) (p : Phase) : Lane :=
  if (l.axis nn).enabled && bit l.gd.valid (groupOf nn) then
    let l := l.onAxis nn fun a => { a with gate := { a.gate with uvlo := bitPut a.gate.uvlo p.val true } }
    (l.autoOpen nn).gateFault nn 0 (4 + p.val)
  else l

/-- A floating supply falls below its threshold or rises again (R266). -/
def Lane.floatChange (l : Lane) (nn : AxisId) (p : Phase) (low : Bool) : Lane :=
  let l := (l.onAxis nn fun a => { a with gate := { a.gate with floatLow := bitPut a.gate.floatLow p.val low } }).driveGates nn
  if low then l.floatLatch nn p else l

/-! ### x_GDEN (R272, R273) -/

/-- Every latched gate fault of the lane cleared, with its fault line (R273, R362). -/
def Lane.clearGateLatches (l : Lane) : Lane :=
  let l := { l with
    gd := { l.gd with uvlo := 0 },
    ax := l.ax.map fun (a : Axis) => { a with gate := { a.gate with short := 0, readback := 0, uvlo := 0, shoot := 0 } } }
  each ((List.range 48).map fun i => 32 + i) (fun s l => l.healthy s) l

/-- Conditions that the die still sees latch and report again (R273). -/
def Lane.relatch (l : Lane) : Lane :=
  let l := each (idxs 4) (fun g l => if bit l.gd.everValid g.val && !bit l.gd.valid g.val then l.groupLatch g else l) l
  each (idxs 12) (fun nn l => each (idxs 3) (fun p l =>
    if bit (l.axis nn).gate.floatLow p.val then l.floatLatch nn p else l) l) l

/-- x_GDEN rises after a low of at least 5 µs, or a shorter one (R272, R273). -/
def Lane.gdenRise (l : Lane) (longLow : Bool) : Lane :=
  if l.gd.gden then l
  else
    let l := { l with gd := { l.gd with gden := true } }
    if longLow then (l.clearGateLatches.relatch).driveAll else l.driveAll

/-! ### The heartbeat (R21, R275 to R277) -/

/-- The collector toggles the heartbeat line: powered, out of reset, with a good monitor oscillator, not under test (R21,
R377). -/
def Lane.beat (l : Lane) : Lane :=
  if l.sys.lstate = .off || l.sys.inReset || bit l.sys.badClocks 6 || l.inSlice 23 then l
  else { l with fc := { l.fc with beat := !l.fc.beat }, gd := { l.gd with hbSeen := true } }.driveAll

/-- 2 µs have passed since the last toggle: every axis takes its safe state, every auxiliary output goes off, until lane reset
(R21, R277). -/
def Lane.beatLost (l : Lane) : Lane :=
  if !l.gd.hbSeen then l
  else
    let l := each (idxs 12) (fun nn l => l.enterSafe nn) l
    ({ l with gd := { l.gd with hbLost := true } }.driveAll).auxAllOff

/-! ### Meanings -/

/-- GATE_COMMAND (R241, R257, R260, R263, R275). -/
def execGateCommand (l : LaneId) (t : GateId) (on : Bool) (s : State) : Host.Outcome State Fault Refusal :=
  .next (s.onLane l fun x => x.gateCommand t on)

/-- READBACK_MISMATCH (R258, R259). -/
def execReadbackMismatch (l : LaneId) (nn : AxisId) (sw : Switch) (high : Bool) (s : State) :
    Host.Outcome State Fault Refusal :=
  .next (s.onLane l fun x => x.readback nn sw high)

/-- BLANKING_END (R260, R261). -/
def execBlankingEnd (l : LaneId) (nn : AxisId) (sw : Switch) (s : State) : Host.Outcome State Fault Refusal :=
  .next (s.onLane l fun x => x.onAxis nn fun a => { a with gate := { a.gate with blank := bitPut a.gate.blank sw.val false } })

/-- SHORT_DETECTED (R260, R262, R263). -/
def execShortDetected (l : LaneId) (nn : AxisId) (sw : Switch) (cell : Bool) (s : State) :
    Host.Outcome State Fault Refusal :=
  .next (s.onLane l fun x => x.shortDetected nn sw cell)

/-- SENSE_CELL_FAST_TRIP (R262, R263). -/
def execSenseCellFastTrip (l : LaneId) (nn : AxisId) (sw : Switch) (s : State) : Host.Outcome State Fault Refusal :=
  .next (s.onLane l fun x => x.fastTrip nn sw)

/-- TLTO_PLATEAU_END (R263). -/
def execTltoPlateauEnd (l : LaneId) (nn : AxisId) (sw : Switch) (s : State) : Host.Outcome State Fault Refusal :=
  .next (s.onLane l fun x => x.turnOffEnd nn sw .plateau)

/-- SOFT_TURN_OFF_END (R263). -/
def execSoftTurnOffEnd (l : LaneId) (nn : AxisId) (sw : Switch) (s : State) : Host.Outcome State Fault Refusal :=
  .next (s.onLane l fun x => x.turnOffEnd nn sw .soft)

/-- VGD_UVLO (R265). -/
def execVgdUvlo (l : LaneId) (g : Fin 4) (s : State) : Host.Outcome State Fault Refusal :=
  .next (s.onLane l fun x => x.groupInvalid g)

/-- VGD_VALID (R265, R275). -/
def execVgdValid (l : LaneId) (g : Fin 4) (s : State) : Host.Outcome State Fault Refusal :=
  .next (s.onLane l fun x => x.groupValid g)

/-- FLOAT_UVLO (R266). -/
def execFloatUvlo (l : LaneId) (nn : AxisId) (p : Phase) (low : Bool) (s : State) : Host.Outcome State Fault Refusal :=
  .next (s.onLane l fun x => x.floatChange nn p low)

/-- GDEN_LOW (R272). -/
def execGdenLow (l : LaneId) (s : State) : Host.Outcome State Fault Refusal :=
  .next (s.onLane l fun x => { x with gd := { x.gd with gden := false } }.driveAll)

/-- GDEN_RISE (R272, R273). -/
def execGdenRise (l : LaneId) (longLow : Bool) (s : State) : Host.Outcome State Fault Refusal :=
  .next (s.onLane l fun x => x.gdenRise longLow)

/-- HEARTBEAT_TOGGLE (R21, R275). -/
def execHeartbeatToggle (l : LaneId) (s : State) : Host.Outcome State Fault Refusal := .next (s.onLane l Lane.beat)

/-- HEARTBEAT_LOSS (R21, R277). -/
def execHeartbeatLoss (l : LaneId) (s : State) : Host.Outcome State Fault Refusal := .next (s.onLane l Lane.beatLost)

end Sys2Proof.Machine
end

