-- ==== Sys2Proof/Machine/Redundancy.lean ====
section
/-! DEFINITION. Axis groups beyond the coordinator exchange: descriptors (R342), the commit of checkpoints and the monitor
(R349 to R351), takeover (R352 to R354), health words of partners (R357, R359), test rotations (R360, R399), with the rows
GRANARY_COMMIT_DONE, TAKE_SEND, TAKE_WAIT_TIMEOUT and STANDBY_TEST_ROTATION. -/

namespace Sys2Proof.Machine

/-- The lane with the redundancy state of a channel changed. -/
def Lane.onRed (l : Lane) (nn : AxisId) (f : Redun → Redun) : Lane := l.onAxis nn fun a => { a with red := f a.red }

/-- Channels of this lane whose record names device axis `a` as a partner member (R340). -/
def Lane.membersWith (l : Lane) (a : Nat) : List AxisId :=
  (idxs 12).filter fun nn => isMember (l.axisRec nn) && (peersOf (l.axisRec nn)).contains a

/-! ### Group descriptors (R28, R342) -/

/-- The descriptor of a member. -/
def Lane.descriptorOf (l : Lane) (nn : AxisId) : LinkPayload :=
  let r := l.axisRec nn
  .descriptor (l.dev nn) (BitVec.ofNat 32 (crc32c (slice r 0x13 0x15))) (cfgRole r) (BitVec.ofNat 8 (peer0 r))
    (BitVec.ofNat 8 (peer1 r)) (BitVec.ofNat 32 (periodCycles r)) (BitVec.ofNat 8 (carrier r))

/-- A role pair that R28 allows within a group. -/
def rolePairOk (a b : Nat) : Bool := (a = 2 && b = 2) || (a = 3 && b = 4) || (a = 4 && b = 3)

/-- A descriptor received agrees with what the group's rules require of a member (R342). -/
def Lane.descriptorFits (l : Lane) (nn : AxisId) (crc : W32) (role : Nat) (p0 p1 : Byte) (period : W32) (car : Byte) : Bool :=
  let r := l.axisRec nn
  crc.toNat = crc32c (slice r 0x13 0x15) && rolePairOk (cfgRole r) role &&
    (p0.toNat = l.dev nn || p1.toNat = l.dev nn) && period.toNat = periodCycles r && car.toNat = carrier r

/-- Source 120 follows the marks: FAULT while any group is INCONSISTENT (R342, R367). -/
def Lane.inconsistentLine (l : Lane) (nn : AxisId) : Lane :=
  if (idxs 12).any fun k => (l.axis k).red.incons then
    (if (l.axis nn).red.incons then l.fault 120 (l.dev nn) 0 0 0 else l)
  else l.healthy 120

/-- A member's mark against the lane of a descriptor. -/
def Lane.markGroup (l : Lane) (nn : AxisId) (k : LaneId) (bad : Bool) : Lane :=
  (l.onRed nn fun d => { d with badDesc := bitPut d.badDesc k.val bad }).inconsistentLine nn

/-! ### Takeover (R352 to R354, R222) -/

/-- The slot and the node of the CKPT of a channel's own graph (R221, R222). -/
def Lane.ckptNode (l : Lane) (nn : AxisId) : Option (Fin 64 × Nat) :=
  (idxs 64).findSome? fun k =>
    let s := l.slot k
    (List.range s.nodes.length).findSome? fun j =>
      if nodeOp (s.node j) = 0xA6 && nodeResource (s.node j) = l.dev nn then some (k, j) else none

/-- The usable record of a takeover with the node it goes to: young enough, with the node's own count (R353 step 2). -/
def Lane.usableRecord (l : Lane) (nn : AxisId) : Option (Bytes × Fin 64 × Nat) :=
  match l.newestRecord nn, l.ckptNode nn with
  | some x, some y =>
    if l.ckptAge x.2 ≤ 1000 * (ckptAgeUs (l.axisRec nn) : Int) && ckptN x.2 = nodeImm ((l.slot y.1).node y.2) % 64 then
      some (x.2, y.1, y.2) else none
  | _, _ => none

/-- Value j of a record goes into the word named by entry j of the gather list (R222). -/
def Slot.scatter (s : Slot) (node : Nat) (b : Bytes) : Slot :=
  let d := nodeDesc (s.node node) 1
  { s with state := (List.range (ckptN b)).foldl (fun st j =>
      st.set ((s.coef.getD (d.index + j) 0).toNat % 65536) (BitVec.ofNat 32 (fieldAt b (0x30 + 4 * j) 4))) s.state }

/-- The words of a checkpoint that its commit has written when a takeover or a reset stops it: the slot is left torn, so
sequence is written and crc is not; which words between them is free (R349, R350). -/
def Lane.cutWords (l : Lane) : Nat := 2 + l.freeBelow 46

/-- A commit in progress stops at its next word (R350, R353 step 1). -/
def Lane.stopCommit (l : Lane) (nn : AxisId) : Lane :=
  match (l.axis nn).red.commit with
  | none => l
  | some (s, b) =>
    let part := b.take (4 * l.cutWords)
    ({ l.useFree with mem := { l.mem with granary := memWriteN l.mem.granary (granaryAt nn s) part } }).onRed nn
      fun d => { d with commit := none, torn := true }

/-- A takeover ends with the axis in its safe state; a PLANNED one first sends ABORT (R353). -/
def Lane.takeoverFails (l : Lane) (nn : AxisId) (planned report : Bool) : Lane :=
  let r := l.axisRec nn
  let l := if planned then l.sendLink (axisLane (peer0 r)) 2 (.abort (peer0 r)) else l
  let l := l.enterSafe nn
  if report then l.fault 119 (l.dev nn) 0 0 0 else l

/-- Step 5: the current role becomes DUPLEX_ACTIVE, the graph may run, the supervisor starts (R338, R353). -/
def Lane.takeoverGo (l : Lane) (nn : AxisId) : Lane :=
  let l := (l.setRole nn .duplexActive).onRed nn fun d => { d with
    takeover := d.takeover.map fun t => { t with role := true, released := decide (t.cause ≠ .mismatch) } }
  ((l.endProfile nn).enableOutputs nn).supStart nn

/-- Steps 1 to 5 (R353); the outputs of step 6 begin at a period start (`Lane.mayDrive`). -/
def Lane.takeoverRun (l : Lane) (nn : AxisId) (cause : TakeCause) : Lane :=
  let planned := cause = .planned
  let l := l.onRed nn fun d => { d with
    takeover := some { cause := cause, role := false, duty := false, released := false }, planned := .none }
  let l := (l.event 198 (l.dev nn)).stopCommit nn
  match l.usableRecord nn with
  | none =>
    if staleAction (l.axisRec nn) = 1 then l.takeoverFails nn planned false
    else
      let l := l.onRed nn fun d => { d with ckptSeq := 0 }
      if !l.canEnable nn then l.takeoverFails nn planned true else l.takeoverGo nn
  | some (b, k, j) =>
    let l := (l.onSlot k fun s => s.scatter j b).onRed nn fun d => { d with ckptSeq := BitVec.ofNat 32 (ckptSeqOf b) }
    if !l.canEnable nn then l.takeoverFails nn planned true else l.takeoverGo nn

/-- A takeover may start (R352, R97). -/
def Lane.takeoverMay (l : Lane) (nn : AxisId) : Bool :=
  let a := l.axis nn
  l.sys.lstate = .active && l.sys.mode ≠ .shutdown && a.role = .duplexStandby && !a.safe && !a.red.incons &&
    (vget l.links (axisLane (peer0 (l.axisRec nn)))).everAlive && a.red.takeover.isNone

/-- The first cause of R352 that holds; `final` says that a checkpoint with FINAL has just been committed. -/
def Lane.takeoverCause (l : Lane) (nn : AxisId) (final : Bool) : Option TakeCause :=
  let r := l.axisRec nn
  if (vget l.links (axisLane (peer0 r))).line = .r01 then some .loss
  else if monMode r ≠ 0 && mismatchCount r ≤ (l.axis nn).red.mismatch then some .mismatch
  else if final then some .planned
  else none

/-- RELEASED or 01 has come: the outputs of a takeover under MISMATCH wait no longer for it (R353, R354). -/
def Lane.takeoverReleased (l : Lane) (nn : AxisId) : Lane :=
  l.onRed nn fun d => { d with takeover := d.takeover.map fun t => { t with released := true } }

/-- The causes of a takeover are judged (R352); a lost active lane also ends the wait of a MISMATCH (R354). -/
def Lane.takeoverCheck (l : Lane) (nn : AxisId) (final : Bool) : Lane :=
  if (l.axis nn).red.takeover.isSome then
    (if (vget l.links (axisLane (peer0 (l.axisRec nn)))).line = .r01 then l.takeoverReleased nn else l)
  else if l.takeoverMay nn then
    match l.takeoverCause nn final with
    | some c => l.takeoverRun nn c
    | none => l
  else l

/-- The causes judged for every standby member whose active member lies in lane k. -/
def Lane.takeoverLane (l : Lane) (k : LaneId) : Lane :=
  each (idxs 12) (fun nn l =>
    if ((l.axis nn).role = .duplexStandby || (l.axis nn).red.takeover.isSome) && peer0 (l.axisRec nn) / 12 = k.val then l.takeoverCheck nn false else l) l

/-! ### Commit and monitor (R349 to R351) -/

/-- The angle difference of the monitor, in turns (R351). -/
def Lane.monAngle (l : Lane) (nn : AxisId) (b : Bytes) : Rat :=
  let r := l.axisRec nn
  let a := (l.axis nn).acc
  let d (j : Nat) : Rat := bfpValue (BitVec.ofNat 32 (fieldAt b (0x10 + 4 * j) 4))
  let speed := if monMode r = 2 then d 1 else 0
  wrapTurn (turnsOf a.mech + (toSigned 16 (monOffset r) : Rat) / 65536 - (d 0 + speed * ((l.ckptAge b : Rat) / 1000000000)))

/-- The checkpoint mismatches (R351). -/
def Lane.monBad (l : Lane) (nn : AxisId) (b : Bytes) : Bool :=
  let r := l.axisRec nn
  let d1 := bfpValue (BitVec.ofNat 32 (fieldAt b 0x14 4))
  (monAngleTol r : Rat) < rabs (l.monAngle nn b) * 65536 ||
    (monMode r = 2 && (monSpeedTol r : Rat) < rabs (l.angleSpeed nn - d1) * 100)

/-- The monitor's comparison at a commit: nothing while the own accumulator is INVALID or global time is NONE (R351). -/
def Lane.monitor (l : Lane) (nn : AxisId) (b : Bytes) : Lane :=
  if monMode (l.axisRec nn) = 0 || !(l.axis nn).acc.valid || l.tm.sync = .none then l
  else
    let bad := l.monBad nn b
    l.onRed nn fun d => { d with mismatch := if bad then d.mismatch + 1 else 0 }

/-- A commit completes, outside the slice that holds the Granary controller (R391): the slot holds the record, event 201, torn or valid, then the monitor and the causes (R349 to R352). -/
def Lane.commitDone (l : Lane) (nn : AxisId) : Lane :=
  match (if l.inSlice 8 then none else (l.axis nn).red.commit) with
  | none => l
  | some (s, b) =>
    let ok := ckptValid (peer0 (l.axisRec nn)) b
    let l := { l with mem := { l.mem with granary := memWriteN l.mem.granary (granaryAt nn s) b } }
    let l := (l.onRed nn fun d => { d with commit := none, torn := !ok }).event 201 (l.dev nn)
    if ok then (l.monitor nn b).takeoverCheck nn (ckptFinal b) else l

/-- A checkpoint for a standby member arrives: its commit starts in the slot that does not hold the newest valid record, an
earlier commit completing first (R349, R353 step 1). -/
def Lane.checkpoint (l : Lane) (nn : AxisId) (b : Bytes) : Lane :=
  let l := l.commitDone nn
  if (l.axis nn).role ≠ .duplexStandby || (l.axis nn).red.takeover.isSome then l
  else
    let s := match l.newestRecord nn with | some x => 1 - x.1 | none => 0
    l.onRed nn fun d => { d with commit := some (s, slice b 0 192) }

/-! ### What partners send (R343, R344, R354, R357, R359) -/

/-- Coordinator values of a partner member (R223). A partner whose values were dropped counts again from its first frame
without flags after one with a flag (R344). -/
def Lane.coordValues (l : Lane) (k : LaneId) (a : Nat) (observing excluded : Bool) (vals : List Rat) : Lane :=
  each (l.membersWith a) (fun nn l => l.onRed nn fun d =>
    let flag := observing || excluded
    let back := !flag && bit d.flagged k.val
    { d with
      partner := vset d.partner k (some { vals := vals, time := l.tm.loc.toNat, observing := observing, excluded := excluded }),
      dropped := if back then bitPut d.dropped k.val false else d.dropped,
      flagged := if flag && bit d.dropped k.val then bitPut d.flagged k.val true
        else if back then bitPut d.flagged k.val false else d.flagged }) l

/-- A planned drop of the member is under way: FINAL is posted (R354). -/
def Lane.dropPosted (l : Lane) (nn : AxisId) : Bool :=
  match (l.axis nn).red.planned with
  | .posted _ => true
  | _ => false

/-- A member and its partner both report DUPLEX_ACTIVE: the one whose current role is its configured role yields (R357). A
planned drop keeps its own instant (R354). -/
def Lane.yieldActive (l : Lane) (nn : AxisId) : Lane :=
  if (l.axis nn).role = .duplexActive && cfgRole (l.axisRec nn) = 3 && (l.axis nn).red.takeover.isNone && !l.dropPosted nn then
    (l.dropMember nn).takeoverCheck nn false
  else l

/-- A health word of a partner's axis (R110, R357, R359). -/
def Lane.healthHeard (l : Lane) (k : LaneId) (a : Nat) (w : W32) : Lane :=
  if a / 12 ≠ k.val then l
  else
    let act := natBits w.toNat 13 3 = 3
    let l := { l with mem := { l.mem with health := l.mem.health.set! a w } }
    let l := if act then l.onLink k fun x => { x with heard := bitPut x.heard (a % 12) true } else l
    if act then each (l.membersWith a) (fun nn l => l.yieldActive nn) l else l

/-- TAKE for an active member: its switches turn off, RELEASED is sent, it stands by (R354). -/
def Lane.takeHeard (l : Lane) (nn : AxisId) : Lane :=
  if (l.axis nn).role ≠ .duplexActive then l
  else
    let p := peer0 (l.axisRec nn)
    ((l.dropMember nn).sendLink (axisLane p) 2 (.released p)).takeoverCheck nn false

/-- RELEASED for a standby member whose takeover waits (R354). -/
def Lane.releasedHeard (l : Lane) (nn : AxisId) : Lane := l.takeoverReleased nn

/-- ABORT: before the drop it cancels it, after the drop it leaves the group in its safe state (R354). -/
def Lane.abortHeard (l : Lane) (nn : AxisId) : Lane :=
  match (l.axis nn).red.planned with
  | .none => l
  | .dropped => l.enterSafe nn
  | _ => l.onRed nn fun d => { d with planned := .none }

/-- A group descriptor of a partner member (R342). -/
def Lane.descriptorHeard (l : Lane) (k : LaneId) (a : Nat) (crc : W32) (role : Nat) (p0 p1 : Byte) (period : W32)
    (car : Byte) : Lane :=
  each (l.membersWith a) (fun nn l =>
    (l.markGroup nn k (!l.descriptorFits nn crc role p0 p1 period car)).takeoverCheck nn false) l

/-! ### Waiting for RELEASED (R354) -/

/-- A takeover of the axis waits for RELEASED. -/
def Lane.takeWaits (l : Lane) (nn : AxisId) : Bool :=
  match (l.axis nn).red.takeover with
  | some t => t.cause = .mismatch && !t.released
  | none => false

/-- TAKE is sent to the active member. -/
def Lane.takeSend (l : Lane) (nn : AxisId) : Lane :=
  let p := peer0 (l.axisRec nn)
  if l.takeWaits nn then l.sendLink (axisLane p) 2 (.take p) else l

/-- take_wait_us has passed: the takeover ends, the member is standby as before, source 119, the counter restarts. -/
def Lane.takeTimeout (l : Lane) (nn : AxisId) : Lane :=
  if l.takeWaits nn then (l.dropMember nn).fault 119 (l.dev nn) 0 0 0 else l

/-! ### Test rotations (R360, R399) -/

def gateTest (r : Bytes) : Bool := natBit (standbyFlags r) 0
def cmpTest (r : Bytes) : Bool := natBit (standbyFlags r) 1

/-- The parts of a rotation: failed gate pulses latch the readback mismatch and set GATE, dead comparators set CMP (R399). -/
def Lane.testAxis (l : Lane) (nn : AxisId) (t : StandbyResult) : Lane :=
  let r := l.axisRec nn
  let l := l.onRed nn fun d => { d with
    gateFail := if gateTest r then t.gateFail ≠ 0 else d.gateFail,
    cmpFail := if cmpTest r then t.cmpFail ≠ 0 else d.cmpFail }
  if gateTest r then
    each (idxs 6) (fun sw l => if bit t.gateFail sw.val then l.readback nn sw (bit t.gateHigh sw.val) else l) l
  else l

/-- A rotation of a duplex-standby member completes, be it in SAFE (R346, R360); a takeover stops it. -/
def Lane.standbyTest (l : Lane) (nn : AxisId) (t : StandbyResult) : Lane :=
  if l.sys.lstate ≠ .active || (l.axis nn).role ≠ .duplexStandby || (l.axis nn).red.takeover.isSome then l
  else (l.onRed nn fun d => { d with rotation := d.rotation + 1 }).testAxis nn t

/-! ### Meanings -/

/-- A member that a period start has dropped is eligible at once as its group's standby: its causes are judged (R352, R354). -/
def Lane.afterDrop (l old : Lane) : Lane :=
  each (idxs 12) (fun nn l =>
    if (old.axis nn).role = .duplexActive && (l.axis nn).role = .duplexStandby then l.takeoverCheck nn false else l) l

/-- PERIOD_START (R230, R234 to R239, R243, R244, R247, R249, R335, R353, R354, R359). -/
def execPeriodStart (l : LaneId) (c : CarrierId) (s : State) : Host.Outcome State Fault Refusal :=
  .next (s.onLane l fun x => (x.periodStart c).afterDrop x)

/-- COT_LIMIT_EXPIRE (R235). -/
def execCotLimitExpire (l : LaneId) (c : CarrierId) (s : State) : Host.Outcome State Fault Refusal :=
  .next (s.onLane l fun x => (x.limitEnd c).afterDrop x)

/-- THRESHOLD_CROSSING (R235, R289, R335). -/
def execThresholdCrossing (l : LaneId) (c : CarrierId) (s : State) : Host.Outcome State Fault Refusal :=
  .next (s.onLane l fun x => (x.crossing c).afterDrop x)

/-- GRANARY_COMMIT_DONE (R349 to R353). -/
def execGranaryCommitDone (l : LaneId) (nn : AxisId) (s : State) : Host.Outcome State Fault Refusal :=
  .next (s.onLane l fun x => x.commitDone nn)

/-- TAKE_SEND (R354). -/
def execTakeSend (l : LaneId) (nn : AxisId) (s : State) : Host.Outcome State Fault Refusal :=
  .next (s.onLane l fun x => x.takeSend nn)

/-- TAKE_WAIT_TIMEOUT (R354). -/
def execTakeWaitTimeout (l : LaneId) (nn : AxisId) (s : State) : Host.Outcome State Fault Refusal :=
  .next (s.onLane l fun x => x.takeTimeout nn)

/-- STANDBY_TEST_ROTATION (R360, R399). -/
def execStandbyTestRotation (l : LaneId) (nn : AxisId) (r : StandbyResult) (s : State) :
    Host.Outcome State Fault Refusal :=
  .next (s.onLane l fun x => x.standbyTest nn r)

end Sys2Proof.Machine
end

