-- ==== Sys2Proof/Machine/Graphs.lean ====
section
/-! DEFINITION. The graph group of mailbox commands: GRAPH_LOAD, GRAPH_START, GRAPH_STOP, GRAPH_UNLOAD, GRAPH_STATUS,
COEF_WRITE, COEF_READ (R57, R143 to R146, R152, R157, R222). -/

namespace Sys2Proof.Machine

/-- The slot a request names in its first byte (R56). -/
def reqSlot (p : Bytes) : Option (Fin 64) :=
  let k := fieldAt p 0 1
  if h : k < 64 then some ⟨k, h⟩ else none

/-! ### Staging an image (R143, R144) -/

/-- Total and bytes of the image staged for a slot. -/
def Session.image? (s : Session) (k : Nat) : Option (Nat × Bytes) :=
  s.items.findSome? fun x => match x with | .image k' n d => if k' = k then some (n, d) else none | _ => none

/-- Anything staged for a slot's image. -/
def sameImage (k : Nat) (x : Staged) : Bool := x.key = (11, k)

/-- The session without what is staged for a slot. DESIGN CHOICE: with nothing else staged it is OPEN again, a transition that
R81's table does not list (notes/assumptions/72.md). -/
def Session.dropImage (s : Session) (k : Nat) : Session :=
  let items := s.items.filter fun x => !sameImage k x
  { s with items := items, st := if items.isEmpty then .opened else s.st }

/-- The bytes a chunk extends: none for offset 0, else those received so far when offset and total continue them. -/
def Session.chunkBase (s : Session) (k off total : Nat) : Option Bytes :=
  if off = 0 then some []
  else match s.image? k with
    | some (n, d) => if d.length = off && n = total then some d else none
    | none => none

/-- GRAPH_LOAD (R143, R144). -/
def Lane.graphLoad (l : Lane) (m : MbId) (p : Bytes) : Lane :=
  let off := fieldAt p 4 4
  let total := fieldAt p 8 4
  let chunk := p.drop 12
  match reqSlot p with
  | none => l.respond m stsRange []
  | some k =>
    if fieldAt p 1 3 ≠ 0 || total % 4 ≠ 0 || total < 64 || 1048576 < total then l.respond m stsRange []
    else match l.ses.chunkBase k.val off total with
      | none => l.respond m stsRange []
      | some d =>
        let data := d ++ chunk
        if total < data.length then l.respond m stsRange []
        else if !l.ses.room (11, k.val) then l.respond m stsState []
        else
          let l := { l with ses := l.ses.stage (sameImage k.val) (.image k.val total data) }
          if data.length < total then l.respond m stsOk []
          else match l.imageStatus data with
            | none => l.respond m stsOk []
            | some st => ({ l with ses := l.ses.dropImage k.val }).respond m st []

/-- GRAPH_UNLOAD (R145). -/
def Lane.graphUnload (l : Lane) (m : MbId) (p : Bytes) : Lane :=
  match reqSlot p with
  | none => l.respond m stsRange []
  | some k =>
    let st := (l.slot k).st
    if st = .empty || st = .running || st = .stopping || !l.ses.room (11, k.val) then l.respond m stsState []
    else ({ l with ses := l.ses.stage (sameImage k.val) (.unload k.val) }).respond m stsOk []

/-! ### Starting, stopping, reporting -/

/-- GRAPH_START (R146, R155). -/
def Lane.graphStart (l : Lane) (m : MbId) (p : Bytes) : Lane :=
  match reqSlot p with
  | none => l.respond m stsRange []
  | some k =>
    let s := l.slot k
    if (s.st ≠ .stopped && s.st ≠ .halted) || l.sys.lstate ≠ .active || !l.canReserve k then l.respond m stsState []
    else (l.onSlot k Slot.start).respond m stsOk []

/-- GRAPH_STOP: with a run in flight the response waits for it (R146). DESIGN CHOICE: so it does for a slot that is STOPPING
already (notes/assumptions/72.md). The session keeps a second mailbox from stopping a slot that one waits for (R45, R56). -/
def Lane.graphStop (l : Lane) (m : MbId) (p : Bytes) : Lane :=
  match reqSlot p with
  | none => l.respond m stsRange []
  | some k =>
    let s := l.slot k
    if s.st = .empty then l.respond m stsState []
    else
      let l := l.onSlot k Slot.stop
      if (l.slot k).st = .stopping then l.onSlot k fun s => { s with stopper := some m } else l.respond m stsOk []

/-- GRAPH_STATUS (R152). -/
def Lane.graphStatus (l : Lane) (p : Bytes) : Nat × Bytes :=
  match reqSlot p with
  | none => (stsRange, [])
  | some k =>
    let s := l.slot k
    (stsOk, leBytes 1 (gstateCode s.st) ++ leBytes 1 0 ++ leBytes 2 s.flags ++ leBytes 4 s.runs.toNat ++
      leBytes 4 s.lates.toNat)

/-! ### Coefficients (R57, R157, R222) -/

/-- The gather list of a CKPT node covers a word (R222). -/
def gatherHolds (w : BitVec 128) (i : Nat) : Bool :=
  let d := nodeDesc w 1
  nodeOp w = 0xA6 && d.index ≤ i && i < d.index + nodeImm w

/-- A range of words touches a gather list. -/
def Slot.touchesGather (s : Slot) (word count : Nat) : Bool :=
  (List.range count).any fun i => s.nodes.any fun w => gatherHolds w (word + i)

/-- COEF_WRITE (R57, R157, R222): its words are written one at a time from here until the mailbox is DONE. -/
def Lane.coefWrite (l : Lane) (m : MbId) (p : Bytes) : Lane :=
  let word := fieldAt p 2 2
  let n := fieldAt p 4 2
  match reqSlot p with
  | none => l.respond m stsRange []
  | some k =>
    let s := l.slot k
    if fieldAt p 1 1 ≠ 0 || fieldAt p 6 6 ≠ 0 || n < 1 || 249 < n || p.length ≠ 12 + 4 * n || s.coef.length < word + n ||
      s.touchesGather word n then l.respond m stsRange []
    else
      let ws := (chunks 4 n (p.drop 12)).map fun b => BitVec.ofNat 32 (ofLe b)
      let job : CoefJob := { mb := m, slot := k, first := word, done := 0, rest := ws }
      { l with hp := { l.hp with coefJobs := l.hp.coefJobs ++ [job] } }.respond m stsOk []

/-- A COEF_WRITE in progress has words left to write in a range of a slot. -/
def CoefJob.touches (j : CoefJob) (k : Fin 64) (word n : Nat) : Bool :=
  j.slot = k && j.first + j.done < word + n && word < j.first + j.done + j.rest.length

/-- COEF_READ (R57, R157): a write in progress that touches the range during the copying ends first, and the copy taken then is
TORN; between two words of a write the copy is what stands there. -/
def Lane.coefRead (l : Lane) (m : MbId) (during : Bool) (p : Bytes) : Lane :=
  let word := fieldAt p 2 2
  let n := fieldAt p 4 2
  match reqSlot p with
  | none => l.respond m stsRange []
  | some k =>
    if fieldAt p 1 1 ≠ 0 || n < 1 || 252 < n || (l.slot k).coef.length < word + n then l.respond m stsRange []
    else
      let hit (j : CoefJob) : Bool := during && j.touches k word n
      let torn := l.hp.coefJobs.any hit
      let l := l.coefFinish hit
      l.respond m (if torn then stsTorn else stsOk) ((((l.slot k).coef.drop word).take n).flatMap fun w => leBytes 4 w.toNat)

/-! ### Meanings -/

/-- GRAPH_LOAD (R143, R144). -/
def execGraphLoad (l : LaneId) (m : MbId) (s : State) : Host.Outcome State Fault Refusal :=
  s.serve l m 0x301 fun x p => x.graphLoad m p

/-- GRAPH_START (R146, R155). -/
def execGraphStart (l : LaneId) (m : MbId) (s : State) : Host.Outcome State Fault Refusal :=
  s.serve l m 0x302 fun x p => x.graphStart m p

/-- GRAPH_STOP (R146). -/
def execGraphStop (l : LaneId) (m : MbId) (s : State) : Host.Outcome State Fault Refusal :=
  s.serve l m 0x303 fun x p => x.graphStop m p

/-- GRAPH_UNLOAD (R145). -/
def execGraphUnload (l : LaneId) (m : MbId) (s : State) : Host.Outcome State Fault Refusal :=
  s.serve l m 0x304 fun x p => x.graphUnload m p

/-- GRAPH_STATUS (R146, R152). -/
def execGraphStatus (l : LaneId) (m : MbId) (s : State) : Host.Outcome State Fault Refusal :=
  s.serve l m 0x305 fun x p => x.answer m (x.graphStatus p)

/-- COEF_WRITE (R57, R157, R222). -/
def execCoefWrite (l : LaneId) (m : MbId) (s : State) : Host.Outcome State Fault Refusal :=
  s.serve l m 0x306 fun x p => x.coefWrite m p

/-- COEF_READ (R57, R157); `during` says that a write in progress goes on while the words are copied. -/
def execCoefRead (l : LaneId) (m : MbId) (during : Bool) (s : State) : Host.Outcome State Fault Refusal :=
  s.serve l m 0x307 fun x p => x.coefRead m during p

end Sys2Proof.Machine
end

