-- ==== Sys2Proof/Machine/Streams.lean ====
section
/-! DEFINITION. The stream engine and its address translation (R478 to R493), with the rows STREAM_START, STREAM_STOP,
STREAM_STATUS, STREAM_RESUME, STREAM_BEAT, STREAM_TRIGGER and TLB_WALK_COMPLETE. -/

namespace Sys2Proof.Machine

/-! ### Fields of a descriptor (R479) -/

def srcWidth (r : Bytes) : Nat := 2 ^ (beatWidth r % 4)
def dstWidth (r : Bytes) : Nat := 2 ^ (beatWidth r / 4 % 4)
def streamWait (r : Bytes) : Bool := natBit (streamFlags r) 0
def streamRepeat (r : Bytes) : Bool := natBit (streamFlags r) 1
def streamEvent (r : Bytes) : Bool := natBit (streamFlags r) 2
def streamAuto (r : Bytes) : Bool := natBit (streamFlags r) 3
def streamTrace (r : Bytes) : Bool := natBit (streamFlags r) 4

/-- State of a channel as STREAM_STATUS reports it (R487). -/
def ststateCode : StState → Nat
  | .stopped => 0 | .waiting => 1 | .running => 2 | .stopping => 3 | .halted => 4 | .excluded => 5

/-- Cause as STREAM_STATUS and event 176 + c report it (R487). -/
def stcauseCode : StCause → Nat
  | .none => 0 | .complete => 1 | .stopped => 2 | .busError => 3 | .notMapped => 4 | .notPermitted => 5 | .aborted => 6

/-- Channel c. -/
def Lane.chan (l : Lane) (c : Fin 16) : StreamCh := vget l.str.chans c

/-- The address of byte `j` of a pass on a side that starts `off` bytes into its block (R486). -/
def sideAddr (va wrap off j : Nat) : Nat := if wrap = 0 then va + j else va / wrap * wrap + (va % wrap + off + j) % wrap

/-- Source and destination address of byte j of the present pass of channel c. -/
def Lane.srcAddr (l : Lane) (c : Fin 16) (j : Nat) : Nat :=
  sideAddr (srcVa (l.streamRec c)) (srcWrap (l.streamRec c)) (l.chan c).srcAt j
def Lane.dstAddr (l : Lane) (c : Fin 16) (j : Nat) : Nat :=
  sideAddr (dstVa (l.streamRec c)) (dstWrap (l.streamRec c)) (l.chan c).dstAt j

/-- First byte of beat i, and first byte after it (R478, R485). -/
def Lane.beatFrom (l : Lane) (c : Fin 16) (i : Nat) : Nat :=
  let w := dstWidth (l.streamRec c)
  i * w - l.dstAddr c 0 % w
def Lane.beatTo (l : Lane) (c : Fin 16) (i : Nat) : Nat := min (passCount (l.streamRec c)) (l.beatFrom c (i + 1))

/-- The aligned address of beat i. -/
def Lane.beatAddr (l : Lane) (c : Fin 16) (i : Nat) : Nat :=
  let w := dstWidth (l.streamRec c)
  l.dstAddr c (l.beatFrom c i) / w * w

/-- Source bytes of the pass that the units feeding the bytes below `e` bring in (R485). -/
def Lane.readEnd (l : Lane) (c : Fin 16) (e : Nat) : Nat :=
  let w := srcWidth (l.streamRec c)
  let m := l.srcAddr c 0 % w
  min (passCount (l.streamRec c)) (((e - 1 + m) / w + 1) * w - m)

/-! ### The map (R481, R482) -/

/-- What a stream virtual address names. -/
inductive StreamPlace where
  | coef (s : Fin 64) (off : Nat)
  | node (s : Fin 64) (off : Nat)
  | endpoint (e : Fin 512) (off : Nat)
  | granary (off : Nat)
  | trace (off : Nat)
  | memory (off : Nat)
  | none
  deriving DecidableEq, Repr

/-- The map of R481. -/
def streamPlace (a : Nat) : StreamPlace :=
  if 0x10000000 ≤ a ∧ a < 0x11000000 then .coef (fin ((a - 0x10000000) / 0x40000)) (a % 0x40000)
  else if 0x14000000 ≤ a ∧ a < 0x15000000 then .node (fin ((a - 0x14000000) / 0x40000)) (a % 0x40000)
  else if 0x20000000 ≤ a ∧ a < 0x20010000 then .endpoint (fin ((a - 0x20000000) / 0x80)) (a % 0x80)
  else if 0x30000000 ≤ a ∧ a < 0x30010000 then .granary (a - 0x30000000)
  else if 0x40000000 ≤ a ∧ a < 0x40100000 then .trace (a - 0x40000000)
  else if 0x50000000 ≤ a ∧ a < 0x50100000 then .memory (a - 0x50000000)
  else .none

/-- A slot holds an image that streams may touch. -/
def Slot.mapped (s : Slot) : Bool := s.st ≠ .empty && s.st ≠ .excluded

/-- Why a read of one byte faults, if it does. -/
def Lane.readFault (l : Lane) (a : Nat) : Option StCause :=
  match streamPlace a with
  | .coef s off => if (l.slot s).mapped && off < 4 * (l.slot s).coef.length then none else some .notMapped
  | .node s off => if (l.slot s).mapped && off < 4 * (l.slot s).state.length then none else some .notMapped
  | .endpoint e off =>
    let x := vget l.eps e
    if x.st = .closed || connLength (l.connRec e) ≤ off then some .notMapped
    else if connRole (l.connRec e) = 1 then some .notPermitted
    else if x.delivers then none else some .notMapped
  | .granary _ => none
  | .trace _ => some .notPermitted
  | .memory _ => none
  | .none => some .notMapped

/-- Why a write of one byte faults, if it does. -/
def Lane.writeFault (l : Lane) (a : Nat) : Option StCause :=
  match streamPlace a with
  | .coef s off =>
    if !(l.slot s).mapped || 4 * (l.slot s).coef.length ≤ off then some .notMapped
    else if (l.slot s).touchesGather (off / 4) 1 then some .notPermitted else none
  | .node s off => if (l.slot s).mapped && off < 4 * (l.slot s).state.length then some .notPermitted else some .notMapped
  | .endpoint e off =>
    if (vget l.eps e).st = .closed || connLength (l.connRec e) ≤ off then some .notMapped
    else if connRole (l.connRec e) = 1 then none else some .notPermitted
  | .granary _ => some .notPermitted
  | .trace _ => none
  | .memory _ => none
  | .none => some .notMapped

/-- Byte k of a list of words. -/
def wordByte (ws : List W32) (k : Nat) : Byte := BitVec.ofNat 8 ((ws.getD (k / 4) 0).toNat / 256 ^ (k % 4))

/-- One byte read; a consumer payload comes from what the pass has latched (R484). -/
def Lane.streamByte (l : Lane) (latch : Bytes) (a : Nat) : Byte :=
  match streamPlace a with
  | .coef s off => wordByte (l.slot s).coef off
  | .node s off => wordByte (l.slot s).state off
  | .endpoint _ off => latch.getD off 0
  | .granary off => memRead l.mem.granary off
  | .memory off => memRead l.mem.stream off
  | _ => 0

/-- A list of words with byte k replaced. -/
def putWordByte (ws : List W32) (k : Nat) (b : Byte) : List W32 :=
  ws.set (k / 4) (BitVec.ofNat 32 (ofLe (putAt (leBytes 4 (ws.getD (k / 4) 0).toNat) (k % 4) [b])))

/-- One byte written. -/
def Lane.streamPut (l : Lane) (a : Nat) (b : Byte) : Lane :=
  match streamPlace a with
  | .coef s off => l.onSlot s fun x => { x with coef := putWordByte x.coef off b }
  | .endpoint e off => l.writePdu e off [b] false
  | .trace off => { l with mem := { l.mem with trace := memWrite l.mem.trace off b } }
  | .memory off => { l with mem := { l.mem with stream := memWrite l.mem.stream off b } }
  | _ => l

/-- Bytes written from byte j of the pass upwards. -/
def Lane.streamPutN (l : Lane) (c : Fin 16) (j : Nat) : Bytes → Lane
  | [] => l
  | b :: bs => (l.streamPut (l.dstAddr c j) b).streamPutN c (j + 1) bs

/-! ### Halting and stopping (R487 to R491) -/

/-- The channel halts at an address of its present beat; a STOPPING one stops with the halt's cause (R490, R491). -/
def Lane.streamHalt (l : Lane) (c : Fin 16) (cause : StCause) (addr : Nat) (final : Bool) : Lane :=
  let l := l.onStream c fun h => { h with
    st := if h.st = .stopping then .stopped else .halted, cause := cause, haltBeat := h.beat, haltAddr := addr,
    noResume := final, walking := none }
  (l.event (176 + c.val) (stcauseCode cause)).notify (.stream c.val)

/-- A stop takes effect: the reported beat and address of a stop between passes are values the spec does not state. -/
def Lane.streamStopped (l : Lane) (c : Fin 16) : Lane :=
  let i := l.freeBelow (2 ^ 32)
  let a := l.useFree.freeBelow (2 ^ 32)
  let l := l.useFree.useFree.onStream c fun h => { h with
    st := .stopped, cause := .stopped, haltBeat := i, haltAddr := a, pendTrig := false }
  l.event (176 + c.val) 2

/-- STREAM_STOP's effect (R488). -/
def Lane.streamStop (l : Lane) (c : Fin 16) : Lane :=
  match (l.chan c).st with
  | .running => l.onStream c fun h => { h with st := .stopping }
  | .waiting => l.streamStopped c
  | .halted => (l.onStream c fun h => { h with st := .stopped }).event (176 + c.val) 2
  | _ => l

/-- Every channel at work halts with ABORTED (R491). -/
def Lane.streamsAbort (l : Lane) (final : Bool) : Lane :=
  each (idxs 16) (fun c l =>
    if (l.chan c).st = .running || (l.chan c).st = .stopping then
      l.streamHalt c .aborted (l.beatAddr c (l.chan c).beat) final
    else l) l

/-- Entry to SHUTDOWN (R491). -/
def Lane.streamsStop (l : Lane) : Lane := each (idxs 16) (fun c l => l.streamStop c) l

/-! ### Starting -/

/-- A STOPPED channel starts at beat 0 of its first pass (R486, R488). -/
def Lane.streamBegin (l : Lane) (c : Fin 16) : Lane :=
  let r := l.streamRec c
  l.onStream c fun h => { StreamCh.cold with
    st := if streamWait r then .waiting else .running, haltBeat := h.haltBeat, haltAddr := h.haltAddr }

/-- A channel that STREAM_START may start: STOPPED, with a count (R488). -/
def Lane.streamStartable (l : Lane) (c : Fin 16) : Bool := (l.chan c).st = .stopped && passCount (l.streamRec c) ≠ 0

/-- AUTO_START channels start at entry to LANE_ACTIVE (R492). -/
def Lane.streamsAuto (l : Lane) : Lane :=
  each (idxs 16) (fun c l => if streamAuto (l.streamRec c) && l.streamStartable c then l.streamBegin c else l) l

/-! ### A beat (R482 to R490) -/

/-- The pass reads an endpoint. -/
def srcEndpoint (r : Bytes) : Option (Fin 512) := match streamPlace (srcVa r) with | .endpoint e _ => some e | _ => none

/-- The newest valid payload latched at the first beat that reads it (R484). -/
def Lane.streamLatch (l : Lane) (c : Fin 16) : Lane :=
  match srcEndpoint (l.streamRec c) with
  | none => l
  | some e =>
    let x := vget l.eps e
    if (l.chan c).latch.isNone && x.delivers then l.onStream c fun h => { h with latch := x.payload } else l

/-- The first fault of the accesses to bytes `j` to `j + n - 1` of a side: cause and address. -/
def firstFault (addr : Nat → Nat) (fault : Nat → Option StCause) (j : Nat) : Nat → Option (StCause × Nat)
  | 0 => none
  | n + 1 => match fault (addr j) with
    | some x => some (x, addr j)
    | none => firstFault addr fault (j + 1) n

/-- The fault of a source unit that the present beat has still to read, with the unit's address (R490). -/
def Lane.srcFault (l : Lane) (c : Fin 16) : Option (StCause × Nat) :=
  let w := srcWidth (l.streamRec c)
  let h := l.chan c
  let hi := l.readEnd c (l.beatTo c h.beat)
  (firstFault (l.srcAddr c) l.readFault h.nextSrc (hi - h.nextSrc)).map fun x => (x.1, x.2 / w * w)

/-- The fault of the present beat's destination unit, with the unit's address (R490). -/
def Lane.dstFault (l : Lane) (c : Fin 16) : Option (StCause × Nat) :=
  let h := l.chan c
  (firstFault (l.dstAddr c) l.writeFault (l.beatFrom c h.beat) (l.beatTo c h.beat - l.beatFrom c h.beat)).map fun x =>
    (x.1, l.beatAddr c h.beat)

/-- The address whose translation the TLB lacks, if any (R478). -/
def Lane.beatMiss (l : Lane) (c : Fin 16) : Option Nat :=
  let h := l.chan c
  let hi := l.readEnd c (l.beatTo c h.beat)
  let srcs := if h.nextSrc < hi then [l.srcAddr c h.nextSrc, l.srcAddr c (hi - 1)] else []
  (srcs ++ [l.beatAddr c h.beat]).find? fun a => !l.str.tlb.contains (c.val, Config.tlbPage a)

/-- A bus error: one retry used, or the channel halts after the last (R489). -/
def Lane.streamBus (l : Lane) (c : Fin 16) (addr : Nat) : Lane :=
  if (l.chan c).retries < retryMax (l.streamRec c) then l.onStream c fun h => { h with retries := h.retries + 1 }
  else l.streamHalt c .busError addr false

/-- An uncorrectable memory error at an address is reported, whatever happens to the channel: the state and coefficient memory with the
slot, the Granary, else the SRAM (R23, R367, R489). -/
def Lane.memoryReport (l : Lane) (a : Nat) : Lane :=
  match streamPlace a with
  | .coef s _ => l.fault 7 (l.slot s).gateAxis 0 s.val 0
  | .node s _ => l.fault 7 (l.slot s).gateAxis 0 s.val 0
  | .granary _ => l.fault 8 0xFF 0 0 0
  | .none => l
  | _ => l.fault 5 0xFF 0 0 0

/-- An error response to an access of the beat: a memory error is reported, then it is a bus error (R489). -/
def Lane.beatError (l : Lane) (c : Fin 16) (e : BeatError) (addr : Nat) : Lane :=
  (if e.memory then l.memoryReport addr else l).streamBus c addr

/-- Bytes that the pass has read and not written: the holding register's 8, and what of the last source unit it has no room for yet. -/
def StreamCh.pool (h : StreamCh) : Bytes := h.holding ++ h.incoming

/-- A channel with such bytes. -/
def StreamCh.withPool (h : StreamCh) (bs : Bytes) : StreamCh := { h with holding := bs.take 8, incoming := bs.drop 8 }

/-- The source units that the beat needs pass into the holding register (R485). -/
def Lane.streamFill (l : Lane) (c : Fin 16) : Lane :=
  let h := l.chan c
  let hi := l.readEnd c (l.beatTo c h.beat)
  let n := hi - h.nextSrc
  let bytes := (List.range n).map fun i => l.streamByte (h.latch.getD []) (l.srcAddr c (h.nextSrc + i))
  if n = 0 then l else l.onStream c fun h => { h.withPool (h.pool ++ bytes) with nextSrc := hi }

/-- HP_TRACE_WP and its interrupt after a beat of n bytes that began j bytes into the pass (R484). -/
def Lane.traceMove (l : Lane) (c : Fin 16) (j n : Nat) : Lane :=
  let r := l.streamRec c
  if !streamTrace r then l
  else
    let w := dstWrap r
    let ends := passCount r ≤ j + n
    let next := if w = 0 && ends then dstVa r else l.dstAddr c (j + n)
    let l := { l with hp := { l.hp with traceWp := BitVec.ofNat 20 next } }
    let p := (l.dstAddr c j) % max w 1
    if w ≠ 0 && ((p < w / 2 && w / 2 ≤ p + n) || w ≤ p + n) then l.irq 0x100 else l

/-- The offset at which the next pass of a side begins (R486). -/
def nextStart (wrap off count : Nat) : Nat := if wrap = 0 then 0 else (off + count) % wrap

/-- A channel ready for its next pass (R486). -/
def StreamCh.rewind (h : StreamCh) (r : Bytes) : StreamCh :=
  { h with
    cause := .complete, beat := 0, retries := 0, nextSrc := 0, holding := [], incoming := [], latch := none, half := false,
    srcAt := nextStart (srcWrap r) h.srcAt (passCount r), dstAt := nextStart (dstWrap r) h.dstAt (passCount r) }

/-- What follows a pass: a stop without REPEAT, else the next pass, at its trigger under WAIT (R486). -/
def StreamCh.follow (h : StreamCh) (r : Bytes) : StreamCh :=
  if !streamRepeat r then { h with st := .stopped, pendTrig := false }
  else if streamWait r && !h.pendTrig then { h with st := .waiting }
  else { h with pendTrig := false }

/-- A producer's staged payload becomes complete at the end of a pass that wrote to it (R484). -/
def Lane.passSend (l : Lane) (va : Nat) : Lane :=
  match streamPlace va with
  | .endpoint e _ => l.writePdu e 0 [] true
  | _ => l

/-- A pass ends (R484, R486, R487, R491). -/
def Lane.passEnd (l : Lane) (c : Fin 16) : Lane :=
  let r := l.streamRec c
  let l := l.passSend (dstVa r)
  let l := if streamEvent r then l.event (176 + c.val) 1 else l
  let l := l.onStream c fun h => h.rewind r
  if (l.chan c).st = .stopping then l.streamStopped c else l.onStream c fun h => h.follow r

/-- The destination is a coefficient area, which is written word by word (R483). -/
def dstCoef (r : Bytes) : Bool := match streamPlace (dstVa r) with | .coef _ _ => true | _ => false

/-- First byte that the present beat has still to write: past the lower word where that is written (R483). -/
def Lane.beatNow (l : Lane) (c : Fin 16) : Nat := l.beatFrom c (l.chan c).beat + (if (l.chan c).half then 4 else 0)

/-- First byte after the next write of the present beat: one word at a time in a coefficient area, else the whole beat (R483,
R485). -/
def Lane.beatNext (l : Lane) (c : Fin 16) : Nat :=
  let e := l.beatTo c (l.chan c).beat
  if dstCoef (l.streamRec c) then min e (l.beatNow c + 4) else e

/-- One destination write. Only when the beat is whole its bytes leave the holding register, the channel moves on and the turn passes;
between the two words of a beat the turn stays with the channel (R478, R483, R485). -/
def Lane.beatWrite (l : Lane) (c : Fin 16) : Lane :=
  let h := l.chan c
  let j := l.beatNow c
  let n := l.beatNext c - j
  let whole := l.beatTo c h.beat ≤ j + n
  let l := l.streamPutN c j ((h.pool.drop (j - l.beatFrom c h.beat)).take n)
  let l := { l with str := { l.str with last := if whole then c else c - 1 } }
  let used := j + n - l.beatFrom c h.beat
  let l := l.onStream c fun h =>
    if whole then { h.withPool (h.pool.drop used) with beat := h.beat + 1, retries := 0, half := false } else { h with half := true }
  let l := l.traceMove c j n
  if passCount (l.streamRec c) ≤ j + n then l.passEnd c else l

/-- The supervisor clock runs (R26, R493). -/
def Lane.supClock (l : Lane) : Bool := l.clockOn 1

/-- The channel has a beat to do now: a pass in progress that waits for no walk (R478, R487). -/
def Lane.streamReady (l : Lane) (c : Fin 16) : Bool :=
  ((l.chan c).st = .running || (l.chan c).st = .stopping) && (l.chan c).walking.isNone

/-- How many channels the turn passes over, from the channel served last, to come to channel c. -/
def Lane.turnsTo (l : Lane) (c : Fin 16) : Fin 16 := c - l.str.last - 1

/-- It is the channel's turn: no ready channel comes before it in ascending order after the one served last (R478). A channel
whose beat a walk delays is passed over (DEDUCED: notes/assumptions/76.md). -/
def Lane.streamTurn (l : Lane) (c : Fin 16) : Bool :=
  (idxs 16).all fun d => !l.streamReady d || l.turnsTo c ≤ l.turnsTo d

/-- The stream engine and its translation work: power and clock, outside their self-test slice (R391, R493). -/
def Lane.streamsRun (l : Lane) : Bool := l.portOn && l.supClock && !l.inSlice 6

/-- The channel is served: ready, and its turn (R478). -/
def Lane.streamServed (l : Lane) (c : Fin 16) : Bool :=
  l.streamReady c && l.streamTurn c && l.streamsRun

/-- One beat of a channel: the source units it still needs, then the destination unit, each with what faults it; `err` is the error
response that the interconnect gives to its read or to its write (R482 to R490). -/
def Lane.streamBeat (l : Lane) (c : Fin 16) (err : Option BeatError) : Lane :=
  if !l.streamServed c then l
  else
    let l := l.streamLatch c
    let h := l.chan c
    match l.srcFault c with
    | some (x, a) => l.streamHalt c x a false
    | none => match l.beatMiss c with
      | some a => l.onStream c fun h => { h with walking := some a }
      | none =>
        let w := srcWidth (l.streamRec c)
        let reads := h.nextSrc < l.readEnd c (l.beatTo c h.beat)
        match err.filter fun e => !e.write && reads with
        | some e => l.beatError c e (l.srcAddr c h.nextSrc / w * w)
        | none =>
          let l := l.streamFill c
          match l.dstFault c with
          | some (x, a) => l.streamHalt c x a false
          | none => match err.filter BeatError.write with
            | some e => l.beatError c e (l.beatAddr c h.beat)
            | none => l.beatWrite c

/-! ### Triggers and walks -/

/-- A trigger event arrives: it starts the pass of a WAITING channel, and one is kept during a pass (R486). -/
def Lane.streamTriggered (l : Lane) (c : Fin 16) (ev : Byte) : Lane :=
  let r := l.streamRec c
  if !streamWait r || streamTrigger r ≠ ev.toNat || l.inSlice 6 then l
  else l.onStream c fun h => match h.st with
    | .waiting => { h with st := .running }
    | .running => { h with pendTrig := true }
    | _ => h

/-- A walk completes: the translation enters the TLB, in place of another where all 256 entries are in use (R478). -/
def Lane.walkDone (l : Lane) (c : Fin 16) : Lane :=
  match (if l.inSlice 6 then none else (l.chan c).walking) with
  | none => l
  | some a =>
    let e := (c.val, Config.tlbPage a)
    let t := l.str.tlb
    let t := if t.length < 256 then t ++ [e] else t.set (Config.tlbVictim l.free % 256) e
    ({ l.useFree with str := { l.str with tlb := t } }).onStream c fun h => { h with walking := none }

/-! ### Commands -/

/-- The channel a request names. -/
def reqChan (p : Bytes) : Option (Fin 16) :=
  let k := fieldAt p 0 1
  if h : k < 16 then some ⟨k, h⟩ else none

/-- A command on a named channel: RANGE for none, BUSY while a commit holds it (R45). -/
def Lane.onChannel (l : Lane) (m : MbId) (p : Bytes) (f : Fin 16 → Lane) : Lane :=
  match reqChan p with
  | none => l.respond m stsRange []
  | some c => if l.jobHolds 10 c.val then l.respond m stsBusy [] else f c

/-- STREAM_START (R488). -/
def Lane.streamStart (l : Lane) (m : MbId) (p : Bytes) : Lane :=
  l.onChannel m p fun c =>
    if l.streamStartable c then (l.streamBegin c).respond m stsOk [] else l.respond m stsState []

/-- STREAM_RESUME (R488, R491): the recorded beat, the holding register as it stood, a fresh retry budget and payload. -/
def Lane.streamResume (l : Lane) (m : MbId) (p : Bytes) : Lane :=
  l.onChannel m p fun c =>
    if (l.chan c).st = .halted && !(l.chan c).noResume then
      (l.onStream c fun h => { h with st := .running, cause := .none, retries := 0, latch := none }).respond m stsOk []
    else l.respond m stsState []

/-- STREAM_STATUS (R487). -/
def Lane.streamStatusOf (l : Lane) (p : Bytes) : Nat × Bytes :=
  match reqChan p with
  | none => (stsRange, [])
  | some c =>
    let h := l.chan c
    (stsOk, leBytes 1 (ststateCode h.st) ++ leBytes 1 (stcauseCode h.cause) ++ leBytes 2 0 ++ leBytes 4 h.haltBeat ++
      leBytes 4 h.haltAddr)

/-! ### Meanings -/

/-- STREAM_START (R488). -/
def execStreamStart (l : LaneId) (m : MbId) (s : State) : Host.Outcome State Fault Refusal :=
  s.serve l m 0x701 fun x p => x.streamStart m p

/-- STREAM_STOP (R488). -/
def execStreamStop (l : LaneId) (m : MbId) (s : State) : Host.Outcome State Fault Refusal :=
  s.serve l m 0x702 fun x p => x.onChannel m p fun c => (x.streamStop c).respond m stsOk []

/-- STREAM_STATUS (R487). -/
def execStreamStatus (l : LaneId) (m : MbId) (s : State) : Host.Outcome State Fault Refusal :=
  s.serve l m 0x703 fun x p => x.answer m (x.streamStatusOf p)

/-- STREAM_RESUME (R488, R491). -/
def execStreamResume (l : LaneId) (m : MbId) (s : State) : Host.Outcome State Fault Refusal :=
  s.serve l m 0x704 fun x p => x.streamResume m p

/-- STREAM_BEAT (R478, R482 to R490, R493). -/
def execStreamBeat (l : LaneId) (c : Fin 16) (err : Option BeatError) (s : State) : Host.Outcome State Fault Refusal :=
  .next (s.onLane l fun x => x.streamBeat c err)

/-- STREAM_TRIGGER (R486). -/
def execStreamTrigger (l : LaneId) (c : Fin 16) (ev : Byte) (s : State) : Host.Outcome State Fault Refusal :=
  .next (s.onLane l fun x => x.streamTriggered c ev)

/-- TLB_WALK_COMPLETE (R478). -/
def execTlbWalkComplete (l : LaneId) (c : Fin 16) (s : State) : Host.Outcome State Fault Refusal :=
  .next (s.onLane l fun x => x.walkDone c)

end Sys2Proof.Machine
end

