-- ==== Sys2Proof/Machine/Modes.lean ====
section
/-! DEFINITION. FAULT_CLEAR's effect (R374), rejoining (R108 to R110, R400), entry to LANE_ACTIVE (R95, R109, R110, R159, R361),
the loss of the Greens with its hold and profiles (R92, R104 to R106); the rows GREEN_LOST, HOLD_END, RAMP_ZERO_END,
REJOIN_DELAY_EXPIRE, RUNTIME_TEST_COMPLETE and REJOIN_TIMEOUT. -/

namespace Sys2Proof.Machine

/-! ### Entry to LANE_ACTIVE -/

/-- A triplex member starts its observation, its bridge in the safe-state pattern (R109, R344). -/
def Lane.startObserve (l : Lane) (nn : AxisId) : Lane :=
  let pat := if (l.axis nn).safe then (l.axis nn).pattern else l.entryPattern nn
  let l := l.onAxis nn fun a => { a with
    safe := false, pattern := pat, driving := false, profile := 0, rampDone := false,
    gate := { a.gate with cmd := 0 },
    red := { a.red with excluded := false, probation := true, observing := some (rejoinObserve l.laneRec), counts := vset a.red.counts l.idx 0 } }
  (l.driveGates nn).supStart nn

/-- The role an axis takes at an entry to LANE_ACTIVE (R109, R110, R341, R361). -/
def Lane.entryRole (l : Lane) (rejoin : Bool) (nn : AxisId) : Role :=
  let r := l.axisRec nn
  let p := peer0 r
  if !l.axisUsed nn then .unused
  else if cfgRole r = 3 || cfgRole r = 4 then
    (if rejoin || bit (vget l.links (axisLane p)).heard (p % 12) then .duplexStandby else roleOf (cfgRole r))
  else roleOf (cfgRole r)

/-- SIMPLEX_AUTO of the lane record (R103). -/
def simplexAuto (r : Bytes) : Bool := natBit (rejoinFlags r) 0

/-- An axis at an entry to LANE_ACTIVE (R109, R110): what drives again does so only where R267, R286 and R290 allow it. Under
SIMPLEX_AUTO a late power-up enables every simplex axis, a rejoin those that drove (notes/assumptions/67.md). -/
def Lane.enterAxis (l : Lane) (rejoin late : Bool) (nn : AxisId) : Lane :=
  let role := l.entryRole rejoin nn
  let l := l.setRole nn role
  match role with
  | .triplex => if rejoin || late then l.startObserve nn else l
  | .duplexStandby => if rejoin && (l.axis nn).safe && l.canEnable nn then (l.endProfile nn).leaveSafe nn else l
  | .simplex =>
    if (late || (rejoin && bit l.sys.drove nn.val)) && simplexAuto l.laneRec && l.canEnable nn then
      ((l.endProfile nn).enableOutputs nn).supStart nn
    else l
  | _ => l

/-- Every member sends its group descriptor to the lanes of its partners (R342). -/
def Lane.sendDescriptors (l : Lane) (sel : LaneId → Bool) : Lane :=
  each (idxs 12) (fun nn l =>
    let r := l.axisRec nn
    if isMember r then
      each (peersOf r) (fun a l => if sel (axisLane a) then l.sendLink (axisLane a) 2 (l.descriptorOf nn) else l) l
    else l) l

/-- The lane enters LANE_ACTIVE, by its start sequence or by a rejoin. -/
def Lane.enterActive (l : Lane) (rejoin : Bool) : Lane :=
  let late := l.partners.any l.partnerActive
  let l := { l with
    sys := { l.sys with rejoining := false, rejoinTime := false, autoClear := false, wasActive := true,
                        rejoined := rejoin && l.sys.rejoined },
    links := l.links.map fun (k : Link) => { k with everUp := k.up } }
  let l := l.toState .active
  let l := if rejoin then l.judgeMode else l.toMode (if l.allWell then .run else .degraded)
  let l := each (idxs 12) (fun nn l => l.enterAxis rejoin late nn) l
  let l := (((l.sendDescriptors fun _ => true).autoOpenAll).autostartAll).streamsAuto
  each (idxs 12) (fun nn l => if (l.axis nn).role = .duplexStandby then l.takeoverCheck nn false else l) l

/-! ### FAULT_CLEAR (R374) and the start of a rejoin (R108) -/

/-- What an OK FAULT_CLEAR clears. -/
def Lane.clearFaults (l : Lane) : Lane :=
  let l := { l with
    fc := { l.fc with first := none, overflow := false, seen := 0, raiseBits := BitVec.ofNat 128 (raiseField l.laneRec),
                      present := bitPut l.fc.present 0 false },
    ax := l.ax.map fun (a : Axis) => { a with faultSrc := 0xFF, classA := false },
    inp := { l.inp with pairs := l.inp.pairs.map fun (p : Pair) => { p with cleared := true } } }
  ((l.event 210 0).releaseTrips).fbClear

/-- A rejoin may start, judged on the record as it stands before the clear: its source is transient-eligible, which only a class
L fault is (R108, R367, R374). -/
def Lane.rejoinMay (l : Lane) : Bool :=
  l.sys.lstate = .safe && l.tst.run.isNone && l.sys.mode ≠ .shutdown && l.sys.wasActive && !l.sys.rejoined &&
    rejoinMode l.laneRec ≠ 0 && !l.fc.overflow &&
    match l.fc.first with
    | some r => srcEligible r.src.val && r.cls = 3
    | none => false

/-- Step 1 of R109: LANE_TEST, where every slot stops and the streams halt (R162, R491). -/
def Lane.startRejoin (l : Lane) : Lane :=
  let l := { l with sys := { l.sys with rejoining := true, rejoinTime := false, rejoined := true, autoClear := false } }
  ((l.toState .test).stopSlots true).streamsAbort false

/-- Source 0 stands and its complement check fails again after the registers have been rewritten: a free value says so (R374,
notes/assumptions/81.md). -/
def Lane.copyFails (l : Lane) : Bool := bit l.fc.present 0 && l.freeBelow 2 = 1

/-- FAULT_CLEAR: the lane and whether it returned OK. -/
def Lane.faultClear (l : Lane) : Lane × Bool :=
  let again := l.copyFails
  let l := if bit l.fc.present 0 then l.useFree else l
  let rewritten := { l with fc := { l.fc with present := bitPut l.fc.present 0 false } }
  if again || rewritten.blocking || l.tripBlocks then (l, false)
  else
    let may := l.rejoinMay
    let l := l.clearFaults
    (if may then l.startRejoin else l, true)

/-- rejoin_delay_ms has passed in LANE_SAFE under AUTO: Gamar clears once (R108), where its pair is not held (R389). DESIGN CHOICE: it
does so also where no rejoin can follow (notes/assumptions/81.md). -/
def Lane.autoClearNow (l : Lane) : Lane :=
  if l.sys.lstate = .safe && l.sys.autoClear && !l.sys.rejoined && !l.lk.failed then
    ({ l with sys := { l.sys with autoClear := false } }.faultClear).1
  else l

/-! ### The steps of a rejoin (R109, R110, R400) -/

/-- A time source is there: a class 2 frame of a partner in LANE_ACTIVE or, with no such partner, cluster global time (R109
step 3). -/
def Lane.timeSource (l : Lane) : Bool :=
  if l.partners.any fun k => (vget l.links k).active && (vget l.links k).up then
    l.partners.any fun k => (vget l.links k).active && (vget l.links k).up && (vget l.links k).gotTime
  else l.tm.sync = .synced

/-- A rejoin whose tests have passed enters LANE_ACTIVE once it has a time source. -/
def Lane.rejoinTry (l : Lane) : Lane :=
  if l.sys.lstate = .test && l.sys.rejoining && l.sys.rejoinTime && l.timeSource then l.enterActive true else l

/-- What the rotation of an axis found. -/
def rotationOf (t : RuntimeResult) (nn : AxisId) : StandbyResult :=
  match t.rotations.find? fun x => x.1 = nn with
  | some x => x.2
  | none => { gateFail := 0, gateHigh := 0, cmpFail := 0 }

/-- The context of event 227 (R400): bit 0 injection, 1 GATE, 2 CMP, 3 ADC, 4 SENSOR. -/
def Lane.runtimeBits (l : Lane) (ok : Bool) : Nat :=
  let used := (idxs 12).filter fun nn => (l.axis nn).role ≠ .unused
  b2n (!ok) + 2 * b2n (used.any fun nn => (l.axis nn).red.gateFail) + 4 * b2n (used.any fun nn => (l.axis nn).red.cmpFail) +
    8 * b2n (used.any fun nn => bit l.afe.refFail (adcOf nn).val) + 16 * b2n (used.any fun nn => l.sensorBit nn)

/-- The runtime tests of a rejoin complete (R109, R110, R387, R400). -/
def Lane.runtimeDone (l : Lane) (t : RuntimeResult) : Lane :=
  if l.sys.lstate ≠ .test || !l.sys.rejoining || l.sys.rejoinTime then l
  else
    let l := each (idxs 12) (fun nn l => if (l.axis nn).role ≠ .unused then l.testAxis nn (rotationOf t nn) else l) l
    let bits := l.runtimeBits (injectionOk t.injection)
    let l := l.injectionTest t.injection
    let l := l.event 227 bits
    if bits ≠ 0 then l.enterLaneSafe
    else if l.sys.rejoining then { l with sys := { l.sys with rejoinTime := true } }.rejoinTry
    else l

/-- The 25 ms of a rejoin have passed, or no time source was found (R110). -/
def Lane.rejoinLate (l : Lane) : Lane := if l.sys.lstate = .test && l.sys.rejoining then l.enterLaneSafe else l

/-! ### Partners in LANE_ACTIVE (R95) -/

/-- The lane sees partner k in LANE_ACTIVE: event 195 + k, and the mode is judged. Only a line at 01 takes that away (R16, R95). -/
def Lane.seePartner (l : Lane) (k : LaneId) (active : Bool) : Lane :=
  if !active || (vget l.links k).active then l
  else ((l.onLink k fun x => { x with active := true }).event (195 + k.val) 0).judgeMode

/-- A partner reads as in LANE_ACTIVE: it is there, and its line does not say that it is lost. -/
def Lane.partnerSeen (l p : Lane) : Bool := (vget l.links p.idx).line ≠ .r01 && p.sys.lstate = .active

/-! ### The Greens (R92, R104 to R106) -/

/-- When the last Green is lost, global time of a synchronised lane keeps its rate and the lane returns to LISTEN (R112, R438,
R445). -/
def Lane.holdover (l : Lane) : Lane :=
  if !l.bothLost then l
  else
    let l := { l with
      net := { l.net with integ := .listen, master := false, inState := 0, goodRun := 0, limitRun := 0 },
      tm := { l.tm with slew := 0 } }
    if l.tm.sync = .synced then l.setSync .holdover else l

/-- A present Green has delivered no valid frame for green_loss_cycles consecutive cycles (R92). -/
def Lane.greenSilent (l : Lane) (g : GreenId) : Bool :=
  let c := vget l.net.chan g
  c.view = .present && !c.gotNow && greenLossCycles l.laneRec ≤ c.missed

/-- The hold starts: event 158 (R104). -/
def Lane.holdStart (l : Lane) : Lane := ({ l with net := { l.net with hold := .holding } }.holdMark).event 158 0

/-- A Green that was present is lost (R92, R95, R104). -/
def Lane.greenLost (l : Lane) (g : GreenId) : Lane :=
  if !l.greenSilent g then l
  else
    let l := l.onChan g fun c => { c with view := .lost, gotNow := false, gotPrev := false }
    let l := ((l.event (147 + 2 * g.val) 0).fault (102 + g.val) 0xFF 0 0 0).holdover.judgeMode
    if l.bothLost && l.net.hold = .none then l.holdStart else l

/-- The view of a Green becomes present: the mode is judged, and with the view both Greens lost its hold has ended, so that a
later loss starts a new one (R92, R95, R104, R106). -/
def Lane.greenThere (l : Lane) (g : GreenId) : Lane :=
  let l := (l.onChan g fun c => { c with view := .present }).judgeMode
  { l with net := { l.net with hold := .none } }

/-- A Green is restored (R92, R106). -/
def Lane.greenRestored (l : Lane) (g : GreenId) : Lane :=
  ((l.event (148 + 2 * g.val) 0).healthy (102 + g.val)).greenThere g

/-- The axis state apart from a debug halt. -/
def Lane.stateUnhalted (l : Lane) (nn : AxisId) : Nat := { l with sys := { l.sys with halted := false } }.axisState nn

/-- The hold ends: event 159, deferred reactions, then the profiles (R104, R105, R459). -/
def Lane.holdEnd (l : Lane) : Lane :=
  if l.net.hold ≠ .holding then l
  else
    let l := { l with
      net := { l.net with hold := .ended },
      eps := l.eps.map fun (x : Endpoint) => { x with kept := x.kept || x.delivers } }
    let l := (l.event 159 0).holdRelease fun _ => true
    each (idxs 12) (fun nn l =>
      let v := l.stateUnhalted nn
      if v = 2 || v = 3 || v = 4 || v = 6 then l.startProfile nn else l) l

/-- A RAMP_ZERO profile has reached zero (R105). -/
def Lane.rampEnd (l : Lane) (nn : AxisId) : Lane :=
  if (l.axis nn).profile = 2 then l.onAxis nn fun a => { a with rampDone := true } else l

/-! ### Meanings -/

/-- GREEN_LOST (R92, R95, R104). -/
def execGreenLost (l : LaneId) (g : GreenId) (s : State) : Host.Outcome State Fault Refusal :=
  .next (s.onLane l fun x => x.greenLost g)

/-- HOLD_END (R104, R105, R459). -/
def execHoldEnd (l : LaneId) (s : State) : Host.Outcome State Fault Refusal := .next (s.onLane l Lane.holdEnd)

/-- RAMP_ZERO_END (R105). -/
def execRampZeroEnd (l : LaneId) (nn : AxisId) (s : State) : Host.Outcome State Fault Refusal :=
  .next (s.onLane l fun x => x.rampEnd nn)

/-- REJOIN_DELAY_EXPIRE (R108, R374). -/
def execRejoinDelayExpire (l : LaneId) (s : State) : Host.Outcome State Fault Refusal :=
  .next (s.onLane l Lane.autoClearNow)

/-- RUNTIME_TEST_COMPLETE (R109, R110, R400). -/
def execRuntimeTestComplete (l : LaneId) (r : RuntimeResult) (s : State) : Host.Outcome State Fault Refusal :=
  .next (s.onLane l fun x => x.runtimeDone r)

/-- REJOIN_TIMEOUT (R110). -/
def execRejoinTimeout (l : LaneId) (s : State) : Host.Outcome State Fault Refusal := .next (s.onLane l Lane.rejoinLate)

end Sys2Proof.Machine
end

