-- ==== Sys2Proof/Machine/AxisCommands.lean ====
section
/-! DEFINITION. The mailbox commands of axes, faults and health (R56, R58, R59, R61, R267, R354, R359, R366, R369, R374). -/

namespace Sys2Proof.Machine

/-- AXIS_STATUS (R61, R341, R359): role, state, configured safe state, health word bits 7:0, fault source. An axis whose
record is not in use reports safe state OPEN (DEDUCED, R80). -/
def Lane.axisStatus (l : Lane) (p : Bytes) : Nat × Bytes :=
  match l.reqAxis p with
  | none => (stsRange, [])
  | some nn =>
    let a := l.axis nn
    (stsOk, leBytes 1 (roleCode a.role) ++ leBytes 1 (l.axisState nn) ++ leBytes 1 (if l.axisUsed nn then safeState (l.axisRec nn) % 16 else 0) ++
      leBytes 1 a.red.health.toNat ++ leBytes 1 a.faultSrc.toNat ++ [0, 0, 0])

/-- An axis that does not drive yet stands by, observes, or drives with its supervisor started (R240, R244, R344, R352). -/
def Lane.enableRole (l : Lane) (nn : AxisId) : Lane :=
  let a := l.axis nn
  match a.role with
  | .duplexStandby => if a.red.takeover.isSome then l else (l.leaveSafe nn).takeoverCheck nn false
  | .triplex =>
    if a.red.excluded || a.red.probation then l.startObserve nn else (l.enableOutputs nn).supStart nn
  | .duplexActive => ((l.onAxis nn fun a => { a with red := { a.red with ckptSeq := 0 } }).enableOutputs nn).supStart nn
  | _ => (l.enableOutputs nn).supStart nn

/-- The axis is enabled, once nothing refuses it: FALLBACK returns to the channel, the failed-catch count returns to 0, an axis
that drives already ends its network-loss profile and goes on (R106, R314, R331); a supervisor that does not start leaves FAILED
for IDLE (R331, R333). -/
def Lane.enableAxis (l : Lane) (nn : AxisId) : Lane :=
  let a := l.axis nn
  let l := ((l.fbReturn nn).endProfile nn).onAxis nn fun a => { a with sup := { a.sup with fails := 0 } }
  let l := if a.enabled && !a.safe then l else l.enableRole nn
  if (l.axis nn).sup.drive = .failed then l.supHome nn else l

/-- AXIS_ENABLE (R62, R267, R286, R290, R341, R366): a refused enable puts the axis in its safe state (R61). -/
def Lane.axisEnable (l : Lane) (m : MbId) (p : Bytes) : Lane :=
  match l.reqAxis p with
  | none => l.respond m stsRange []
  | some nn =>
    if l.sys.lstate ≠ .active || !l.axisUsed nn || (l.axis nn).role = .unused then l.respond m stsState []
    else if l.jobHolds 2 (l.dev nn) then l.respond m stsBusy []
    else if !l.canEnable nn || (l.axis nn).classA then (l.enterSafe nn).respond m stsRefused []
    else (l.enableAxis nn).respond m stsOk []

/-- AXIS_DISABLE (R59): the axis goes to its configured safe state. -/
def Lane.axisDisable (l : Lane) (m : MbId) (p : Bytes) : Lane :=
  match l.reqAxis p with
  | none => l.respond m stsRange []
  | some nn =>
    if l.jobHolds 2 (l.dev nn) then l.respond m stsBusy []
    else (l.enterSafe nn).respond m stsOk []

/-- The standby's newest health word reads READY and the link to it is up (R354). -/
def Lane.standbyReady (l : Lane) (nn : AxisId) : Bool :=
  let p := peer0 (l.axisRec nn)
  p < 36 && bit (l.mem.health.toList.getD p 0) 0 && (vget l.links (axisLane p)).up

/-- AXIS_HANDOVER (R354): the next CKPT run sets FINAL; a drop whose FINAL is posted already goes its way. -/
def Lane.axisHandover (l : Lane) (m : MbId) (p : Bytes) : Lane :=
  match l.reqAxis p with
  | none => l.respond m stsRange []
  | some nn =>
    if l.sys.lstate ≠ .active || (l.axis nn).role ≠ .duplexActive then l.respond m stsState []
    else if l.jobHolds 2 (l.dev nn) then l.respond m stsBusy []
    else if !l.standbyReady nn then l.respond m stsRefused []
    else (if l.dropPosted nn then l else l.onRed nn fun d => { d with planned := .armed }).respond m stsOk []

/-- GRANARY_READ (R58, R350): the newest valid record; with none the payload is empty. A record that is being committed is torn until
its last word (R349). -/
def Lane.granaryRead (l : Lane) (p : Bytes) : Nat × Bytes :=
  match l.reqAxis p with
  | none => (stsRange, [])
  | some nn =>
    if (l.axis nn).role ≠ .duplexStandby then (stsState, [])
    else
      let b := match l.newestRecord nn with | some x => x.2 | none => []
      (if (l.axis nn).red.torn || (l.axis nn).red.commit.isSome then stsTorn else stsOk, b)

/-- FAULT_READ (R56, R369): the record, source 0xFF and zeros where there is none. -/
def Lane.faultRead (l : Lane) : Bytes :=
  match l.fc.first with
  | some r => leBytes 1 r.src.val ++ leBytes 1 r.cls ++ leBytes 1 (b2n l.fc.overflow) ++ [0] ++ leBytes 8 r.time.toNat ++
      slice r.ctx 0 16
  | none => [0xFF, 0] ++ leBytes 1 (b2n l.fc.overflow) ++ [0] ++ List.replicate 24 0

/-- FAULT_CLEAR (R59, R374). -/
def Lane.faultClearCmd (l : Lane) (m : MbId) : Lane :=
  let r := l.faultClear
  r.1.respond m (if r.2 then stsOk else stsRefused) []

/-- HEALTH_READ (R359): the health words of the 36 device axes. -/
def Lane.healthRead (l : Lane) : Bytes := l.mem.health.toList.flatMap fun w => leBytes 4 w.toNat

/-! ### Meanings -/

/-- AXIS_STATUS (R61). -/
def execAxisStatus (l : LaneId) (m : MbId) (s : State) : Host.Outcome State Fault Refusal :=
  s.serve l m 0x401 fun x p => x.answer m (x.axisStatus p)

/-- AXIS_ENABLE (R267, R341, R366). -/
def execAxisEnable (l : LaneId) (m : MbId) (s : State) : Host.Outcome State Fault Refusal :=
  s.serve l m 0x402 fun x p => x.axisEnable m p

/-- AXIS_DISABLE (R59). -/
def execAxisDisable (l : LaneId) (m : MbId) (s : State) : Host.Outcome State Fault Refusal :=
  s.serve l m 0x403 fun x p => x.axisDisable m p

/-- AXIS_HANDOVER (R354). -/
def execAxisHandover (l : LaneId) (m : MbId) (s : State) : Host.Outcome State Fault Refusal :=
  s.serve l m 0x404 fun x p => x.axisHandover m p

/-- GRANARY_READ (R58, R350). -/
def execGranaryRead (l : LaneId) (m : MbId) (s : State) : Host.Outcome State Fault Refusal :=
  s.serve l m 0x405 fun x p => x.answer m (x.granaryRead p)

/-- FAULT_READ (R369). -/
def execFaultRead (l : LaneId) (m : MbId) (s : State) : Host.Outcome State Fault Refusal :=
  s.serve l m 0x501 fun x _ => x.respond m stsOk x.faultRead

/-- FAULT_CLEAR (R59, R374). -/
def execFaultClear (l : LaneId) (m : MbId) (s : State) : Host.Outcome State Fault Refusal :=
  s.serve l m 0x502 fun x _ => x.faultClearCmd m

/-- HEALTH_READ (R359). -/
def execHealthRead (l : LaneId) (m : MbId) (s : State) : Host.Outcome State Fault Refusal :=
  s.serve l m 0x503 fun x _ => x.respond m stsOk x.healthRead

end Sys2Proof.Machine
end

