-- ==== Sys2Proof/Machine/Links.lean ====
section
/-! DEFINITION. The lane links (R15 to R19, R29 to R31, R91): handover lines, link up and down, frames sent and received; the
rows HANDOVER_LINE_CHANGE, HANDOVER_LINE_FAILED, LINK_UP, LINK_FRAME_RECEIVE, LINK_FRAME_SEND, LINK_IDLE_FRAME and LINK_DOWN. -/

namespace Sys2Proof.Machine

/-! ### Handover lines -/

/-- What a lane drives on its handover lines (R15, R31). -/
def Lane.handoverOut (l : Lane) : Rail :=
  if l.sys.lstate = .active && l.sys.mode ≠ .shutdown then .r10
  else if l.sys.lstate = .test && l.sys.rejoining then .r10 else .r01

/-- The lane-link domain runs: awake, its clock good and proven (R26, R30, R500), the block not
under test (R391). -/
def Lane.linkRuns (l : Lane) : Bool := l.awake && l.clockOn 5 && !l.inSlice 8

/-- A failed handover line reads 10 or 01 again (R362, R363). -/
def Lane.lineHealed (l : Lane) (k : LaneId) : Lane :=
  match (vget l.links k).line with
  | .r00 | .r11 => l.healthy (99 + k.val)
  | _ => l

/-- Partner k's line reads 10 (R29, R91, R95). -/
def Lane.lineAlive (l : Lane) (k : LaneId) (active : Bool) : Lane :=
  ((l.lineHealed k).onLink k fun x => { x with line := .r10, everAlive := true, alive := true }).seePartner k active

/-- Partner k's line reads 01: a partner that was alive, or seen in LANE_ACTIVE, is lost (R16, R91, R95 to R100), the takeovers it
causes are judged (R352), and a rejoin that waited for it looks for its time source afresh (R109 step 3). -/
def Lane.lineLost (l : Lane) (k : LaneId) : Lane :=
  let was := (vget l.links k).alive || (vget l.links k).active
  let l := (l.lineHealed k).onLink k fun x => { x with line := .r01, alive := false, active := false }
  let l := if was then (l.event (192 + k.val) 0).judgeMode else l
  (l.takeoverLane k).rejoinTry

/-- A line read while the lane is off or in reset: its level is kept, nothing else happens. -/
def Lane.lineAsleep (l : Lane) (k : LaneId) (alive : Bool) : Lane :=
  l.onLink k fun x => { x with line := if alive then .r10 else .r01, everAlive := alive, alive := alive }

/-- The handover line of partner k changes. -/
def Lane.handoverChange (l : Lane) (k : LaneId) (alive active : Bool) : Lane :=
  if k = l.idx then l
  else if !l.awake then l.lineAsleep k alive
  else if alive then l.lineAlive k active else l.lineLost k

/-- A handover line has read 00 or 11 for more than 1 µs: a fault of the link, never the loss of the lane (R15, R16). -/
def Lane.handoverFailed (l : Lane) (k : LaneId) (high : Bool) : Lane :=
  if k = l.idx || !l.awake then l
  else (l.onLink k fun x => { x with line := if high then .r11 else .r00 }).fault (99 + k.val) 0xFF 0 0 0

/-! ### Up and down -/

/-- The link towards lane k comes up: sequences and the class 2 gate start afresh, and traffic starts with class 2 frames, time
first (R30, R342). DESIGN CHOICE: it forgets the last accepted sequence numbers, so the first frame of each class passes; R17
states no restart of the sequence (notes/assumptions/68.md). -/
def Lane.linkUp (l : Lane) (k : LaneId) : Lane :=
  if k = l.idx || !l.linkRuns || (vget l.links k).up then l
  else
    let l := l.onLink k fun x => { x with
      up := true, everUp := x.everUp || l.sys.wasActive, cameUp := true, gotTime := false, rxSeq := Vector.replicate 4 none,
      txq := Vector.replicate 4 [], heard := 0 }
    ((l.healthy (96 + k.val)).sendLink k 2 (.time l.tm.glob)).sendDescriptors fun j => j = k

/-- The link from lane k has delivered no valid frame for 8 µs (R18). -/
def Lane.linkDown (l : Lane) (k : LaneId) : Lane :=
  let x := vget l.links k
  if k = l.idx || !x.up then l
  else
    let waiting := (x.txq.toList.map List.length).sum
    let l := l.onLink k fun x => { x with
      up := false, gotTime := false, txq := Vector.replicate 4 [], lostTx := x.lostTx + waiting }
    (if x.everUp then l.fault (96 + k.val) 0xFF 0 0 0 else l).rejoinTry

/-! ### Sending -/

/-- The frame of a class with its next sequence number on the wire (R17). -/
def Link.put (x : Link) (c : Fin 4) (b : LinkPayload) : Link :=
  let q := vget x.txSeq c + 1
  { x with txSeq := vset x.txSeq c q, wire := some { cls := c.val, seq := q, crcOk := true, body := b } }

/-- Classes that may be sent: 0 and 1 only after the receiving lane has accepted a class 2 frame (R30). -/
def classOpen (ready : Bool) (c : Fin 4) : Bool := ready || 2 ≤ c.val

/-- The next class with traffic, strict priority by class (R19). -/
def Link.nextClass (x : Link) (ready : Bool) : Option (Fin 4) :=
  (idxs 4).find? fun c => classOpen ready c && !(vget x.txq c).isEmpty

/-- The link towards lane k sends its next frame; `ready` says that lane k has accepted a class 2 frame (R19, R30). -/
def Lane.linkSend (l : Lane) (k : LaneId) (ready : Bool) : Lane :=
  let x := vget l.links k
  if k = l.idx || !l.linkRuns || !x.up then l
  else match x.nextClass ready with
    | none => l
    | some c => match vget x.txq c with
      | [] => l
      | b :: bs => l.onLink k fun x => ({ x with txq := vset x.txq c bs }.put c b)

/-- With nothing to carry, an idle frame (R17): on the outgoing direction, whether or not the incoming one is down. -/
def Lane.linkIdle (l : Lane) (k : LaneId) (ready : Bool) : Lane :=
  let x := vget l.links k
  if k = l.idx || !l.linkRuns || (x.nextClass ready).isSome then l
  else l.onLink k fun x => x.put 3 .idle

/-! ### Receiving -/

/-- A frame passes: CRC, a class that exists, the next sequence number of its class (R17). -/
def Link.takes (x : Link) (f : LinkFrame) : Bool :=
  f.crcOk && f.cls < 4 &&
    match vget x.rxSeq (fin f.cls) with
    | none => true
    | some q => f.seq = q + 1

/-- Time resynchronisation: a lane without cluster time steps to the partner's time (R112, R113), one in LANE sync state again
when a link returns (R138). -/
def Lane.timeHeard (l : Lane) (g : W64) : Lane :=
  if l.tm.sync = .none || l.tm.sync = .lane then (l.stepGlobal g.toNat).setSync .lane else l

/-- What an accepted frame does. -/
def Lane.linkBody (l : Lane) (k : LaneId) : LinkPayload → Lane
  | .idle => l
  | .coord a o e v => l.coordValues k a o e v
  | .checkpoint a b => match l.ownAxis a with | some nn => l.checkpoint nn b | none => l
  | .health a w => l.healthHeard k a w
  | .time g => l.timeHeard g
  | .descriptor a c r p0 p1 t u => l.descriptorHeard k a c r p0 p1 t u
  | .take a => match l.ownAxis a with | some nn => l.takeHeard nn | none => l
  | .released a => match l.ownAxis a with | some nn => l.releasedHeard nn | none => l
  | .abort a => match l.ownAxis a with | some nn => l.abortHeard nn | none => l
  | .service _ => l

/-- An accepted frame: sequence kept, a class 2 frame noted with what it says of the partner, then its content (R17, R30,
R95, R109). -/
def Lane.linkAccept (l : Lane) (k : LaneId) (active : Bool) (f : LinkFrame) : Lane :=
  let l := l.onLink k fun x => { x with
    rxSeq := vset x.rxSeq (fin f.cls) (some f.seq), gotTime := x.gotTime || f.cls = 2 }
  let l := if f.cls = 2 then l.seePartner k active else l
  (l.linkBody k f.body).rejoinTry

/-- A frame arrives from lane k: discarded and counted, or accepted (R17). A valid frame on a direction that is down ends that
(R18). -/
def Lane.linkReceive (l : Lane) (k : LaneId) (active : Bool) (f : LinkFrame) : Lane :=
  if k = l.idx || !l.linkRuns then l
  else if (vget l.links k).takes f then (l.linkUp k).linkAccept k active f
  else l.onLink k fun x => { x with discards := x.discards + 1 }

/-- Lane k has accepted a class 2 frame of lane l since the link came up (R30). -/
def State.linkReady (s : State) (l k : LaneId) : Bool :=
  (vget (s.lane k).links l).up && (vget (s.lane k).links l).gotTime

/-! ### Meanings -/

/-- HANDOVER_LINE_CHANGE (R15, R16, R29, R91, R95 to R100, R352). -/
def execHandoverLineChange (l : LaneId) (k : LaneId) (alive : Bool) (s : State) : Host.Outcome State Fault Refusal :=
  .next (s.onLane l fun x => x.handoverChange k alive ((s.lane k).sys.lstate = .active))

/-- HANDOVER_LINE_FAILED (R15, R16, R102). -/
def execHandoverLineFailed (l : LaneId) (k : LaneId) (high : Bool) (s : State) : Host.Outcome State Fault Refusal :=
  .next (s.onLane l fun x => x.handoverFailed k high)

/-- LINK_UP (R30, R342): both ends are powered and their lane-link domains run. -/
def execLinkUp (l : LaneId) (k : LaneId) (s : State) : Host.Outcome State Fault Refusal :=
  .next (s.onLane l fun x => if (s.lane k).linkRuns then x.linkUp k else x)

/-- LINK_FRAME_RECEIVE (R17, R30, R112, R223, R342, R347, R354, R357, R359). -/
def execLinkFrameReceive (l : LaneId) (k : LaneId) (f : LinkFrame) (s : State) : Host.Outcome State Fault Refusal :=
  .next (s.onLane l fun x => x.linkReceive k (x.partnerSeen (s.lane k)) f)

/-- LINK_FRAME_SEND (R19, R30). -/
def execLinkFrameSend (l : LaneId) (k : LaneId) (s : State) : Host.Outcome State Fault Refusal :=
  .next (s.onLane l fun x => x.linkSend k (s.linkReady l k))

/-- LINK_IDLE_FRAME (R17). -/
def execLinkIdleFrame (l : LaneId) (k : LaneId) (s : State) : Host.Outcome State Fault Refusal :=
  .next (s.onLane l fun x => x.linkIdle k (s.linkReady l k))

/-- LINK_DOWN (R16, R18, R102). -/
def execLinkDown (l : LaneId) (k : LaneId) (s : State) : Host.Outcome State Fault Refusal :=
  .next (s.onLane l fun x => x.linkDown k)

end Sys2Proof.Machine
end

