-- ==== Sys2Proof/Machine/Collector.lean ====
section
/-! DEFINITION. What reaches the collector from outside it (R362 to R378), the lockstep pair (R379 to R390), clocks (R26) and
power branches (R12); the rows FAULT_REPORT, FAULT_LINE_INVALID, COMPLEMENT_MISMATCH, FAULT_LINE_HEALTHY, SIGNATURE_COMPARE,
DELAY_FAULT, COMMIT_BUFFER_FULL, CLOCK_FAULT and BRANCH_OVERLOAD. -/

namespace Sys2Proof.Machine

/-! ### Reports -/

/-- A lockstep source (R389). -/
def srcPair (s : Nat) : Bool := s = 1 || s = 2 || s = 3 || s = 12

/-- What a report does in the block it comes from: a memory error halts the slot named, its nodes concerned with it, a dispatcher
error halts every slot (R163); a lockstep source holds the pair, and sources 2 and 12 latch (R380, R384, R389). -/
def Lane.reportBlock (l : Lane) (f : Flagged) : Lane :=
  let s := f.rep.src.val
  if bit l.fc.mask s then l
  else if s = 6 || s = 7 then (if f.rep.index.toNat < 64 && !f.wire then l.memoryError (fin f.rep.index.toNat) f.rep.units else l)
  else if s = 9 then (if f.wire then l else each (idxs 64) (fun k l => l.haltSlot k) l)
  else if srcPair s then
    { l with lk := { l.lk.discard with disagree := l.lk.disagree || s = 2, delay := l.lk.delay || (s = 12 && !f.wire) } }
  else l

/-- A condition outside the lane's own logic, of which its line is told, begins or ends: a clock, a rail, a home port, a die
temperature, which a measurement alone ends (R541). It stands while the lane is held in reset or parked, for the collector's first
sample (R362). -/
def Lane.condition (l : Lane) (s : Nat) (index : Nat) (on : Bool) : Lane :=
  let y := l.sys
  { l with sys :=
      if 16 ≤ s && s ≤ 22 then { y with badClocks := bitPut y.badClocks (s - 16) on }
      else if s = 25 then { y with railBad := on }
      else if s = 26 then { y with portLost := if on then bitPut y.portLost (index / 16) true else 0 }
      else if 113 ≤ s && s ≤ 116 && on then { y with hot := bitPut y.hot (s - 113) true }
      else y }

/-- The conditions that reports tell of. -/
def Lane.conditions (l : Lane) (fs : List Flagged) : Lane :=
  each fs (fun f l => if f.wire then l else l.condition f.rep.src.val f.rep.index.toNat true) l

/-- Reports that reach a lane's collector: their conditions stand, each acts in the block it comes from, and they are collected in one
monitor cycle. Of a lane held in reset the condition and the failed line remain for its first sample (R362). -/
def Lane.reportAll (l : Lane) (fs : List Flagged) : Lane :=
  let fs := fs.filter fun f => !srcReserved f.rep.src.val
  let l := l.conditions fs
  if !l.awake then
    { l with fc := { l.fc with invalid := fs.foldl (fun v x => if x.wire then bitPut v x.rep.src.val true else v) l.fc.invalid } }
  else (each fs (fun f l => l.reportBlock f) l).collect fs

/-- The reports of one monitor cycle. -/
def plain (rs : List Report) : List Flagged := rs.map fun r => { rep := r, wire := false, complement := false }

/-- An invalid code that has persisted for 3 monitor cycles (R364). -/
def wired (src : Fin 128) : Flagged :=
  { rep := { src := src, axis := 0xFF, detail := 0, index := 0, data := 0, units := [] }, wire := true, complement := false }

/-! ### The complement copies (R372) -/

/-- A stored register with a complement copy. -/
def storedReg (off : Nat) : Bool := off % 4 = 0 && off < 0x4C

/-- The report of source 0 for a register. -/
def mismatchReport (off : Nat) : Flagged :=
  { rep := { src := 0, axis := 0xFF, detail := 0, index := BitVec.ofNat 16 off, data := 0, units := [] }, wire := false, complement := true }

/-- Any record held is replaced by one of source 0, with overflow (R372). -/
def Lane.replaceRecord (l : Lane) (off : Nat) : Lane :=
  let was := l.fc.overflow
  let rec' := l.record (mismatchReport off) 3
  let l := ({ l with fc := { l.fc with first := some rec', overflow := true } }.event 208 0).irq 0x40
  if was then l else l.event 209 0

/-- A register differs from its copy. -/
def Lane.mismatch (l : Lane) (off : Nat) : Lane :=
  if !l.awake || !storedReg off || bit l.fc.mask 0 then l
  else
    let held := l.fc.first.isSome
    let l := l.collect [mismatchReport off]
    if off < 0x1C && held then l.replaceRecord off else l

/-! ### Lines that return to HEALTHY -/

/-- The block of a level source still holds its condition, so its line cannot read HEALTHY (R273, R309, R363, R380, R384). -/
def Lane.lineHeld (l : Lane) (s : Nat) : Bool :=
  if s = 2 then l.lk.disagree
  else if s = 12 then l.lk.delay
  else if s = 24 then l.afe.refFail ≠ 0
  else if srcGate s then
    let nn : AxisId := fin ((s - 32) / 4)
    let g := (l.axis nn).gate
    match (s - 32) % 4 with
    | 0 => g.uvlo ≠ 0 || bit l.gd.uvlo (groupOf nn)
    | 1 => g.short ≠ 0
    | 2 => g.shoot ≠ 0
    | _ => g.readback ≠ 0
  else if 80 ≤ s && s ≤ 91 then (l.axis (fin (s - 80))).fb.invalid
  else if 96 ≤ s && s ≤ 98 then (vget l.links (fin (s - 96))).everUp && !(vget l.links (fin (s - 96))).up
  else if 99 ≤ s && s ≤ 101 then
    (vget l.links (fin (s - 99))).line = .r00 || (vget l.links (fin (s - 99))).line = .r11
  else if s = 102 || s = 103 then (vget l.net.chan (fin (s - 102))).view = .lost
  else if 113 ≤ s && s ≤ 116 then bit l.sys.hot (s - 113)
  else if s = 120 then (idxs 12).any fun nn => (l.axis nn).red.incons
  else false

/-- A line returns to HEALTHY: an invalid code ends, and the condition outside the lane's logic that the line told of (R26, R362,
R363); a line whose block still holds its condition then reads FAULT (R364). -/
def Lane.lineHealthy (l : Lane) (s : Nat) : Lane :=
  let l := { l.condition s 0 false with fc := { l.fc with invalid := bitPut l.fc.invalid s false } }
  if !l.awake || l.lineHeld s then l else l.healthy s

/-! ### Clocks and power branches -/

/-- A clock of a lane deviates or stops (R26). A lane without power has no clock. -/
def Lane.clockBad (l : Lane) (k : Fin 7) : Lane :=
  if !l.sys.powered then l else l.reportAll [report (16 + k.val) 0xFF 0 0 0]

/-- A branch of home port k of Green g trips its own limiter only (R12). DESIGN CHOICE: no rule releases a tripped limiter, and
the model keeps it tripped (notes/assumptions/74.md). -/
def State.tripBranch (s : State) (g : GreenId) (k : LaneId) (star : Bool) : State :=
  { s with homes := vmod s.homes (fin (3 * g.val + k.val)) (fun h =>
      if star then { h with starTrip := true } else { h with laneTrip := true }) }

/-! ### Meanings -/

/-- FAULT_REPORT (R163, R365 to R373, R389): the reports that are new in one monitor cycle. -/
def execFaultReport (l : LaneId) (rs : List Report) (s : State) : Host.Outcome State Fault Refusal :=
  .next (s.onLane l fun x => x.reportAll (plain rs))

/-- FAULT_LINE_INVALID (R364). -/
def execFaultLineInvalid (l : LaneId) (src : Fin 128) (_code : Bool) (s : State) : Host.Outcome State Fault Refusal :=
  .next (s.onLane l fun x => x.reportAll [wired src])

/-- COMPLEMENT_MISMATCH (R372). -/
def execComplementMismatch (l : LaneId) (off : Nat) (s : State) : Host.Outcome State Fault Refusal :=
  .next (s.onLane l fun x => x.mismatch off)

/-- FAULT_LINE_HEALTHY (R362, R363, R374). -/
def execFaultLineHealthy (l : LaneId) (src : Fin 128) (s : State) : Host.Outcome State Fault Refusal :=
  .next (s.onLane l fun x => x.lineHealthy src.val)

/-- SIGNATURE_COMPARE (R379 to R386, R389): supervisor cycles pass, and the comparators deliver on each window they end. -/
def execSignatureCompare (l : LaneId) (cycles : List PairCycle) (main : Comparator) (dup : Comparator) (s : State) :
    Host.Outcome State Fault Refusal :=
  .next (s.onLane l fun x => x.compare cycles main dup)

/-- DELAY_FAULT (R380, R389). -/
def execDelayFault (l : LaneId) (s : State) : Host.Outcome State Fault Refusal := .next (s.onLane l Lane.delayBad)

/-- COMMIT_BUFFER_FULL (R385): the supervisor cycles in which stores fill the buffer, its comparators sound. -/
def execCommitBufferFull (b : StoreBurst) (s : State) : Host.Outcome State Fault Refusal :=
  .next (s.onLane b.lane fun x => x.compare b.cycles .sound .sound)

/-- CLOCK_FAULT (R26, R376, R426). -/
def execClockFault (c : ClockId) (s : State) : Host.Outcome State Fault Refusal :=
  match c with
  | .laneClock l k => .next (s.onLane l fun x => x.clockBad k)
  | .greenClock g => .next (s.onGreen g fun x => { x with clockOk := false })

/-- BRANCH_OVERLOAD (R12). -/
def execBranchOverload (g : GreenId) (k : LaneId) (star : Bool) (s : State) : Host.Outcome State Fault Refusal :=
  .next (s.tripBranch g k star)

end Sys2Proof.Machine
end

