-- ==== Sys2Proof/Machine/Pins.lean ====
section
/-! DEFINITION. The digital pins of a lane's logic die (R521, R522): the level of each output, driven low or high or left undriven,
and the boundary-scan cells of the test access port over them (R526). -/

namespace Sys2Proof.Machine

/-- What stands on an output pin: low, high, or nothing that the lane drives (R521, R522). -/
inductive PinLevel where
  | low | high | undriven
  deriving DecidableEq, Repr

/-- The output pins of the logic die, x_HIO0 to 3 among them (R521). -/
inductive OutPin where
  | faultN | pwrHold | hirqN | tdo
  | hio (k : Fin 4)
  | testPulse (k : Fin 4)
  | emulA (e : Fin 2) | emulB (e : Fin 2) | emulZ (e : Fin 2)
  deriving DecidableEq, Repr

/-- A level as a driver gives it. -/
def PinLevel.drive (high : Bool) : PinLevel := if high then .high else .low

/-- The level of x_TPk: high but for its pulse while test pulses run, low otherwise, in lane reset and after the first slice of
SHUTDOWN too (R462, R469, R521). -/
def Lane.testPulseHigh (l : Lane) (k : Fin 4) : Bool := l.inp.pulsing && l.inp.low ≠ some k

/-- An output of a powered lane under functional control. x_HIRQ_N is undriven in lane reset (R521); x_HIO and x_TDO are driven only
within a transaction or a shift, which is over when its row has run (R34, R526). -/
def Lane.outLevel (l : Lane) : OutPin → PinLevel
  | .faultN => .drive !l.faultPin
  | .pwrHold => .drive l.sys.pwrHold
  | .hirqN => if l.awake then .drive !l.hirqLow else .undriven
  | .tdo => .undriven
  | .hio _ => .undriven
  | .testPulse k => .drive (l.testPulseHigh k)
  | .emulA e => .drive (vget l.emu e).a
  | .emulB e => .drive (vget l.emu e).b
  | .emulZ e => .drive (vget l.emu e).z

/-- The output pins in the order of their boundary cells. DESIGN CHOICE: the spec gives the cells no order
(notes/assumptions/81.md). -/
def drivePins : List OutPin :=
  [.faultN, .pwrHold, .hirqN, .tdo, .hio 0, .hio 1, .hio 2, .hio 3, .testPulse 0, .testPulse 1, .testPulse 2, .testPulse 3,
   .emulA 0, .emulB 0, .emulZ 0, .emulA 1, .emulB 1, .emulZ 1]

/-- What stands on an output pin: nothing driven without supply (R522), the preloaded cell under EXTEST (R526, R527), else what the
lane's function gives. -/
def Lane.pin (l : Lane) (p : OutPin) : PinLevel :=
  if !l.sys.powered then .undriven
  else if l.tap.pins then .drive (match drivePins.idxOf? p with | some k => l.tap.preload.getD k false | none => false)
  else l.outLevel p

/-- The levels that SAMPLE/PRELOAD captures: the inputs x_FBnn_0 to 2, x_SINkk_1 and 2, x_TRIP_N0 to 3, x_RST_N and x_RUN, then the
output pins, an undriven one as low (R526). -/
def Lane.scanLevels (l : Lane) : List Bool :=
  ((idxs 12).flatMap fun nn => (idxs 3).map fun k => (vget (l.axis nn).fb.ins k).pin) ++
    ((idxs 16).flatMap fun k => [(vget l.inp.pairs k).r1, (vget l.inp.pairs k).r2]) ++
    ((idxs 4).map fun k => !bit l.afe.trips k.val) ++ [!l.sys.inReset, l.sys.run] ++
    (drivePins.map fun p => decide (l.outLevel p = .high))

/-- What SAMPLE/PRELOAD loads into the output cells comes over x_TDI, which no row carries: a free value (R526,
notes/assumptions/81.md). -/
def Lane.preloadBits (l : Lane) : List Bool :=
  let v := l.freeBelow (2 ^ drivePins.length)
  (List.range drivePins.length).map fun k => natBit v k

end Sys2Proof.Machine
end

