-- ==== Sys2Proof/Machine/CttHeader.lean ====
section
/-! DEFINITION. The header of a CTT frame as octets: the Ethernet II header and the CTT header after it, big-endian (R6, R403). -/

namespace Sys2Proof

/-- The number that octets spell, most significant first (R6). -/
def ofBe (bs : Bytes) : Nat := Machine.ofLe bs.reverse

/-- n octets of a number, most significant first (R6). -/
def beBytes (n v : Nat) : Bytes := (Machine.leBytes n v).reverse

/-- The big-endian field of n octets at an offset of a frame's header (R403). -/
def CttFrame.field (f : CttFrame) (off n : Nat) : Nat := ofBe ((f.header.drop off).take n)

/-! ### Fields (R403) -/

def CttFrame.destination (f : CttFrame) : Nat := f.field 0x00 6
def CttFrame.source (f : CttFrame) : Nat := f.field 0x06 6
def CttFrame.ethertype (f : CttFrame) : W16 := BitVec.ofNat 16 (f.field 0x0C 2)
def CttFrame.version (f : CttFrame) : W16 := BitVec.ofNat 16 (f.field 0x0E 2)
def CttFrame.kind (f : CttFrame) : Byte := BitVec.ofNat 8 (f.field 0x10 1)
def CttFrame.flags (f : CttFrame) : Byte := BitVec.ofNat 8 (f.field 0x11 1)
def CttFrame.slot (f : CttFrame) : W16 := BitVec.ofNat 16 (f.field 0x12 2)
def CttFrame.cycle (f : CttFrame) : Byte := BitVec.ofNat 8 (f.field 0x14 1)
def CttFrame.rank (f : CttFrame) : Byte := BitVec.ofNat 8 (f.field 0x15 1)
def CttFrame.scheduleId (f : CttFrame) : W32 := BitVec.ofNat 32 (f.field 0x16 4)
def CttFrame.length (f : CttFrame) : W16 := BitVec.ofNat 16 (f.field 0x1A 2)

namespace Machine

/-- What the sender of a frame fills into its header (R403). -/
structure CttHeader where
  /-- channel: 0 A, 1 B -/
  chan : GreenId
  source : Nat
  kind : Nat
  slot : Nat
  cycle : Nat
  rank : Nat
  scheduleId : Nat
  length : Nat
  deriving DecidableEq, Repr

/-- The 28 header octets: group address of the channel, EtherType 0x88B5, version 1.2 (R403, R405). -/
def CttHeader.octets (h : CttHeader) : Bytes :=
  beBytes 6 (0x0B005A000000 + h.chan.val) ++ beBytes 6 h.source ++ beBytes 2 0x88B5 ++ beBytes 2 0x0102 ++ beBytes 1 h.kind ++
    beBytes 1 h.chan.val ++ beBytes 2 h.slot ++ beBytes 1 h.cycle ++ beBytes 1 h.rank ++ beBytes 4 h.scheduleId ++
    beBytes 2 h.length

/-- A frame with a header, its payload padded with zeros to 32 bytes (R403). -/
def cttFrame (h : CttHeader) (payload : Bytes) : CttFrame :=
  { fcsOk := true, vlan := false, fec := 0, header := { h with length := payload.length }.octets,
    payload := payload ++ List.replicate (32 - payload.length) 0, sched := none }

/-- A locally administered individual address: four octets of the implementation's after its first, which is 2 modulo 4, and a
last octet (R403; notes/assumptions/75.md). -/
def localAddress (n last : Nat) : Nat :=
  (n / 2 ^ 32 % 64 * 4 + 2) * 2 ^ 40 + n % 2 ^ 32 * 2 ^ 8 + last % 256

end Machine

end Sys2Proof
end

