-- ==== Sys2Proof/Machine/Greens.lean ====
section
/-! DEFINITION. The Greens (R401 to R426, R430, R433, R436, R440, R441, R470 to R474): forwarding and slot enforcement, violations
and closing, their time, schedule downloads, STATUS frames; the rows from GREEN_FRAME_INGRESS to GREEN_SYNC_LOSS. -/

namespace Sys2Proof.Machine

/-! ### Its schedule and its cascade record -/

/-- The Green works: powered, clocked, not held in reset (R426, R497, R523, R541). -/
def Green.on (x : Green) : Bool := x.powered && x.clockOk && !x.testPin && !x.hot

/-- The slot entries stored (R420). -/
def Green.entries (x : Green) : List SlotEntry := (x.sched.getD []).map slotEntry

/-- Cluster cycle in ns; viol_limit, viol_cycles, reopen_cycles and schedule_id of the stored section (R406, R420). -/
def Green.cycleNs (x : Green) : Nat := 62500 * fieldAt x.section8 4 1
def Green.violLimit (x : Green) : Nat := fieldAt x.section8 5 1
def Green.violCycles (x : Green) : Nat := fieldAt x.section8 6 1
def Green.reopenCycles (x : Green) : Nat := fieldAt x.section8 7 1
def Green.schedId (x : Green) : Nat := fieldAt x.section8 0 4

/-- Port p of Green g is a trunk port (R470). -/
def Green.trunk (x : Green) (g : GreenId) (p : Fin 19) : Bool :=
  match x.cascade with
  | none => false
  | some r => p.val < 16 && (List.range 4).any fun j => trunkPort r g j = p.val

/-- The device is not the cascade master (R470, R474). -/
def Green.follower (x : Green) : Bool := match x.cascade with | none => false | some r => cascadeIndex r ≠ 0

/-- Late extension of the acceptance windows of port p, in ns (R473). -/
def Green.extension (x : Green) (g : GreenId) (p : Fin 19) : Nat :=
  if x.trunk g p then (match x.cascade with | some r => trunkWindowNs r | none => 0) else 0

/-! ### Its time (R431, R433) -/

/-- Global time of the Green at an instant of its own clock. -/
def Green.timeAt (x : Green) (t : Rat) : Rat := x.refG + (t - x.refT) * (1 + x.rate + x.slew)

/-- The mean of some measured delays, 0 with none (R432, R474). -/
def meanDelay (ds : List (Nat × Rat)) : Rat := if ds.isEmpty then 0 else (ds.map Prod.snd).sum / ds.length

/-- The delays that stay as a cycle ends: those of the last 8 cycles (R432). -/
def recentDelays (ds : List (Nat × Rat)) : List (Nat × Rat) := (ds.map fun x => (x.1 + 1, x.2)).filter fun x => x.1 < 8

/-! ### SYNC and COLDSTART payloads (R429) -/

def syncRank (p : Bytes) : Nat := fieldAt p 0 1
def syncMaster (p : Bytes) : Bool := natBit (fieldAt p 1 1) 0
/-- link_delay_ns, unknown counting as 0 (R433, R440). -/
def syncDelay (p : Bytes) : Nat := if fieldAt p 4 4 = 0xFFFFFFFF then 0 else fieldAt p 4 4
def syncOrigin (p : Bytes) : Nat := fieldAt p 8 8
def syncEgress (p : Bytes) : Nat := fieldAt p 0x10 8
/-- dev_ns where present. -/
def syncDev (p : Bytes) : Option Int := if fieldAt p 0x18 4 = 0x80000000 then none else some (toSigned 32 (fieldAt p 0x18 4))

/-- A payload with what a Green writes into it (R430). -/
def syncStamp (p : Bytes) (egress : Nat) (dev : Option Int) : Bytes :=
  putAt (putAt (slice p 0 (max p.length 32)) 0x10 (leBytes 8 egress)) 0x18
    (leBytes 4 (match dev with | some d => ofSigned 32 d | none => 0x80000000))

/-- Bytes of a frame from its first header byte to its FCS, those of a VLAN tag among them (R403, R410). -/
def frameBytes (f : CttFrame) : Nat := 32 + max f.payload.length 32 + 4 * b2n f.vlan

/-! ### Ports (R411, R414, R415) -/

/-- The Green with port p changed. -/
def Green.onPort (x : Green) (p : Fin 19) (f : GPort → GPort) : Green := { x with ports := vmod x.ports p f }

/-- Port p. -/
def Green.port (x : Green) (p : Fin 19) : GPort := vget x.ports p

/-- The PMA role that a cascade record gives external port p of Green g: SLAVE for the trunk port of a device other than the
cascade master, MASTER for every other (R402, R472). -/
def pmaRole (r : Bytes) (g : GreenId) (p : Nat) : PmaRole :=
  if cascadeIndex r ≠ 0 && trunkPort r g 0 = p then .slave else .master

/-- The external ports take the roles of the stored cascade record (R402, R472). -/
def Green.setRoles (x : Green) (g : GreenId) : Green :=
  { x with ports := Vector.ofFn fun p =>
      let q := x.port p
      { q with pma := if p.val < 16 then some (match x.cascade with | some r => pmaRole r g p.val | none => .master) else none } }

/-- One more of counter k, up to 0xFFFF_FFFF (R415). -/
def GPort.count (q : GPort) (k : Fin 8) : GPort :=
  { q with counters := vmod q.counters k (fun v => if v = 0xFFFFFFFF then v else v + 1) }

/-- Uncorrectable RS-FEC blocks counted (R415). -/
def GPort.countFec (q : GPort) (n : Nat) : GPort :=
  { q with counters := vmod q.counters 7 (fun v => BitVec.ofNat 32 (min (v.toNat + n) 0xFFFFFFFF)) }

/-- The link of a port is up. -/
def GPort.up (q : GPort) : Bool := q.st = .opened || q.st = .closed

/-- Violations that still count after `n` cycles (R411). -/
def recentViols (n span : Nat) (vs : List Nat) : List Nat := vs.filter fun v => n < v + span

/-- A VIOLATION of port p, which may close it (R411). -/
def Green.violate (x : Green) (p : Fin 19) : Green :=
  let q := (x.port p).count 1
  let vs := x.cycles :: recentViols x.cycles x.violCycles q.viols
  let q := { q with viols := vs }
  let q := if q.st = .opened && x.violLimit ≤ vs.length then { q.count 5 with st := .closed, shut := true, clean := 0 } else q
  x.onPort p fun _ => q

/-! ### Judgement of a frame (R409, R473) -/

/-- What rows 3 to 5 of R409 say of a frame's start. -/
inductive Judged where
  /-- inside the acceptance window of a slot occurrence that the port owns -/
  | inside (e : SlotEntry)
  /-- the port owns slots of this cycle, the start is outside their windows -/
  | outside
  /-- the port owns no slot of this cycle -/
  | stranger
  deriving DecidableEq, Repr

/-- The slot occurrences of the present cycle that port p owns. -/
def Green.owned (x : Green) (p : Fin 19) : List SlotEntry := x.entries.filter fun e => e.occurs x.cycle && e.owner = p.val

/-- A start `o` ns after the cycle start lies in the acceptance window of a slot, boundaries included (R407, R409, R473). -/
def inWindow (e : SlotEntry) (ext : Nat) (o : Rat) : Bool :=
  ((e.startNs : Rat) - e.acceptNs ≤ o) && (o ≤ (e.startNs : Rat) + e.acceptNs + ext)

/-- Rows 3 to 5 of R409 for a start `o` ns after the cycle start. -/
def Green.judge (x : Green) (g : GreenId) (p : Fin 19) (o : Rat) : Judged :=
  match (x.owned p).find? fun e => inWindow e (x.extension g p) o with
  | some e => .inside e
  | none => if (x.owned p).isEmpty then .stranger else .outside

/-! ### Egress (R409, R423, R430) -/

/-- One egress copy of a frame that started at global time `now`. -/
def Green.copyFor (x : Green) (g : GreenId) (f : CttFrame) (now : Rat) (n : Nat) (q : Fin 19) : CttFrame :=
  let f := { f with fec := 0 }
  if f.kind ≠ 4 then f
  else if x.synced then
    let at' := (now + ((400 + Config.forwardNs g n % 121 : Nat) : Rat)).floor
    { f with payload := syncStamp f.payload (at' % (2 ^ 64 : Int)).toNat ((x.port q).devPrev.map roundEven) }
  else { f with payload := syncStamp f.payload 0 none }

/-- The frame goes to every other port whose link is up, a closed one too (R409, R411). -/
def Green.send (x : Green) (g : GreenId) (p : Fin 19) (f : CttFrame) (now : Rat) : Green :=
  let qs := (idxs 19).filter fun q => q ≠ p && (x.port q).up
  { x with
    egress := (qs.zip (List.range qs.length)).map fun y => (y.1.val, x.copyFor g f now (x.free + y.2) y.1),
    free := x.free + qs.length }

/-! ### Following the master (R432, R433, R436, R474) -/

/-- A trunk port measures its delay at a SYNC frame, on the Green's own time, synchronised or not (R432, R474). -/
def Green.measure (x : Green) (g : GreenId) (p : Fin 19) (f : CttFrame) (now : Rat) : Green :=
  if x.trunk g p && f.kind = 4 && f.fcsOk && syncEgress f.payload ≠ 0 then
    match syncDev f.payload with
    | some dev => x.onPort p fun q => { q with delays := (0, (now - syncEgress f.payload + dev) / 2) :: q.delays }
    | none => x
  else x

/-- The Green's offset from the master as a forwarded SYNC frame shows it (R433, R474). -/
def Green.offsetOf (x : Green) (g : GreenId) (p : Fin 19) (f : CttFrame) (now : Rat) : Rat :=
  if x.trunk g p then now - syncEgress f.payload - meanDelay (x.port p).delays
  else now - syncOrigin f.payload - syncDelay f.payload

/-- A forwarded SYNC frame with MASTER is noted where its payload rank is the lowest of the cycle; a COLDSTART frame keeps the
Green synchronised (R436, R441). -/
def Green.heed (x : Green) (g : GreenId) (p : Fin 19) (f : CttFrame) (now : Rat) : Green :=
  if !f.fcsOk then x
  else if f.kind = 3 then { x with coldNow := true }
  else if f.kind = 4 && syncMaster f.payload then
    let r := syncRank f.payload
    let better := match x.follow with | none => true | some y => r < y.1
    if better then { x with follow := some (r, x.offsetOf g p f now) } else x
  else x

/-! ### Forwarding while synchronised -/

/-- A frame is forwarded in a slot occurrence (R409, R410, R430). -/
def Green.forward (x : Green) (g : GreenId) (p : Fin 19) (f : CttFrame) (now : Rat) (e : SlotEntry) : Green :=
  let o := now - x.cycleAt
  let x := x.onPort p fun q => { q.count 0 with
    hit := true, devNow := match q.devNow with | some d => some d | none => some (o - e.startNs) }
  let late := (e.startNs + e.lengthNs : Rat) < o + 8 * frameBytes f
  let x := { x with arriving := if late then p :: x.arriving else x.arriving }
  (x.send g p f now).heed g p f now

/-- A frame at a synchronised Green (R409 to R411). -/
def Green.slotIngress (x : Green) (g : GreenId) (p : Fin 19) (f : CttFrame) (now : Rat) : Green :=
  let v := x.judge g p (now - x.cycleAt)
  if (x.port p).st = .closed then
    (x.onPort p fun q => q.count 2).onPort p fun q =>
      match v with | .inside _ => { q with hit := true } | _ => { q with miss := true }
  else match v with
    | .inside e => x.forward g p f now e
    | .outside => (x.onPort p fun q => { q with miss := true }).violate p
    | .stranger => (x.onPort p fun q => { q.count 2 with miss := true }).violate p

/-! ### Forwarding while unsynchronised (R440, R441, R474) -/

/-- The slot of a frame that an unsynchronised Green may forward: a COLDSTART frame or a SYNC frame with MASTER from a port that
owns a slot of that kind; the slot its header names where the port owns it, else the first it owns. -/
def Green.coldSlot (x : Green) (p : Fin 19) (f : CttFrame) : Option SlotEntry :=
  let mine (e : SlotEntry) : Bool := e.used && e.owner = p.val && e.kind = f.kind.toNat
  if f.kind = 3 || (f.kind = 4 && syncMaster f.payload) then
    match x.entries[f.slot.toNat]? with
    | some e => if mine e then some e else x.entries.find? mine
    | none => x.entries.find? mine
  else none

/-- The Green's global time at the ingress start of a frame it aligns to (R440, R474). -/
def Green.alignTo (x : Green) (g : GreenId) (p : Fin 19) (f : CttFrame) : Rat :=
  let base : Rat := syncOrigin f.payload + syncDelay f.payload
  if x.follower && x.trunk g p && f.kind = 3 then base + 460 + meanDelay (x.port p).delays else base

/-- The Green becomes synchronised: it starts its cycle with a clean history of this cycle (R441). -/
def Green.synchronise (x : Green) (p : Fin 19) : Green :=
  { x with
    synced := true, block := none, quiet := 0,
    ports := Vector.ofFn fun i : Fin 19 => let q := vget x.ports i
      { q with hit := i = p, miss := false, clean := 0, devPrev := none, devNow := if i = p then q.devNow else none } }

/-- An unsynchronised Green forwards a frame, aligns to it, and is synchronised where one that it forwarded from the port started one
cycle before (R440, R441). -/
def Green.coldForward (x : Green) (g : GreenId) (p : Fin 19) (f : CttFrame) (t : Int) (e : SlotEntry) : Green :=
  let a : Arbitration := {
    port := p, start := t, was := x.port p, refT := x.refT, refG := x.refG, slew := x.slew, cycle := x.cycle, cycleAt := x.cycleAt,
    lastFwd := x.lastFwd, follow := x.follow, coldNow := x.coldNow, quiet := x.quiet }
  let x := { x.send g p f 0 with arb := some a }.onPort p fun q => q.count 0
  let paired := x.lastFwd.any fun y => y.1 = p && (t - y.2.2 - x.cycleNs).natAbs ≤ e.acceptNs
  let kept := x.lastFwd.filter fun y => t - y.2.2 ≤ 2 * (x.cycleNs : Int) && !(y.1 = p && y.2.1 = e.startNs)
  let x := { x with block := some p, lastFwd := (p, e.startNs, t) :: kept }
  if !f.fcsOk then x
  else
    let now := x.alignTo g p f
    let start : Rat := (syncOrigin f.payload : Rat) - e.startNs
    let x := { x with refT := t, refG := now, slew := 0, cycle := f.cycle.toNat % 64, cycleAt := start }
    let x := x.onPort p fun q => { q with devNow := some (now - start - e.startNs) }
    let x := if f.kind = 3 then { x with coldNow := true } else { x with follow := some (syncRank f.payload, 0) }
    if paired then x.synchronise p else x

/-- A frame at an unsynchronised Green. -/
def Green.coldIngress (x : Green) (g : GreenId) (p : Fin 19) (f : CttFrame) (t : Int) : Green :=
  if (x.port p).st = .closed then x.onPort p fun q => q.count 2
  else match x.coldSlot p f with
    | none => x
    | some e =>
      match x.block with
      | some q => if q = p then x.coldForward g p f t e else x.onPort p fun q => q.count 2
      | none => x.coldForward g p f t e

/-- A frame that an unsynchronised Green might forward, started within 8 ns of the one that it began to forward last (R440). -/
def Green.contested (x : Green) (p : Fin 19) (f : CttFrame) (t : Int) : Bool :=
  match x.arb with
  | some a => p ≠ a.port && (t - a.start).natAbs ≤ 8 && (x.port p).st ≠ .closed && (x.coldSlot p f).isSome
  | none => false

/-- The Green as it stood before the frame that loses the arbitration, which is blocked instead (R440). -/
def Green.yield (x : Green) (a : Arbitration) : Green :=
  { x with
    refT := a.refT, refG := a.refG, slew := a.slew, cycle := a.cycle, cycleAt := a.cycleAt, lastFwd := a.lastFwd, follow := a.follow,
    coldNow := a.coldNow, quiet := a.quiet, synced := false, block := none, arb := none, arriving := [] }.onPort a.port fun _ =>
      a.was.count 2

/-- Arbitration within 8 ns: the lowest port wins, the other is counted BLOCKED (R440). -/
def Green.arbitrate (x : Green) (g : GreenId) (p : Fin 19) (f : CttFrame) (t : Int) : Green :=
  match x.arb with
  | some a => if p < a.port then (x.yield a).coldIngress g p f t else x.onPort p fun q => q.count 2
  | none => x

/-! ### Downloads (R420 to R422, R471) -/

/-- The parts of a download that port p has sent, with the time of the last; none while it is incomplete (R421). -/
def copyFrom (cs : List (Nat × Int × SchedChunk)) (p : Nat) (crc : W32) (cascade : Bool) : Option (Int × List Bytes) :=
  let mine := cs.filter fun c => c.1 = p && c.2.2.dlCrc = crc && c.2.2.cascade = cascade
  match mine with
  | [] => none
  | c :: _ =>
    let parts := (List.range c.2.2.parts).filterMap fun k => (mine.find? fun d => d.2.2.part = k).map fun d => d.2.2.record
    if parts.length = c.2.2.parts then some (mine.foldl (fun m d => if m < d.2.1 then d.2.1 else m) c.2.1, parts) else none

/-- The chunks held after one more: it replaces the same part from that port, and drops what the port sent under another download
CRC. -/
def keepChunk (cs : List (Nat × Int × SchedChunk)) (p : Nat) (t : Int) (c : SchedChunk) : List (Nat × Int × SchedChunk) :=
  (cs.filter fun d => !(d.1 = p && d.2.2.cascade = c.cascade && (d.2.2.dlCrc ≠ c.dlCrc || d.2.2.part = c.part))) ++ [(p, t, c)]

/-- Complete copies from two lane ports within 10 s (R421). -/
def twoCopies (cs : List (Nat × Int × SchedChunk)) (p : Nat) (c : SchedChunk) : Option (List Bytes) :=
  match copyFrom cs p c.dlCrc c.cascade with
  | none => none
  | some (t, parts) =>
    if [16, 17, 18].any fun q => q ≠ p && (match copyFrom cs q c.dlCrc c.cascade with
        | some (u, _) => (t - u).natAbs ≤ 10000000000
        | none => false)
    then some parts else none

/-- A download complete from two lane ports is installed; a schedule stops forwarding and synchronisation (R421, R422, R471), a cascade record sets the PMA roles (R472). -/
def Green.install (x : Green) (g : GreenId) (c : SchedChunk) (parts : List Bytes) : Green :=
  if c.cascade then { x with cascade := some (parts.headD []) }.setRoles g
  else if x.sched.isSome && x.dlCrc = c.dlCrc then x
  else { x with
    sched := some ({ rtype := 9, inst := 0, parts := parts } : Rec).entries, section8 := slice c.netSection 0 8, dlCrc := c.dlCrc,
    chunks := x.chunks.filter fun d => d.2.2.cascade, synced := false, block := none, lastFwd := [], follow := none,
    coldNow := false, quiet := 0, arriving := [] }

/-- A SCHEDULE frame on a lane port is taken (R409, R421). -/
def Green.schedule (x : Green) (g : GreenId) (p : Fin 19) (f : CttFrame) (t : Int) : Green :=
  match f.fcsOk, f.sched with
  | true, some c =>
    let x := { x with chunks := keepChunk x.chunks p.val t c }
    match twoCopies x.chunks p.val c with
    | some parts => x.install g c parts
    | none => x
  | _, _ => x

/-! ### Ingress -/

/-- A frame starts at port p at `t` ns of the Green's own clock (R409, R440). -/
def Green.ingress (x : Green) (g : GreenId) (p : Fin 19) (f : CttFrame) (t : Int) : Green :=
  if !x.on || !(x.port p).up then x
  else
    let x := if f.fcsOk then x else x.onPort p fun q => q.count 4
    let x := if p.val < 16 then x.onPort p fun q => q.countFec f.fec else x
    if 16 ≤ p.val && f.kind = 5 then x.schedule g p f t
    else
    let x := x.measure g p f (x.timeAt t)
    if x.contested p f t then x.arbitrate g p f t
    else if x.synced then x.slotIngress g p f (x.timeAt t)
    else x.coldIngress g p f t

/-- A forwarded frame still arriving at its slot's end is truncated: its copies end with a wrong FCS (R410). -/
def Green.truncate (x : Green) (p : Fin 19) : Green :=
  if !x.on || !x.arriving.contains p then x
  else
    let x := { x with
      arriving := x.arriving.filter fun q => q ≠ p, egress := x.egress.map fun (y : Nat × CttFrame) => (y.1, { y.2 with fcsOk := false }) }
    (x.onPort p fun q => q.count 3).violate p

/-! ### The end of a cycle (R411, R430, R433, R434, R436, R441) -/

/-- A port at the end of a cycle: clean cycles of a closed one, the deviation, the histories (R411, R430, R432). -/
def GPort.cycleEnd (q : GPort) (n span reopen : Nat) : GPort :=
  let clean := if q.st = .closed && q.hit && !q.miss then q.clean + 1 else 0
  let back := q.st = .closed && reopen ≤ clean
  { q with
    st := if back then .opened else q.st, shut := q.shut && !back, clean := if back then 0 else clean, hit := false, miss := false,
    devPrev := q.devNow, devNow := none, viols := recentViols n span q.viols, delays := recentDelays q.delays }

/-- A rate correction within ± a limit in ppm. -/
def clampPpm (ppm : Nat) (v : Rat) : Rat := clamp v (-(mkRat ppm 1000000)) (mkRat ppm 1000000)

/-- The correction that the cycle's followed SYNC frame asks for, from the cycle's end on (R433, R434). -/
def Green.correct (x : Green) : Green :=
  let fin' := x.cycleAt + x.cycleNs
  let t := x.refT + (fin' - x.refG) / (1 + x.rate + x.slew)
  match x.follow with
  | none => { x with refT := t, refG := fin', slew := 0 }
  | some (_, off) =>
    if off < -1000 || 1000 < off then { x with refT := t, refG := fin' - off, slew := 0 }
    else { x with
      refT := t, refG := fin', slew := -off / x.cycleNs, rate := clampPpm 500 (x.rate - off / (2 * x.cycleNs)) }

/-- A cycle of a synchronised Green ends. -/
def Green.cycleEnd (x : Green) : Green :=
  if !x.on || !x.synced then x
  else
    let heard := x.follow.isSome || x.coldNow
    let n := x.cycles + 1
    let x := x.correct
    { x with
      cycleAt := x.cycleAt + x.cycleNs, cycle := (x.cycle + 1) % 64, cycles := n,
      ports := x.ports.map fun q => q.cycleEnd n x.violCycles x.reopenCycles,
      quiet := if heard then 0 else x.quiet + 1, follow := none, coldNow := false, arriving := [] }

/-- Eight cycles without a master or a COLDSTART frame: unsynchronised (R441). -/
def Green.syncLoss (x : Green) : Green :=
  if x.on && x.synced && 8 ≤ x.quiet then
    { x with synced := false, block := none, lastFwd := [], follow := none, coldNow := false, quiet := 0, arriving := [] }
  else x

/-- The slot of the frame being forwarded has elapsed (R440). -/
def Green.blockEnd (x : Green) : Green := { x with block := none }

/-! ### STATUS (R413) -/

/-- Port state as R414 encodes it. -/
def portCode : PortState → Nat
  | .down => 0 | .training => 1 | .opened => 2 | .closed => 3 | .unknown => 4

/-- A port's state in STATUS: without a stored schedule no port reads OPEN (R424). -/
def Green.reported (x : Green) (p : Fin 19) : Nat :=
  let c := portCode (x.port p).st
  if x.sched.isNone && 2 ≤ c then 1 else c

/-- The STATUS frame that the Green sends now. -/
def Green.statusFrame (x : Green) (g : GreenId) : CttFrame :=
  let crc := if x.sched.isSome then x.dlCrc.toNat else 0
  let id := if x.sched.isSome then x.schedId else 0
  let body := leBytes 4 crc ++ leBytes 4 id ++ leBytes 1 (b2n x.synced) ++ leBytes 1 x.statusPort ++ [0, 0] ++
    ((List.range 16).map fun k => BitVec.ofNat 8 (x.reported (fin k))) ++
    (x.port (fin x.statusPort)).counters.toList.flatMap fun v => leBytes 4 v.toNat
  cttFrame
    { chan := g, source := localAddress (Config.greenAddress g) (Config.greenAddress g), kind := 6, slot := 0,
      cycle := if x.synced then x.cycle else 0, rank := 0xFF, scheduleId := id, length := 60 } body

/-- One STATUS frame on each lane port. -/
def Green.sendStatus (x : Green) (g : GreenId) : Green :=
  if !x.on then x
  else
    let f := x.statusFrame g
    { x with egress := [(16, f), (17, f), (18, f)], statusPort := (x.statusPort + 1) % 16 }

/-! ### Links (R411, R414, R415) -/

/-- The PHY link of an external port changes. -/
def Green.linkChange (x : Green) (p : Fin 16) (c : LinkChange) : Green :=
  if !x.on then x
  else x.onPort (fin p.val) fun q =>
    match c with
    | .down => { (if q.up then q.count 6 else q) with st := .down, viols := [], clean := 0 }
    | .training => if q.st = .down then { q with st := .training } else q
    | .up => { q with st := if q.shut then .closed else .opened }

/-! ### Meanings -/

/-- GREEN_FRAME_INGRESS (R409 to R411, R421, R422, R430, R433, R436, R440, R441, R473, R474). -/
def execGreenFrameIngress (g : GreenId) (p : Fin 19) (f : CttFrame) (t : Int) (s : State) : Host.Outcome State Fault Refusal :=
  .next (s.onGreen g fun x => x.ingress g p f t)

/-- SLOT_END_TRUNCATE (R410, R411). -/
def execSlotEndTruncate (g : GreenId) (p : Fin 19) (s : State) : Host.Outcome State Fault Refusal :=
  .next (s.onGreen g fun x => x.truncate p)

/-- GREEN_CYCLE_END (R411, R430, R433, R434, R436, R441). -/
def execGreenCycleEnd (g : GreenId) (s : State) : Host.Outcome State Fault Refusal := .next (s.onGreen g Green.cycleEnd)

/-- GREEN_STATUS_SEND (R413, R424). -/
def execGreenStatusSend (g : GreenId) (s : State) : Host.Outcome State Fault Refusal :=
  .next (s.onGreen g fun x => x.sendStatus g)

/-- PORT_LINK_CHANGE (R411, R414, R415). -/
def execPortLinkChange (g : GreenId) (p : Fin 16) (c : LinkChange) (s : State) : Host.Outcome State Fault Refusal :=
  .next (s.onGreen g fun x => x.linkChange p c)

/-- GREEN_BLOCK_END (R440). -/
def execGreenBlockEnd (g : GreenId) (s : State) : Host.Outcome State Fault Refusal := .next (s.onGreen g Green.blockEnd)

/-- GREEN_SYNC_LOSS (R441). -/
def execGreenSyncLoss (g : GreenId) (s : State) : Host.Outcome State Fault Refusal := .next (s.onGreen g Green.syncLoss)

end Sys2Proof.Machine
end

