-- ==== Sys2Proof/Machine/Inputs.lean ====
section
/-! DEFINITION. Dual-contact inputs and test pulses (R462 to R469); the rows INPUT_SAMPLE, TEST_PULSE_START, TEST_PULSE_CHECK,
TEST_PULSE_END, DISCREPANCY_TIMEOUT and PAIR_RESTART_END. -/

namespace Sys2Proof.Machine

/-- Input pair k. -/
def Lane.pair (l : Lane) (k : Fin 16) : Pair := vget l.inp.pairs k

/-- The value word (R468). -/
def Pair.word (p : Pair) : Nat := 4 * p.cause + 2 * b2n p.forced + b2n p.value

/-- The value of the consistent state of a pair, none while it is inconsistent (R465). -/
def Pair.agreed (p : Pair) (mode : Nat) : Option Bool :=
  if mode = 1 then (if p.f1 = p.f2 then some p.f1 else none)
  else if p.f1 ≠ p.f2 then some p.f1 else none

/-- FAULT_LATCH (R464). -/
def faultLatch (r : Bytes) : Bool := natBit (pairFlags r) 0

/-- Contacts fed by a test-pulse output (R464). -/
def pulsedContacts (r : Bytes) : BitVec 2 := BitVec.ofNat 2 (b2n (tp1 r < 4) + 2 * b2n (tp2 r < 4))

/-- A changed value word raises event 112 + k (R468). -/
def Lane.pairWord (l : Lane) (k : Fin 16) (was : Nat) : Lane :=
  let w := (l.pair k).word
  if w = was then l else l.event (112 + k.val) w

/-- The cause that stands after a new one: of two causes in one sample, the one higher in the table of R468 (R467). -/
def Pair.keptCause (p : Pair) (c : Nat) (now : W64) : Nat := if p.causeAt = some now then min p.cause c else c

/-- A cause forces the value, is reported, and starts the restart timing afresh (R467). -/
def Lane.pairCause (l : Lane) (k : Fin 16) (c : Nat) : Lane :=
  let r := l.pairRec k
  let was := (l.pair k).word
  let now := l.tm.loc
  let l := l.onPair k fun p => { p with
    cause := p.keptCause c now, causeAt := some now, forced := true, value := safeValue r = 1, cleared := false, restartDone := false,
    restart := (p.agreed (pairMode r)).isSome, discr := p.discr && c ≠ 3 }
  (l.pairWord k was).fault 112 0xFF 0 k.val 0

/-- The forced state ends when its conditions hold (R467, R469). -/
def Lane.pairLeave (l : Lane) (k : Fin 16) : Lane :=
  let r := l.pairRec k
  let p := l.pair k
  match p.agreed (pairMode r) with
  | none => l
  | some v =>
    if p.forced && p.restartDone && (p.cleared || !faultLatch r) && pulsedContacts r &&& ~~~p.tested = 0 then
      (l.onPair k fun p => { p with cause := 0, forced := false, value := v }).pairWord k p.word
    else l

/-! ### Sampling (R462, R465, R466) -/

/-- One contact's sample: filtered level, last raw level, count, and whether a change was rejected; `n` samples are needed. -/
def filterStep (n : Nat) (f : Bool) (cnt : Nat) (raw : Bool) : Bool × Nat × Bool :=
  if raw = f then (f, 0, cnt ≠ 0)
  else if n ≤ cnt + 1 then (raw, 0, false)
  else (f, cnt + 1, false)

/-- Rejected changes still inside the chatter window, newest first (R466). -/
def recentRejects (r : Bytes) (now : Nat) (ts : List Nat) : List Nat :=
  ts.filter fun t => now ≤ t + 1000000 * chatterWindowMs r

/-- The pair after one sample of its two contacts, without the consequences for its value. -/
def Pair.sample (p : Pair) (r : Bytes) (now : Nat) (c1 c2 : Bool) : Pair :=
  let n := filterUs r / 10
  let a := filterStep n p.f1 p.n1 c1
  let b := filterStep n p.f2 p.n2 c2
  let rejects := recentRejects r now (List.replicate (b2n a.2.2 + b2n b.2.2) now ++ p.rejects)
  { p with f1 := a.1, f2 := b.1, r1 := c1, r2 := c2, n1 := a.2.1, n2 := b.2.1, rejects := rejects }

/-- A change was rejected in this sample (R466). -/
def rejectedNow (p : Pair) (r : Bytes) (c1 c2 : Bool) : Bool :=
  (filterStep (filterUs r / 10) p.f1 p.n1 c1).2.2 || (filterStep (filterUs r / 10) p.f2 p.n2 c2).2.2

/-- Value, discrepancy timer and restart timing after a sample (R465, R467). -/
def Pair.settle (p : Pair) (r : Bytes) (was : Option Bool) (rejected : Bool) : Pair :=
  let safe : Bool := safeValue r = 1
  match p.agreed (pairMode r) with
  | some v => { p with
      discr := false, value := if p.forced then safe else v,
      restartDone := p.restartDone && was.isSome && !rejected, restart := true }
  | none => { p with
      discr := p.discr || was.isSome, value := safe, restart := false, restartDone := false }

/-- One sample of a pair in use. -/
def Lane.pairSample (l : Lane) (k : Fin 16) (c1 c2 : Bool) : Lane :=
  let r := l.pairRec k
  let p := l.pair k
  if pairMode r = 0 then l
  else
    let rejected := rejectedNow p r c1 c2
    let q := p.sample r l.tm.loc.toNat c1 c2
    if rejected && chatterCount r ≤ q.rejects.length then
      (l.onPair k fun _ => { q.settle r (p.agreed (pairMode r)) true with value := p.value }).pairCause k 4
    else ((l.onPair k fun _ => q.settle r (p.agreed (pairMode r)) rejected).pairWord k p.word).pairLeave k

/-- Samples are excluded: from the start of a pulse until 100 µs after its end (R462). -/
def Lane.inputsExcluded (l : Lane) : Bool := l.inp.low.isSome || l.tm.loc.toNat < l.inp.exclTo

/-- The inputs work: the lane has power, is out of reset, not parked, the block has its clock and is not under test (R391,
R500). -/
def Lane.inputsRun (l : Lane) : Bool := l.awake && !l.sys.parked && l.clockOn 1 && !l.inSlice 7

/-- Local time lies `ns` after a start of x_TPk's pulses (R462). -/
def Lane.pulseDue (l : Lane) (t : Fin 4) (ns : Nat) : Bool := l.tm.loc.toNat % 16000000 = 4000000 * t.val + ns

/-- Every contact sampled, every 10 µs of local time (R462). -/
def Lane.sampleInputs (l : Lane) (c1 c2 : BitVec 16) : Lane :=
  if !l.inputsRun || l.tm.loc.toNat % 10000 ≠ 0 || l.inputsExcluded then l
  else each (idxs 16) (fun k l => l.pairSample k (bit c1 k.val) (bit c2 k.val)) l

/-! ### Test pulses (R462, R463) -/

/-- The cause that the test of one contact gives: `last` its level before the pulse, `fed` by the pulsed output. -/
def contactCause (last fed now : Bool) : Nat := if !last then 0 else if fed then (if now then 1 else 0) else (if now then 0 else 2)

/-- Of two causes the one higher in the table (R467); 0 is none. -/
def higherCause (a b : Nat) : Nat := if a = 0 then b else if b = 0 then a else min a b

/-- The contacts of a pair tested during the pulse of output `t`. -/
def Lane.pairTest (l : Lane) (k : Fin 16) (t : Fin 4) (c1 c2 : Bool) : Lane :=
  let r := l.pairRec k
  let p := l.pair k
  if pairMode r = 0 then l
  else
    let a := contactCause p.r1 (tp1 r = t.val) c1
    let b := contactCause p.r2 (tp2 r = t.val) c2
    let l := l.onPair k fun p => { p with
      tested := p.tested ||| BitVec.ofNat 2 (b2n (p.r1 && a = 0) + 2 * b2n (p.r2 && b = 0)) }
    if higherCause a b = 0 then l else l.pairCause k (higherCause a b)

/-- x_TPk goes low, where local time modulo 16 ms is 4 ms × k (R462). -/
def Lane.pulseStart (l : Lane) (t : Fin 4) : Lane :=
  if l.inputsRun && l.inp.pulsing && l.inp.low.isNone && l.pulseDue t 0 then { l with inp := { l.inp with low := some t } } else l

/-- 200 µs into the pulse (R463). -/
def Lane.pulseCheck (l : Lane) (t : Fin 4) (c1 c2 : BitVec 16) : Lane :=
  if l.inputsRun && l.inp.low = some t && l.inp.pulsing && l.pulseDue t 200000 then
    each (idxs 16) (fun k l => l.pairTest k t (bit c1 k.val) (bit c2 k.val)) l
  else l

/-- x_TPk goes high again after 300 µs; 100 µs stay excluded (R462). -/
def Lane.pulseEnd (l : Lane) (t : Fin 4) : Lane :=
  if l.inputsRun && l.inp.low = some t && l.inp.pulsing && l.pulseDue t 300000 then
    { l with inp := { l.inp with low := none, exclTo := l.tm.loc.toNat + 100000 } }
  else l

/-! ### Timers -/

/-- The discrepancy timer reaches discrepancy_ms (R465). -/
def Lane.pairDiscrepancy (l : Lane) (k : Fin 16) : Lane :=
  if l.inputsRun && pairMode (l.pairRec k) ≠ 0 && (l.pair k).discr then l.pairCause k 3 else l

/-- The pair has been consistent and clean for restart_ms (R467). -/
def Lane.pairRestart (l : Lane) (k : Fin 16) : Lane :=
  if l.inputsRun && pairMode (l.pairRec k) ≠ 0 && (l.pair k).restart then
    (l.onPair k fun p => { p with restartDone := true }).pairLeave k
  else l

/-! ### Meanings -/

/-- INPUT_SAMPLE (R462, R465 to R468). -/
def execInputSample (l : LaneId) (c1 : BitVec 16) (c2 : BitVec 16) (s : State) : Host.Outcome State Fault Refusal :=
  .next (s.onLane l fun x => x.sampleInputs c1 c2)

/-- TEST_PULSE_START (R462). -/
def execTestPulseStart (l : LaneId) (k : Fin 4) (s : State) : Host.Outcome State Fault Refusal :=
  .next (s.onLane l fun x => x.pulseStart k)

/-- TEST_PULSE_CHECK (R463, R467). -/
def execTestPulseCheck (l : LaneId) (k : Fin 4) (c1 : BitVec 16) (c2 : BitVec 16) (s : State) :
    Host.Outcome State Fault Refusal :=
  .next (s.onLane l fun x => x.pulseCheck k c1 c2)

/-- TEST_PULSE_END (R462). -/
def execTestPulseEnd (l : LaneId) (k : Fin 4) (s : State) : Host.Outcome State Fault Refusal :=
  .next (s.onLane l fun x => x.pulseEnd k)

/-- DISCREPANCY_TIMEOUT (R465, R467). -/
def execDiscrepancyTimeout (l : LaneId) (k : Fin 16) (s : State) : Host.Outcome State Fault Refusal :=
  .next (s.onLane l fun x => x.pairDiscrepancy k)

/-- PAIR_RESTART_END (R467, R469). -/
def execPairRestartEnd (l : LaneId) (k : Fin 16) (s : State) : Host.Outcome State Fault Refusal :=
  .next (s.onLane l fun x => x.pairRestart k)

end Sys2Proof.Machine
end

