-- ==== Sys2Proof/Machine/Reset.lean ====
section
/-! DEFINITION. Lane reset and power-on reset (R501 to R504, R511), what Gamar and the blocks start in LANE_INIT (R249, R293,
R319), and how they stop at the first self-test slice (R398). -/

namespace Sys2Proof.Machine

/-! ### What a lane reset keeps (R501) -/

/-- A link after lane reset: its handover line reads as before, everything else starts afresh (R15, R29, R30). -/
def Link.afterReset (k : Link) : Link :=
  { Link.cold with line := k.line, everAlive := k.line = .r10, alive := k.line = .r10 }

/-- An axis after lane reset: the levels at its pins and its supplies stand; a torn Granary slot stays torn (R23, R350). -/
def Axis.afterReset (a : Axis) (power : Bool) : Axis :=
  { Axis.cold with
    gate := { Gate.cold with floatLow := a.gate.floatLow },
    fb := { Feedback.cold with ins := a.fb.ins.map fun i => { InFilter.cold with pin := i.pin } },
    red := { Redun.cold with torn := a.red.torn && !power } }

/-- The gate-driver die after lane reset: groups and x_GDEN are as the board drives them (R265, R272, R275). -/
def GateDie.afterReset (g : GateDie) : GateDie :=
  { GateDie.cold with valid := g.valid, everValid := g.valid, gden := g.gden }

/-- Lane control after lane reset, held in it (R62, R502, R508): x_RUN, the supply and the conditions outside the lane's logic are as they are
(R362). -/
def Sys.afterReset (y : Sys) : Sys :=
  { Sys.cold with
    lstate := .off, powered := y.powered, inReset := y.inReset, run := y.run, badClocks := y.badClocks, railBad := y.railBad,
    portLost := y.portLost, hot := y.hot }

/-- The collector after lane reset: cold, but for the line pairs that have failed, which its first sample will find (R362, R364,
R372). -/
def Collector.afterReset (c : Collector) : Collector := { Collector.cold with invalid := c.invalid }

/-- The inputs at reset: every pair START, forced to the safe_value of its committed record (R468, R469). -/
def Lane.resetInputs (l : Lane) : Inputs :=
  let l := { l with sys := l.sys.afterReset }
  { Inputs.cold with pairs := Vector.ofFn fun k => { Pair.cold with value := safeValue (l.pairRec k) = 1 } }

/-- The lane in lane reset; `power` says that it is a power-on reset, which clears the Granary too and counts (R501, R503). -/
def Lane.laneReset (l : Lane) (power : Bool) : Lane :=
  let l := if power then l else each (idxs 12) (fun nn l => l.stopCommit nn) l
  { Lane.cold l.idx with
    sys := l.sys.afterReset,
    fc := l.fc.afterReset,
    fl := if power then { l.fl with powerCycles := l.fl.powerCycles + 1 } else l.fl,
    ax := l.ax.map fun (a : Axis) => a.afterReset power,
    afe := Afe.cold,
    gd := l.gd.afterReset,
    tst := { SelfTest.cold with tested := l.tst.tested && !power },
    links := l.links.map Link.afterReset,
    inp := l.resetInputs,
    mem := { Memories.cold with granary := if power then [] else l.mem.granary },
    tap := if power then Tap.cold else { l.tap with pins := false },
    free := l.free }

/-- The reports of the conditions that stand outside the lane's logic and of the failed handover lines and line pairs (R15, R362, R364). -/
def Lane.standing (l : Lane) : List Flagged :=
  (((List.range 7).filter fun k => bit l.sys.badClocks k).map fun k => report (16 + k) 0xFF 0 0 0) ++
    (if l.sys.railBad then [report 25 0xFF 0 0 0] else []) ++
    ((((List.range 2).filter fun g => bit l.sys.portLost g).take 1).map fun g => report 26 0xFF 0 (16 * g + l.idx.val) 0) ++
    (((List.range 4).filter fun k => bit l.sys.hot k).map fun k => report (113 + k) 0xFF 0 0 0) ++
    (((List.range 3).filter fun k => let r := (vget l.links (fin k)).line; r = .r00 || r = .r11).map fun k =>
      report (99 + k) 0xFF 0 0 0) ++
    (((idxs 128).filter fun s => bit l.fc.invalid s.val).map wired)

/-- The collector's first sample after lane reset: every line counted as HEALTHY before it, so each condition that stands is a new
report (R362, R376). -/
def Lane.recollect (l : Lane) : Lane :=
  let fs := l.standing
  let l := { l with fc := { l.fc with invalid := 0 } }
  if fs.isEmpty then l else l.collect fs

/-- The lane leaves lane reset: into LANE_INIT with device mode START where x_RUN is high, else into the parked state, which
holds it in lane reset (R504, R505, R511). -/
def Lane.leaveReset (l : Lane) : Lane :=
  let l := l.laneReset false
  if l.sys.inReset || !l.sys.powered then l
  else if l.sys.run then { l with sys := { l.sys with lstate := .init, mode := .start } }.recollect
  else { l with sys := { l.sys with parked := true } }

/-- The parked state (R511). -/
def Lane.park (l : Lane) : Lane :=
  let l := l.laneReset false
  { l with sys := { l.sys with parked := true } }

/-! ### Starting the blocks in LANE_INIT -/

/-- The carrier of an axis starts or restarts: every command off until its first period start; under COT and COFT the first
periods of its three phases start at once (R249). -/
def Lane.carrierStart (l : Lane) (nn : AxisId) : Lane :=
  let on := l.axisUsed nn
  let l := (l.pwmOff nn).onAxis nn fun a => { a with pwm := { a.pwm with
    running := on, firstWait := true, since := 0, length := 0, fixedInt := Vector.replicate 3 false,
    count := Vector.replicate 3 0, varAt := Vector.replicate 3 0, pulseCut := false } }
  if l.carrierOn nn && carrierVar (carrier (l.axisRec nn)) then each (idxs 3) (fun p l => l.varStart nn p) l else l

/-- The carrier of an auxiliary output starts or restarts; under COT and COFT its first period starts at once (R249). -/
def Lane.auxCarrierStart (l : Lane) (x : Fin 8) : Lane :=
  let on := !l.badRec 3 x.val
  let l := l.onAux x fun u => { u with
    running := on, firstWait := true, wait := true, since := 0, varAt := 0, on := false, pulling := false, width := 0,
    carry := 0, fixedInt := false, cmd := false }
  if carrierVar (auxCarrier (l.auxRec x)) then l.auxStart x else l

/-- Every block that the committed records start: carriers, sensing, feedback, emulation, test pulses (R249, R293, R319,
R469). -/
def Lane.startBlocks (l : Lane) : Lane :=
  let l := { l with afe := { l.afe with
    running := true, now := Vector.replicate 6 .background, rotAt := Vector.replicate 6 l.tm.loc.toNat,
    forceAt := Vector.replicate 6 none } }
  let l := each (idxs 12) (fun nn l => (l.carrierStart nn).fbRestart nn false) l
  let l := each (idxs 8) (fun x l => l.auxCarrierStart x) l
  let l := each (idxs 2) (fun e l => if l.badRec 5 e.val then l else l.emulRestart e) l
  { l with inp := { l.inp with pulsing := true } }

/-! ### Stopping them (R398) -/

/-- Delay lists and compare units stop and discard what they hold (R137). -/
def Lane.keeperStop (l : Lane) : Lane :=
  { l with
    dls := l.dls.map fun (d : DelayList) => { DelayList.cold with overflow := d.overflow },
    cus := Vector.replicate 24 CompareUnit.cold }

/-- Carriers stop with every command off, auxiliary outputs go off (R250). -/
def Lane.carriersStop (l : Lane) : Lane :=
  let l := each (idxs 12) (fun nn l =>
    (l.pwmOff nn).onAxis nn fun a => { a with pwm := { a.pwm with running := false } }) l
  { l.auxAllOff with aux := l.auxAllOff.aux.map fun (u : Aux) => { u with running := false } }

/-- Conversion sets, comparators and background conversions stop (R293). -/
def Lane.sensingStop (l : Lane) : Lane :=
  { l with
    ax := l.ax.map fun (a : Axis) => { a with sense := { a.sense with sets := Vector.replicate 2 ConvSet.cold, oc := 0 } },
    afe := { l.afe with running := false, queues := Vector.replicate 6 [], now := Vector.replicate 6 .background,
                        forced := Vector.replicate 6 false, busOv := false } }

/-- The integration state stays in LISTEN (R445), in which no lane is SYNCED (R437). -/
def Lane.netStop (l : Lane) : Lane :=
  let l := { l with net := { l.net with integ := .listen, master := false, inState := 0 } }
  if l.tm.sync = .synced then l.setSync .holdover else l

/-- The lane quiesced before the first slice of a shutdown or service run (R398). A commit that is not yet in flash at the
first slice of SHUTDOWN does not take effect (R506). -/
def Lane.quiesce (l : Lane) (kind : RunKind) : Lane :=
  let l := (l.stopSlots true).keeperStop
  let l := ((l.carriersStop).sensingStop).fbShutdown
  let l := l.closeAll
  let l := { l with inp := { l.inp with pulsing := false, low := none } }
  let l := (l.streamsAbort true).netStop
  if kind = .shutdown then { l with ses := { l.ses with job := none } } else l

end Sys2Proof.Machine
end

