-- ==== Sys2Proof/Machine/SelfTest.lean ====
section
/-! DEFINITION. The self-test controller (R391 to R398): slices, their masks and re-initialisation, seals; the rows
SELFTEST_SLICE_START, SELFTEST_SLICE_END, SLICE_TIMEOUT, SEAL_WRITE, SELFTEST_STATUS, SELFTEST_RUN and SELFTEST_ABORT. -/

namespace Sys2Proof.Machine

/-! ### Seals (R394 to R396) -/

/-- Seal state as R395 encodes it. -/
def sealCode : Seal → Nat
  | .none => 0 | .pass => 1 | .partialRun => 2 | .failed => 3

/-- The bytes of a seal that no start has used. -/
def sealRecord (cycles : Nat) (st : Seal) (passed untested carried : Nat) : Bytes :=
  let b := leBytes 4 0x5345414C ++ leBytes 4 cycles ++ leBytes 1 (sealCode st) ++ [0, 0, 0] ++ leBytes 4 passed ++
    leBytes 4 untested ++ leBytes 4 carried
  b ++ [0xFF, 0, 0, 0] ++ leBytes 4 (crc32c b)

/-- The state that a flash record holds: NONE for no seal, a consumed one, or one whose crc fails (R395). -/
def sealStateOf (r : Option Bytes) : Seal :=
  match r with
  | none => .none
  | some b =>
    if b.length ≠ 32 || fieldAt b 0 4 ≠ 0x5345414C || fieldAt b 0x18 1 ≠ 0xFF || fieldAt b 0x1C 4 ≠ crc32c (b.take 0x18) then .none
    else match fieldAt b 8 1 with
      | 1 => .pass | 2 => .partialRun | 3 => .failed | _ => .none

/-- The lane reads its seal and consumes it (R396). -/
def Lane.readSeal (l : Lane) : Lane :=
  let st := sealStateOf l.fl.sealRec
  let b := l.fl.sealRec.getD []
  let u : W32 := if st = .none then 0x00FFFFFF else BitVec.ofNat 32 (fieldAt b 0x10 4)
  let c : W32 := if st = .none then 0 else BitVec.ofNat 32 (fieldAt b 0x14 4)
  { l with
    fl := { l.fl with sealRec := l.fl.sealRec.map fun b => putAt b 0x18 [0] },
    tst := { l.tst with sealState := st, untested := u, carried := c } }

/-- A quick start follows from the seal read (R396). -/
def SelfTest.quick (t : SelfTest) : Bool := t.sealState = .pass || (t.sealState = .partialRun && t.carried = 0)

/-- The slices of a start-up test (R396). -/
def SelfTest.startupMask (t : SelfTest) : Nat :=
  match t.sealState with
  | .partialRun => t.carried.toNat % 2 ^ 24
  | .failed => t.untested.toNat % 2 ^ 24
  | _ => 2 ^ 24 - 1

/-! ### Runs (R393) -/

/-- The slices of a mask in their order: those untested in the previous seal first, 23 last (R393). -/
def SelfTest.order (t : SelfTest) (mask : Nat) : List Nat :=
  let ks := (List.range 23).filter fun k => natBit mask k
  (ks.filter fun k => bit t.untested k) ++ (ks.filter fun k => !bit t.untested k) ++ (if natBit mask 23 then [23] else [])

/-- A run begins; its first slice is still to start. -/
def Lane.beginRun (l : Lane) (kind : RunKind) (mask : Nat) : Lane :=
  { l with tst := { l.tst with run := some { kind := kind, todo := l.tst.order mask, now := none, passed := 0, failed := 0, wake := false } } }

/-- No slice of the run has started. -/
def TestRun.fresh (r : TestRun) : Bool := r.now.isNone && r.passed = 0 && r.failed = 0

/-! ### Masks and re-initialisation (R377, R391) -/

/-- Fault sources of the block of slice k (R367, R377, R390, R391). -/
def sliceSources (k : Nat) : List Nat :=
  match k with
  | 4 => [9, 10]
  | 5 => [6, 7]
  | 7 => [104, 112]
  | 8 => [8, 96, 97, 98]
  | 10 => (List.range 14).map fun i => 80 + i
  | 11 => [24]
  | 12 => [23]
  | 13 => ((List.range 12).map fun nn => 34 + 4 * nn) ++ [117]
  | 14 => (groupAxes 0).flatMap fun nn => [32 + 4 * nn.val, 33 + 4 * nn.val, 35 + 4 * nn.val]
  | 15 => (groupAxes 1).flatMap fun nn => [32 + 4 * nn.val, 33 + 4 * nn.val, 35 + 4 * nn.val]
  | 16 => (groupAxes 2).flatMap fun nn => [32 + 4 * nn.val, 33 + 4 * nn.val, 35 + 4 * nn.val]
  | 17 => (groupAxes 3).flatMap fun nn => [32 + 4 * nn.val, 33 + 4 * nn.val, 35 + 4 * nn.val]
  | 19 => [4, 5]
  | 20 => [1, 2, 3, 12]
  | 21 => [1, 2, 3, 12]
  | 22 => [1, 2, 3, 12]
  | 23 => List.range 128
  | _ => []

/-- FC_MASK bits of sources set or cleared (R377). -/
def Lane.maskSources (l : Lane) (ss : List Nat) (on : Bool) : Lane :=
  { l with fc := { l.fc with mask := ss.foldl (fun m s => bitPut m s on) l.fc.mask } }

/-- The latches of a VGD group's die logic cleared, its commands off. -/
def Lane.groupReinit (l : Lane) (g : Fin 4) : Lane :=
  let l := { l with gd := { l.gd with uvlo := bitPut l.gd.uvlo g.val false } }
  each (groupAxes g) (fun nn l => (l.onAxis nn fun a => { a with gate := { a.gate with
    cmd := 0, blank := 0, short := 0, readback := 0, uvlo := 0 } }).driveGates nn) l

/-- The host port and Gamar's mailboxes at the end of a slice that took them away: registers at their reset values, mailboxes
as after a restart (R47, R64). -/
def Lane.portReinit (l : Lane) : Lane :=
  let r := { l.gamarRestart with hp := { l.gamarRestart.hp with irqEn := 0, err := 0, traceWp := 0, scratch := 0, ready := false } }
  { r with hp := { r.hp with irqStatus := l.lostBits ||| 0x80, restarts := 1, dataOut := [] } }

/-- The block of slice k re-initialised (R391). -/
def Lane.reinit (l : Lane) (k : Nat) : Lane :=
  match k with
  | 4 => { l with dsp := { Dispatcher.cold with slots := l.dsp.slots } }
  | 6 => { l with str := Streams.cold }
  | 7 => { l with eps := Vector.replicate 512 Endpoint.cold, inp := l.resetInputs }
  | 8 => each (idxs 12) (fun nn l => l.stopCommit nn) { l with links := l.links.map Link.afterReset }
  | 9 => { l with
      tm := Timebase.cold, dls := Vector.replicate 16 DelayList.cold, cus := Vector.replicate 24 CompareUnit.cold,
      ax := l.ax.map fun (a : Axis) => { a with acc := Acc.cold } }
  | 10 => { l with
      ax := l.ax.map fun (a : Axis) => { a with fb := { Feedback.cold with ins := a.fb.ins.map fun i => { InFilter.cold with pin := i.pin } } },
      emu := Vector.replicate 2 Emul.cold }
  | 11 => { l with
      ax := l.ax.map fun (a : Axis) => { a with sense := Sense.cold }, afe := { Afe.cold with trips := l.afe.trips } }
  | 12 => { l with
      ax := l.ax.map fun (a : Axis) => { a with pwm := { Pwm.cold with latched := a.pwm.latched } },
      aux := l.aux.map fun (u : Aux) => { Aux.cold with latched := u.latched, gcmd := u.gcmd, gate := u.gate } }
  | 13 => { l with
      ax := l.ax.map fun (a : Axis) => { a with
        pwm := { a.pwm with latched := false, held := 0 }, gate := { a.gate with shoot := 0 } },
      aux := l.aux.map fun (u : Aux) => { u with latched := false } }
  | 14 => l.groupReinit 0
  | 15 => l.groupReinit 1
  | 16 => l.groupReinit 2
  | 17 => l.groupReinit 3
  | 18 => l.portReinit
  | 20 => l.portReinit
  | 21 => l.portReinit
  | 22 => { l.portReinit with lk := l.lk.restart }
  | 23 => { l with fc := { Collector.cold with checked := l.fc.checked, mask := l.fc.mask, present := l.fc.present, invalid := l.fc.invalid, lines := l.fc.lines } }
  | _ => l

/-- A line reads FAULT though its block has been re-initialised: the block still sees its condition, a condition outside the lane's
logic stands, or the slice was the collector's own and left the line's block alone (R363, R377). -/
def Lane.lineStill (l : Lane) (k s : Nat) : Bool :=
  l.lineHeld s || (16 ≤ s && s ≤ 22 && bit l.sys.badClocks (s - 16)) || (k = 23 && bit l.fc.present s)

/-- The report of a line that still reads FAULT, with the context that its source holds (R363, R369). -/
def Lane.stillReport (l : Lane) (s : Nat) : Flagged :=
  match l.fc.lines.find? fun r => r.src.val = s with
  | some r => { rep := r, wire := false, complement := false }
  | none => report s (match srcAxis s with | some nn => l.dev nn | none => 0xFF) 0 0 0

/-- The mask of a slice's sources is lifted: a line that then reads FAULT, or is invalid, is a new report (R364, R377). -/
def Lane.unmask (l : Lane) (k : Nat) : Lane :=
  let ss := sliceSources k
  let still := (ss.filter fun s => l.lineStill k s).map l.stillReport
  let bad := (idxs 128).filter fun s => ss.contains s.val && bit l.fc.invalid s.val
  let l := l.maskSources ss false
  let l := each ss (fun s l => l.healthy s) l
  let l := { l with fc := { l.fc with invalid := bad.foldl (fun v s => bitPut v s.val false) l.fc.invalid } }
  if still.isEmpty && bad.isEmpty then l else l.collect (still ++ bad.map wired)

/-! ### Slices -/

/-- The next slice of the run starts; a shutdown or service run waits with its first one until the dispatcher is idle (R160, R276,
R391, R393, R398). -/
def Lane.sliceStart (l : Lane) : Lane :=
  match l.tst.run with
  | none => l
  | some r =>
    if !l.awake || r.now.isSome || r.wake then l
    else if r.fresh && decide (r.kind ≠ RunKind.startup) && !l.dispatchIdle then l.stopSlots true
    else match r.todo with
      | [] => l
      | k :: ks =>
        let l := if r.fresh && decide (r.kind ≠ RunKind.startup) then l.quiesce r.kind else l
        let l := { l with tst := { l.tst with run := some { r with now := some k, todo := ks } } }
        let l := l.maskSources (sliceSources k) true
        let l := if 14 ≤ k && k ≤ 17 then { l with gd := { l.gd with heldLow := true } }.driveAll else l
        l.event 224 k

/-- The slice in progress ends: its block is re-initialised, its mask lifted, its result kept (R391, R392). -/
def Lane.sliceDone (l : Lane) (ok : Bool) : Lane :=
  match l.tst.run with
  | none => l
  | some r =>
    match r.now with
    | none => l
    | some k =>
      let l := (l.reinit k).unmask k
      let r := { r with
        now := none, passed := if ok then bitPut r.passed k true else r.passed,
        failed := if ok then r.failed else bitPut r.failed k true }
      let l := { l with tst := { l.tst with run := some r } }
      l.event (if ok then 225 else 226) k

/-- The slice in progress ends with a pattern signature (R391). -/
def Lane.sliceEnd (l : Lane) (sig : W64) : Lane :=
  match l.tst.run with
  | some r => match r.now with
    | some k => l.sliceDone (sig = Config.sliceSignature l.idx k)
    | none => l
  | none => l

/-! ### The seal of a run (R394 to R397) -/

/-- All 24 slices. -/
def sliceAll : BitVec 32 := 0x00FFFFFF

/-- The untested mask that a run writes (R394, R396). -/
def SelfTest.newUntested (t : SelfTest) (r : TestRun) : BitVec 32 :=
  if r.kind = .startup then t.untested &&& sliceAll &&& ~~~ r.passed else sliceAll &&& ~~~ r.passed

/-- The seal that a run writes (R394 to R396). -/
def Lane.runSeal (l : Lane) (r : TestRun) : Bytes :=
  let u := l.tst.newUntested r
  let c : BitVec 32 := if r.kind = .startup then 0 else u &&& l.tst.untested
  let st : Seal := if r.failed ≠ 0 then .failed else if u ≠ 0 then .partialRun else .pass
  sealRecord l.fl.powerCycles.toNat st r.passed.toNat u.toNat c.toNat

/-- The run has no further slice to start. -/
def TestRun.ended (r : TestRun) : Bool := r.now.isNone && (r.todo.isEmpty || r.wake)

/-- The seal of a finished or interrupted run is written; a shutdown run that nothing woke ends in the parked state, every other
run in a lane reset (R396 to R398, R506). -/
def Lane.writeSeal (l : Lane) : Lane :=
  match l.tst.run with
  | none => l
  | some r =>
    if !l.awake || !r.ended then l
    else
      let l := { l with
        fl := { l.fl with sealRec := some (l.runSeal r) }, tst := { l.tst with tested := l.tst.tested || decide (r.kind = RunKind.startup) } }
      if r.kind = .shutdown && !r.wake then l.park else l.leaveReset

/-- A wake request (R397, R509). -/
def Lane.wakeRun (l : Lane) : Lane :=
  match l.tst.run with
  | none => l
  | some r =>
    if r.kind = .startup then l else { l with tst := { l.tst with run := some { r with wake := true } } }

/-! ### Commands -/

/-- SELFTEST_STATUS (R395, R396): the seal state, three reserved bytes, the untested mask. -/
def Lane.selftestStatus (l : Lane) : Bytes := leBytes 1 (sealCode l.tst.sealState) ++ [0, 0, 0] ++ leBytes 4 l.tst.untested.toNat

/-- SELFTEST_RUN (R398). -/
def Lane.selftestRun (l : Lane) (m : MbId) (p : Bytes) : Lane :=
  let mask := fieldAt p 0 4
  if mask = 0 || 2 ^ 24 ≤ mask then l.respond m stsRange []
  else if l.sys.lstate ≠ .safe || l.sys.mode = .shutdown || l.tst.run.isSome then l.respond m stsState []
  else (l.beginRun .service mask).respond m stsOk []

/-- SELFTEST_ABORT (R397). -/
def Lane.selftestAbort (l : Lane) (m : MbId) : Lane :=
  if l.tst.run.isNone then l.respond m stsState [] else (l.wakeRun).respond m stsOk []

/-! ### Meanings -/

/-- SELFTEST_SLICE_START (R276, R377, R391, R393, R398). -/
def execSelftestSliceStart (l : LaneId) (s : State) : Host.Outcome State Fault Refusal := .next (s.onLane l Lane.sliceStart)

/-- SELFTEST_SLICE_END (R64, R377, R391, R393). -/
def execSelftestSliceEnd (l : LaneId) (sig : W64) (s : State) : Host.Outcome State Fault Refusal :=
  .next (s.onLane l fun x => x.sliceEnd sig)

/-- SLICE_TIMEOUT (R392): the slice is stopped, re-initialised and recorded as failed. -/
def execSliceTimeout (l : LaneId) (s : State) : Host.Outcome State Fault Refusal :=
  .next (s.onLane l fun x => x.sliceDone false)

/-- SEAL_WRITE (R394 to R398, R506). -/
def execSealWrite (l : LaneId) (s : State) : Host.Outcome State Fault Refusal := .next (s.onLane l Lane.writeSeal)

/-- SELFTEST_STATUS (R395). -/
def execSelftestStatus (l : LaneId) (m : MbId) (s : State) : Host.Outcome State Fault Refusal :=
  s.serve l m 0x801 fun x _ => x.respond m stsOk x.selftestStatus

/-- SELFTEST_RUN (R398). -/
def execSelftestRun (l : LaneId) (m : MbId) (s : State) : Host.Outcome State Fault Refusal :=
  s.serve l m 0x802 fun x p => x.selftestRun m p

/-- SELFTEST_ABORT (R397). -/
def execSelftestAbort (l : LaneId) (m : MbId) (s : State) : Host.Outcome State Fault Refusal :=
  s.serve l m 0x803 fun x _ => x.selftestAbort m

end Sys2Proof.Machine
end

