-- ==== Sys2Proof/Machine/LaneNet.lean ====
section
/-! DEFINITION. A lane on the network (R403 to R419, R421, R425, R427 to R445, R452): frames received and sent, its time, its
integration states, service connections, downloads; the rows from LANE_FRAME_RECEIVE to MASTER_SUCCESSION. -/

namespace Sys2Proof.Machine

/-! ### Fields (R427) -/

def coldstartEn (r : Bytes) : Bool := natBit (timeFlags r) 0
def syncEn (r : Bytes) : Bool := natBit (timeFlags r) 1

/-- The lane's net with a change. -/
def Lane.onNet (l : Lane) (f : Net → Net) : Lane := { l with net := f l.net }

/-- The lane sends on its lane ports at all: awake, before the first slice of a shutdown or service run (R398, R425). -/
def Lane.portsOn (l : Lane) : Bool := l.awake && !l.keeperStopped

/-- The cluster cycle in ns. -/
def Lane.cyc (l : Lane) : Nat := cycleNs l.laneRec

/-! ### Checks of a received frame (R416) -/

/-- Steps 1 to 3 and 5: FCS, EtherType, version and flags, channel. -/
def frameForm (g : GreenId) (f : CttFrame) : Bool :=
  f.fcsOk && f.ethertype = 0x88B5 && !f.vlan && f.version.toNat / 256 = 1 && f.flags.toNat / 2 = 0 && f.flags.toNat % 2 = g.val

/-- Step 4. -/
def Lane.ownSchedule (l : Lane) (f : CttFrame) : Bool := f.scheduleId.toNat = scheduleId l.laneRec

/-- The start of the cycle that a frame's counter names, nearest to the lane's present cycle. -/
def Lane.cycleStartOf (l : Lane) (c : Nat) : Int :=
  l.net.cycleAt + ((((c + 96 - l.net.cycle) % 64 : Nat) : Int) - 32) * l.cyc

/-- Steps 6 and 7 for a frame that arrives at global time t: the slot and what it says. -/
def Lane.frameSlot (l : Lane) (g : GreenId) (f : CttFrame) (t : Int) : Option SlotEntry :=
  match l.slotOf g f.slot.toNat with
  | none => none
  | some e =>
    let s := l.cycleStartOf f.cycle.toNat + e.startNs
    if e.occurs f.cycle.toNat && f.cycle.toNat < 64 && s - e.acceptNs ≤ t && t ≤ s + e.lengthNs + 520 &&
      f.kind.toNat = e.kind && f.length.toNat ≤ f.payload.length then some e else none

/-- The payload that the length field counts. -/
def frameData (f : CttFrame) : Bytes := f.payload.take f.length.toNat

/-- A discarded frame is counted (R416). -/
def Lane.frameDrop (l : Lane) (g : GreenId) : Lane := l.onChan g fun c => { c with discards := c.discards + 1 }

/-! ### STATUS (R413) -/

/-- The port state that a code names (R414). -/
def portStateOf (n : Nat) : PortState :=
  match n with
  | 0 => .down | 1 => .training | 2 => .opened | 3 => .closed | _ => .unknown

/-- The download CRC of channel g (R420). -/
def Lane.downloadCrc (l : Lane) (g : GreenId) : Nat :=
  match findRec l.inForce 9 g.val with
  | none => 0
  | some r => crc32c (slice l.laneRec 0x10 8 ++ leBytes 4 r.crc)

/-- The record CRC of the cascade record, which takes the place of the download CRC for it (R471); 0 without one. -/
def Lane.cascadeCrc (l : Lane) : Nat := match findRec l.inForce 13 0 with | none => 0 | some r => r.crc

/-- A STATUS frame taken: states, the counters of one port, the installed download, which ends a download that it reports
(R413, R421). -/
def Lane.statusHeard (l : Lane) (g : GreenId) (p : Bytes) : Lane :=
  let crc := fieldAt p 0 4
  let cs : List W32 := (List.range 8).map fun k => BitVec.ofNat 32 (fieldAt p (0x1C + 4 * k) 4)
  let done := crc ≠ 0 && crc = l.downloadCrc g
  let doneCascade := crc ≠ 0 && crc = l.cascadeCrc
  l.onChan g fun c => { c with
    instCrc := BitVec.ofNat 32 crc, instId := BitVec.ofNat 32 (fieldAt p 4 4), statusAge := some 0, statusAt := l.tm.loc.toNat,
    ports := Vector.ofFn fun k : Fin 16 => portStateOf (fieldAt p (0x0C + k.val) 1),
    counters := vset c.counters (fin (fieldAt p 9 1)) cs, download := if done then none else c.download,
    cascade := if doneCascade then none else c.cascade }

/-! ### Adoption (R438, R439, R441, R442) -/

/-- A frame that a lane may adopt: steps 1 to 5 of R416, COLDSTART or SYNC with MASTER, a used slot of its kind (R438). -/
def Lane.adoptable (l : Lane) (g : GreenId) (f : CttFrame) : Option SlotEntry :=
  match l.slotOf g f.slot.toNat with
  | none => none
  | some e =>
    if frameForm g f && l.ownSchedule f && e.used && e.kind = f.kind.toNat &&
      (f.kind = 3 || (f.kind = 4 && syncMaster f.payload)) then some e else none

/-- Whether the lane adopts it in its present state (R438, R442). -/
def Lane.adopts (l : Lane) (f : CttFrame) : Bool :=
  match l.net.integ with
  | .listen => !l.keeperStopped
  | .coldstart => f.kind = 3 && f.rank.toNat ≤ rank l.laneRec
  | _ => false

/-- The lane's time at the arrival of a frame it adopts: origin plus the path delay (R441). -/
def Lane.adoptTime (l : Lane) (g : GreenId) (f : CttFrame) : Int :=
  let d := (vget l.net.chan g).latest.getD 0
  ((syncOrigin f.payload + syncDelay f.payload + 460 : Nat) : Int) + roundEven d

/-- Adoption: global time steps, the lane takes the frame's cycle and is INTEGRATING and SYNCED (R113, R438, R439, R441). -/
def Lane.adopt (l : Lane) (g : GreenId) (f : CttFrame) (e : SlotEntry) : Lane :=
  let l := l.stepGlobal (l.adoptTime g f)
  let l := { l with tm := { l.tm with slew := 0 } }
  let l := l.onNet fun n => { n with
    integ := .integrating, master := false, cycle := f.cycle.toNat % 64, cycleAt := (syncOrigin f.payload : Int) - e.startNs,
    inState := 0, goodRun := 0, limitRun := 0, quiet := 0, lowerHeard := false, lowerAge := 0, copies := [] }
  (l.setSync .synced).rejoinTry

/-! ### A valid frame (R92, R417, R418, R432, R435, R476) -/

/-- The view of a Green after a valid frame (R92). -/
def Lane.greenHeard (l : Lane) (g : GreenId) : Lane :=
  let c := vget l.net.chan g
  let l := l.onChan g fun c => { c with gotNow := true, missed := 0 }
  match c.view with
  | .present => l
  | .absent => l.greenThere g
  | .lost => if c.gotPrev then l.greenRestored g else l

/-- Trunks whose slots deliver a valid frame are there, or restored (R476). -/
def Lane.trunkHeard (l : Lane) (g : GreenId) (owner : Nat) : Lane :=
  let r := l.cascadeRec
  each (idxs 4) (fun j l =>
    if owner < 16 && trunkPort r g j.val = owner then
      l.onNet fun n => { n with
        trunkSeen := bitPut n.trunkSeen j.val true, trunkNow := bitPut n.trunkNow j.val true,
        trunkMissed := vset n.trunkMissed j 0, trunkLost := bitPut n.trunkLost j.val false,
        trunkEnded := bitPut n.trunkEnded j.val false }
    else l) l

/-- Delay and offset of a channel from a SYNC frame with a Green's time stamp: d where dev_ns is present, and e (R432). -/
def syncDelta (latest : Option Rat) (a : Rat) (dev : Option Int) : Option Rat × Rat :=
  match dev with
  | some v => (some ((a + v) / 2), (a - v) / 2)
  | none => (none, a - latest.getD 0)

/-- A valid SYNC frame: delays, the master's offset, precedence (R432, R434, R435). -/
def Lane.syncHeard (l : Lane) (g : GreenId) (f : CttFrame) (t : Int) : Lane :=
  let p := f.payload
  let lower := f.rank.toNat < rank l.laneRec
  let l := l.onNet fun n => { n with lowerHeard := n.lowerHeard || lower, master := n.master && !(lower && syncMaster p) }
  let l := if syncMaster p then l.onNet fun n => { n with quiet := 0 } else l
  if syncEgress p = 0 then l
  else
    let dev := syncDev p
    let x := syncDelta (vget l.net.chan g).latest ((t : Rat) - syncEgress p) dev
    l.onChan g fun c =>
      let c := match x.1 with | some d => { c with delays := (0, d) :: c.delays, latest := some d } | none => c
      let better := match c.off with | none => true | some o => f.rank.toNat < o.2.2
      if syncMaster p && better then { c with off := some (x.2, dev.isSome, f.rank.toNat) } else c

/-- The service connection that an ID names (R406, R418). -/
def serviceOf (r : Bytes) (conn : Nat) : Option (Fin 4) := (idxs 4).find? fun m => conn ≠ 0 && serviceConn r m.val = conn

/-- A SERVICE frame: a request posts its mailbox (R418, R419). -/
def Lane.serviceHeard (l : Lane) (p : Bytes) : Lane :=
  if p.length < 4 || fieldAt p 2 1 ≠ 0 then l
  else match serviceOf l.laneRec (fieldAt p 0 2) with
    | none => l
    | some c =>
      let m : MbId := fin (4 + c.val)
      let l := l.onNet fun n => { n with svcSeen := bitPut n.svcSeen c.val true }
      if (l.mb m).st = .idle && !l.portBlocked then
        (l.onMb m fun b => { b with inBuf := memWriteN b.inBuf 0 ((p.drop 4).take 1024) }).post m
      else l.onNet fun n => { n with svcDrops := n.svcDrops + 1 }

/-- The first valid copy of a slot and cycle, if the lane has it (R417). -/
def Net.copyOf (n : Net) (slot cycle : Nat) : Option Bytes := (n.copies.find? fun c => c.1 = slot && c.2.1 = cycle).map fun c => c.2.2

/-- A frame's content delivered once per slot and cycle (R417). -/
def Lane.deliver (l : Lane) (f : CttFrame) (t : Int) : Lane :=
  let slot := f.slot.toNat
  match l.net.copyOf slot f.cycle.toNat with
  | some p => if p = frameData f then l else l.onNet fun n => { n with copyMismatch := n.copyMismatch + 1 }
  | none =>
    let l := l.onNet fun n => { n with copies := n.copies ++ [(slot, f.cycle.toNat, frameData f)] }
    if f.kind = 1 then l.readContainer slot (frameData f) t
    else if f.kind = 2 then l.serviceHeard (frameData f)
    else l

/-- A valid frame. -/
def Lane.frameValid (l : Lane) (g : GreenId) (f : CttFrame) (t : Int) (e : SlotEntry) : Lane :=
  let l := ((l.greenHeard g).trunkHeard g e.owner).onChan g fun c => { c with
    lanesNow := if 16 ≤ e.owner then bitPut c.lanesNow (e.owner - 16) true else c.lanesNow }
  let l := if f.kind = 4 then l.syncHeard g f t else if f.kind = 3 then l.onNet fun n => { n with quiet := 0 } else l
  l.deliver f t

/-- A frame arrives on the lane port of Green g at global time t (R413, R416, R417, R438). -/
def Lane.frameIn (l : Lane) (g : GreenId) (f : CttFrame) (t : Int) : Lane :=
  if !l.awake then l
  else if f.kind = 6 then (if frameForm g f then l.statusHeard g f.payload else l.frameDrop g)
  else match l.adoptable g f, l.adopts f with
    | some e, true => let l := l.adopt g f e; l.frameValid g f l.tm.glob.toNat e
    | _, _ =>
      if !frameForm g f || !l.ownSchedule f then l.frameDrop g
      else match l.frameSlot g f t with
        | some e => l.frameValid g f t e
        | none => l.frameDrop g

/-! ### The cycle (R434, R437 to R439) -/

/-- The cycle offset from the master's SYNC frames, whether a dev_ns was present, and whether the channels disagreed (R434). -/
def Lane.cycleOffset (l : Lane) : Option (Rat × Bool) × Bool :=
  match (vget l.net.chan 0).off, (vget l.net.chan 1).off with
  | some (a, da, _), some (b, db, _) =>
    let lim : Rat := 2 * passiveLimitNs l.laneRec
    if a - b > lim || b - a > lim then (some (a, da || db), true) else (some ((a + b) / 2, da || db), false)
  | some (a, da, _), none => (some (a, da), false)
  | none, some (b, db, _) => (some (b, db), false)
  | none, none => (none, false)

/-- Global time corrected by a cycle offset (R434). -/
def Timebase.correct (t : Timebase) (ppm cyc : Nat) (off : Option Rat) : Timebase :=
  match off with
  | none => { t with slew := 0 }
  | some e => { t with slew := -e / cyc, rate := clampPpm ppm (t.rate - e / (2 * cyc)) }

/-- The rate correction stands at its limit (R438). -/
def Timebase.atLimit (t : Timebase) (ppm : Nat) : Bool := t.rate = mkRat ppm 1000000 || t.rate = -(mkRat ppm 1000000)

/-- A magnitude is at most a bound. -/
def within (e lim : Rat) : Bool := (-lim ≤ e) && (e ≤ lim)

/-- The integration state changes. -/
def Net.enter (n : Net) (v : Integ) : Net := { n with integ := v, inState := 0, goodRun := 0, limitRun := 0 }

/-- What a cycle's offset does to the integration state (R438). The master has no offset, but its rate correction may stand at its limit
too; a lane that turns PASSIVE sends nothing and is master no longer (DEDUCED, R437, notes/assumptions/81.md). -/
def Lane.integrate (l : Lane) (off : Option (Rat × Bool)) : Lane :=
  let lim : Rat := passiveLimitNs l.laneRec
  let limited := l.tm.atLimit (rateLimitPpm l.laneRec)
  match l.net.integ with
  | .integrating =>
    let good := match off with | some (e, dev) => within e lim && dev | none => false
    let n := if good then l.net.goodRun + 1 else 0
    if 2 ≤ n then l.onNet fun x => x.enter .active else l.onNet fun x => { x with goodRun := n }
  | .active =>
    let n := if limited then l.net.limitRun + 1 else 0
    let bad := match off with | some (e, _) => !within e lim | none => false
    if bad || 8 ≤ n then l.onNet fun x => { x.enter .passive with master := false } else l.onNet fun x => { x with limitRun := n }
  | .passive =>
    let good := match off with | some (e, _) => within e (lim / 2) && !limited | none => false
    let n := if good then l.net.goodRun + 1 else 0
    if 2 ≤ n then l.onNet fun x => x.enter .active else l.onNet fun x => { x with goodRun := n }
  | _ => l

/-- The lane follows a master: it measures and corrects (R434, R437). -/
def Net.follows (n : Net) : Bool := !n.master && (n.integ = .integrating || n.integ = .active || n.integ = .passive)

/-- The lane's own SYNC slot occurs in a cycle, on either channel (R435). -/
def Lane.syncSlotIn (l : Lane) (c : Nat) : Bool :=
  (idxs 2).any fun g => (l.schedule g).any fun e => e.kind = 4 && e.owner = 16 + l.idx.val && e.occurs c

/-- What the end of a cycle does to the counts of the net, and the start of the next one. -/
def Net.roll (n : Net) (own : Bool) (cyc : Nat) : Net :=
  { n with
    cycle := (n.cycle + 1) % 64, cycleAt := n.cycleAt + cyc, quiet := n.quiet + 1,
    lowerAge := if n.lowerHeard then 0 else if own then n.lowerAge + 1 else n.lowerAge, lowerHeard := false,
    copies := [], svcOut := [], trunkNow := 0,
    trunkMissed := Vector.ofFn fun j => if bit n.trunkNow j.val then 0 else vget n.trunkMissed j + 1,
    chan := n.chan.map fun (c : Channel) => { c with
      missed := if c.gotNow then 0 else c.missed + 1, gotPrev := c.gotNow, gotNow := false,
      lanesPrev := c.lanesNow, lanesNow := 0, off := none, delays := recentDelays c.delays, statusAge := c.statusAge.map fun k => k + 1 } }

/-- A cluster cycle starts: the ended one's offset corrects the time, the state is judged, event 144 (R434, R438, R439). -/
def Lane.cycleStart (l : Lane) : Lane :=
  if !l.awake then l
  else
    let x := l.cycleOffset
    let off : Option (Rat × Bool) := if l.net.follows then x.1 else none
    let l := { l with tm := l.tm.correct (rateLimitPpm l.laneRec) l.cyc (off.map fun (y : Rat × Bool) => y.1) }
    let l := l.onNet fun n => { n with
      inState := n.inState + 1, skews := if n.follows && x.2 then n.skews + 1 else n.skews,
      lastOff := match off with | some y => y.1 | none => n.lastOff }
    let l := l.integrate off
    let own := l.syncSlotIn l.net.cycle
    let l := l.onNet fun n => n.roll own l.cyc
    l.event 144 l.net.cycle

/-! ### Timed transitions (R435, R438, R443) -/

/-- listen_cycles have passed without a frame to adopt, with COLDSTART_EN: cycle 0 of COLDSTART starts (R438, R439). -/
def Lane.listenEnd (l : Lane) : Lane :=
  let r := l.laneRec
  if l.portsOn && l.net.integ = .listen && coldstartEn r && listenCycles r ≤ l.net.inState && l.hasSchedule then
    (l.onNet fun n => { n.enter .coldstart with cycle := 0, cycleAt := l.tm.glob.toNat }).event 144 0
  else l

/-- coldstart_cycles own COLDSTART cycles have passed undisputed: ACTIVE, as master (R437, R438). -/
def Lane.coldMaster (l : Lane) : Lane :=
  if l.portsOn && l.net.integ = .coldstart && coldstartCycles l.laneRec ≤ l.net.inState then
    ((l.onNet fun n => { n.enter .active with master := true }).setSync .synced).rejoinTry
  else l

/-- Eight cycles of INTEGRATING without a master's frame: LISTEN (R438, R443). -/
def Lane.integrationEnd (l : Lane) : Lane :=
  if l.awake && l.net.integ = .integrating && 8 ≤ l.net.quiet then
    (l.onNet fun n => n.enter .listen).setSync .holdover
  else l

/-- Eight cycles of PASSIVE: global time steps by the cycle offset, INTEGRATING (R113, R438). -/
def Lane.passiveEnd (l : Lane) : Lane :=
  if l.awake && l.net.integ = .passive && 8 ≤ l.net.inState then
    let l := l.stepGlobal ((l.tm.glob.toNat : Int) - roundEven l.net.lastOff)
    { l with tm := { l.tm with slew := 0 } }.onNet fun n => { n.enter .integrating with quiet := 0 }
  else l

/-- No SYNC frame of lower rank in the last master_loss_cycles occurrences of the own SYNC slot: the lane sets MASTER (R435). -/
def Lane.succeed (l : Lane) : Lane :=
  let r := l.laneRec
  if l.portsOn && l.net.integ = .active && syncEn r && !l.net.lowerHeard && masterLossCycles r ≤ l.net.lowerAge then
    ((l.onNet fun n => { n with master := true }).setSync .synced).rejoinTry
  else l

/-! ### Sending (R407, R418, R425, R429, R437) -/

/-- A frame of the lane for a channel (R403). -/
def Lane.frameOf (l : Lane) (g : GreenId) (kind slot : Nat) (payload : Bytes) : CttFrame :=
  cttFrame
    { chan := g, source := localAddress (Config.laneAddress l.idx) l.idx.val, kind := kind, slot := slot, cycle := l.net.cycle,
      rank := rank l.laneRec, scheduleId := scheduleId l.laneRec, length := payload.length } payload

/-- link_delay_ns of a channel: the mean of its delays of the last 8 cycles, unknown without any (R429, R432). -/
def linkDelayNs (c : Channel) : Nat := if c.delays.isEmpty then 0xFFFFFFFF else ofSigned 32 (roundEven (meanDelay c.delays))

/-- The payload of a SYNC or COLDSTART frame (R429). -/
def Lane.timePayload (l : Lane) (g : GreenId) (e : SlotEntry) (master : Bool) : Bytes :=
  leBytes 1 (rank l.laneRec) ++ leBytes 1 (b2n master) ++ [0, 0] ++ leBytes 4 (linkDelayNs (vget l.net.chan g)) ++
    leBytes 8 (ofSigned 64 (l.net.cycleAt + e.startNs)) ++ leBytes 8 0 ++ leBytes 4 0x80000000 ++ [0, 0, 0, 0]

/-- The network mailbox whose response goes out next. -/
def Lane.svcReady (l : Lane) : Option (Fin 4) := (idxs 4).find? fun c => (l.mb (fin (4 + c.val))).st = .done

/-- What a SERVICE slot carries in the present occurrence: the copy sent on the other channel, a response, or nothing; a response
sent returns its mailbox to IDLE (R418). -/
def Lane.servicePayload (l : Lane) (slot : Nat) : Lane × Bytes :=
  match l.net.svcOut.find? fun x => x.1 = l.net.cycle && x.2.1 = slot with
  | some x => (l, x.2.2)
  | none => match l.svcReady with
    | none => (l, [])
    | some c =>
      let m : MbId := fin (4 + c.val)
      let b := (l.mb m).outBuf
      let p := leBytes 2 (serviceConn l.laneRec c.val) ++ [1, 0] ++ memReadN b 0 (16 + ofLe (memReadN b 6 2))
      let l := l.onMb m fun b => { b with st := .idle }
      (l.onNet fun n => { n with svcOut := (n.cycle, slot, p) :: n.svcOut }, p)

/-- The container packed for a slot (R449, R452). -/
def Net.packedFor (n : Net) (slot : Nat) : Bytes := match n.packed.find? fun x => x.1 = slot with | some x => x.2 | none => []

/-- What the lane sends in a slot of a kind, if it sends (R425, R435, R437). -/
def Lane.slotPayload (l : Lane) (g : GreenId) (slot : Nat) (e : SlotEntry) : Lane × Option Bytes :=
  let safe := l.sys.lstate = .safe
  match l.net.integ with
  | .coldstart => (l, if e.kind = 3 && coldstartEn l.laneRec then some (l.timePayload g e false) else none)
  | .integrating => (l, if e.kind = 2 || (e.kind = 1 && !safe) then some [] else none)
  | .active =>
    if e.kind = 1 then (l, if safe then none else some (l.net.packedFor slot))
    else if e.kind = 2 then let x := l.servicePayload slot; (x.1, some x.2)
    else if e.kind = 3 && coldstartEn l.laneRec then (l, some (l.timePayload g e false))
    else if e.kind = 4 && syncEn l.laneRec then (l, some (l.timePayload g e l.net.master))
    else (l, none)
  | _ => (l, none)

/-- The lane sends in the present occurrence of a slot of its own on channel g (R407). -/
def Lane.slotSend (l : Lane) (g : GreenId) (slot : Nat) : Lane :=
  match l.slotOf g slot with
  | none => l
  | some e =>
    if !l.portsOn || e.owner ≠ 16 + l.idx.val || !e.occurs l.net.cycle then l
    else
      let x := l.slotPayload g slot e
      match x.2 with
      | none => x.1
      | some p => x.1.onNet fun n => { n with sent := [(g, l.frameOf g e.kind slot p)] }

/-- The lane owns a slot as DATA on a channel. -/
def Lane.ownsData (l : Lane) (slot : Nat) : Bool :=
  (idxs 2).any fun g => match l.slotOf g slot with | some e => e.used && e.kind = 1 && e.owner = 16 + l.idx.val | none => false

/-- The container of a DATA slot is packed, 20 µs before its start (R452). Producers send nothing in LANE_SAFE (R469). -/
def Lane.pack (l : Lane) (slot : Nat) : Lane :=
  if !l.portsOn || l.net.integ ≠ .active || l.sys.lstate = .safe || !l.ownsData slot then l
  else
    let x := l.packSlot slot
    x.1.onNet fun n => { n with packed := (slot, x.2) :: n.packed.filter fun y => y.1 ≠ slot }

/-! ### Downloads (R421, R471) -/

/-- The chunks of a schedule download: the parts of the instance, each with the network section (R406, R421). -/
def Lane.scheduleChunks (l : Lane) (g : GreenId) : List SchedChunk :=
  let parts := match findRec l.inForce 9 g.val with | some r => r.parts | none => []
  (List.range parts.length).map fun k =>
    { dlCrc := BitVec.ofNat 32 (l.downloadCrc g), cascade := false, netSection := slice l.laneRec 0x10 0x20, part := k,
      parts := parts.length, record := parts.getD k [] }

/-- The one chunk of the cascade record (R471). -/
def Lane.cascadeChunks (l : Lane) : List SchedChunk :=
  match findRec l.inForce 13 0 with
  | some r => [{ dlCrc := BitVec.ofNat 32 r.crc, cascade := true, netSection := [], part := 0, parts := 1, record := r.parts.headD [] }]
  | none => []

/-- What channel g still has to send: the schedule's parts, then the cascade record (R421, R471). -/
def Lane.downloadChunks (l : Lane) (g : GreenId) : List SchedChunk :=
  let c := vget l.net.chan g
  (if c.download.isSome then l.scheduleChunks g else []) ++ if c.cascade.isSome then l.cascadeChunks else []

/-- The payload of a SCHEDULE frame: download CRC, network section, part. DESIGN CHOICE: the spec names its contents and not their order
(R421, notes/assumptions/21.md). -/
def chunkPayload (c : SchedChunk) : Bytes := leBytes 4 c.dlCrc.toNat ++ c.netSection ++ c.record

/-- One cycle less of those left to send. -/
def countDown (n : Option Nat) : Option Nat := n.bind fun n => if n ≤ 1 then none else some (n - 1)

/-- The downloads go out once in this cycle (R421, R425, R471). -/
def Lane.downloadSend (l : Lane) (g : GreenId) : Lane :=
  let c := vget l.net.chan g
  if (c.download.isNone && c.cascade.isNone) || !l.portsOn || l.sys.lstate = .safe then l
  else
    let fs := (l.downloadChunks g).map fun k => (g, { l.frameOf g 5 0 (chunkPayload k) with sched := some k })
    (l.onNet fun x => { x with sent := fs }).onChan g fun c =>
      { c with download := countDown c.download, cascade := countDown c.cascade }

/-! ### Service connections (R48, R419) -/

/-- A service connection is lost: a command in its mailbox still completes and its response is discarded; negotiation and session
are released as for BYE. -/
def Lane.serviceLost (l : Lane) (c : Fin 4) : Lane :=
  if !l.awake || !bit l.net.svcSeen c.val then l
  else
    let m : MbId := fin (4 + c.val)
    let l := l.onNet fun n => { n with svcSeen := bitPut n.svcSeen c.val false }
    match (l.mb m).st with
    | .posted => l.onMb m fun b => { b with discard := true }
    | .busy => l.onMb m fun b => { b with discard := true }
    | _ => l.bye m

/-! ### Meanings -/

/-- LANE_FRAME_RECEIVE (R92, R413, R416 to R419, R432, R435, R438, R441, R442, R449, R453, R476). -/
def execLaneFrameReceive (l : LaneId) (g : GreenId) (f : CttFrame) (t : Int) (s : State) : Host.Outcome State Fault Refusal :=
  .next (s.onLane l fun x => x.frameIn g f t)

/-- SLOT_TRANSMIT (R407, R418, R425, R429, R435, R437). -/
def execSlotTransmit (l : LaneId) (g : GreenId) (slot : Fin 1024) (s : State) : Host.Outcome State Fault Refusal :=
  .next (s.onLane l fun x => x.slotSend g slot.val)

/-- PDU_PACK (R449, R452). -/
def execPduPack (l : LaneId) (slot : Fin 1024) (s : State) : Host.Outcome State Fault Refusal :=
  .next (s.onLane l fun x => x.pack slot.val)

/-- SCHEDULE_DOWNLOAD_SEND (R420, R421, R471). -/
def execScheduleDownloadSend (l : LaneId) (g : GreenId) (s : State) : Host.Outcome State Fault Refusal :=
  .next (s.onLane l fun x => x.downloadSend g)

/-- SERVICE_CONN_LOST (R48, R419). -/
def execServiceConnLost (l : LaneId) (c : Fin 4) (s : State) : Host.Outcome State Fault Refusal :=
  .next (s.onLane l fun x => x.serviceLost c)

/-- CLUSTER_CYCLE_START (R432, R434, R438, R439). -/
def execClusterCycleStart (l : LaneId) (s : State) : Host.Outcome State Fault Refusal := .next (s.onLane l Lane.cycleStart)

/-- LISTEN_TIMEOUT (R438, R439). -/
def execListenTimeout (l : LaneId) (s : State) : Host.Outcome State Fault Refusal := .next (s.onLane l Lane.listenEnd)

/-- COLDSTART_MASTER (R437, R438). -/
def execColdstartMaster (l : LaneId) (s : State) : Host.Outcome State Fault Refusal := .next (s.onLane l Lane.coldMaster)

/-- INTEGRATION_TIMEOUT (R438, R443). -/
def execIntegrationTimeout (l : LaneId) (s : State) : Host.Outcome State Fault Refusal := .next (s.onLane l Lane.integrationEnd)

/-- PASSIVE_TIMEOUT (R113, R438). -/
def execPassiveTimeout (l : LaneId) (s : State) : Host.Outcome State Fault Refusal := .next (s.onLane l Lane.passiveEnd)

/-- MASTER_SUCCESSION (R435). -/
def execMasterSuccession (l : LaneId) (s : State) : Host.Outcome State Fault Refusal := .next (s.onLane l Lane.succeed)

end Sys2Proof.Machine
end

