-- ==== Sys2Proof/Machine/Trunks.lean ====
section
/-! DEFINITION. The loss of a trunk of the cascade (R476); the rows TRUNK_LOST and TRUNK_HOLD_END. A valid frame in a slot of the
trunk restores it (`Lane.trunkHeard`). -/

namespace Sys2Proof.Machine

/-- A trunk that has delivered a valid frame since lane reset is lost after trunk_loss_cycles cycles without one: its consumers are
under a hold and HELD, which starts no profile (R104, R459, R476). -/
def Lane.trunkLoss (l : Lane) (j : Fin 4) : Lane :=
  if !l.awake || !bit l.net.trunkSeen j.val || bit l.net.trunkLost j.val ||
    vget l.net.trunkMissed j < trunkLossCycles l.cascadeRec then l
  else (l.onNet fun n => { n with
    trunkLost := bitPut n.trunkLost j.val true, trunkEnded := bitPut n.trunkEnded j.val false }).holdMark.trunkMark j

/-- hold_ms after the loss, the HELD consumers of the trunk enter FAILED (R476). -/
def Lane.trunkHoldEnds (l : Lane) (j : Fin 4) : Lane :=
  if !l.awake || !l.trunkHolds j then l
  else (l.onNet fun n => { n with trunkEnded := bitPut n.trunkEnded j.val true }).holdRelease fun e =>
    l.trunkOwns j (connSlot (l.connRec e))

/-! ### Meanings -/

/-- TRUNK_LOST (R476). -/
def execTrunkLost (l : LaneId) (j : Fin 4) (s : State) : Host.Outcome State Fault Refusal :=
  .next (s.onLane l fun x => x.trunkLoss j)

/-- TRUNK_HOLD_END (R476). -/
def execTrunkHoldEnd (l : LaneId) (j : Fin 4) (s : State) : Host.Outcome State Fault Refusal :=
  .next (s.onLane l fun x => x.trunkHoldEnds j)

end Sys2Proof.Machine
end

