-- ==== Sys2Proof/Machine/Power.lean ====
section
/-! DEFINITION. Power, clocks, reset, the start sequence and SHUTDOWN (R494 to R511), temperatures (R541), the test access port
(R526, R527); the rows from PD_CLASSIFICATION to TAP_RESET and the two temperature rows of the Greens. -/

namespace Sys2Proof.Machine

/-! ### The start sequence (R505) -/

/-- The lane stands before step 3 of its start sequence: in LANE_INIT, or already in LANE_SAFE by a class L report (R376). -/
def Lane.startable (l : Lane) : Bool :=
  l.awake && l.sys.mode = .start && !l.sys.stuck && !l.hp.ready && l.tst.run.isNone && (l.sys.lstate = .init || l.sys.lstate = .safe)

/-- A clock that LANE_SAFE needs is bad: the lane stays in LANE_INIT (R376, R500). -/
def Lane.clocksBad (l : Lane) : Bool := (List.range 6).any fun k => bit l.sys.badClocks k

/-- A start-up test begins (R396). -/
def Lane.startTest (l : Lane) : Lane := (l.toState .test).beginRun .startup l.tst.startupMask

/-- Committed records checked (R80). DESIGN CHOICE: the CRC checked is each part's own crc field (R75), since no stored value of
R76's record CRC is named (notes/assumptions/73.md). -/
def Lane.checkRecords (l : Lane) : Lane :=
  let bad := (l.fl.recs.filter fun r => !r.parts.all partCrcOk).map fun r => (r.rtype, r.inst)
  let chans : Vector StreamCh 16 := Vector.ofFn fun c =>
    let h := vget l.str.chans c
    if bad.contains (10, c.val) then { h with st := .excluded } else h
  { l with
    sys := { l.sys with bad := bad, laneRecBad := bad.contains (1, 0) }, str := { l.str with chans := chans } }

/-- The slot of a committed image: STOPPED, or EXCLUDED where its CRC fails (R146, R159). -/
def slotOfFlash (images : List (Nat × Bytes)) (k : Nat) : Slot :=
  match images.find? fun x => x.1 = k with
  | none => Slot.cold
  | some x => if fieldAt x.2 0x0C 4 = imageCrc x.2 then Slot.ofImage x.2 else { Slot.cold with st := .excluded }

/-- Graph images loaded (R159). -/
def Lane.loadImages (l : Lane) : Lane :=
  { l with dsp := { l.dsp with slots := Vector.ofFn fun k : Fin 64 => slotOfFlash l.fl.images k.val } }

/-- FC_RAISE loaded from the lane record in force (R368, R376). -/
def Lane.loadRaise (l : Lane) : Lane := { l with fc := { l.fc with raiseBits := BitVec.ofNat 128 (raiseField l.laneRec) } }

/-- Sensing calibration: the offsets measured, and which axes fail (R286). -/
def Lane.calibrateAll (l : Lane) (os : List Int) : Lane :=
  let l := { l with afe := { l.afe with
    auxCal := Vector.ofFn fun k : Fin 12 => os.getD (72 + k.val) 0, vbusCal := os.getD 84 0 } }
  each (idxs 12) (fun nn l =>
    let o : Vector Int 6 := Vector.ofFn fun j => os.getD (6 * nn.val + j.val) 0
    l.onAxis nn fun a => { a with sense := { a.sense with oCal := o, calFail := !calibrationOk (l.axisRec nn) o } }) l

/-- Every input pair starts forced to its safe_value, the Default where its record has failed (R80, R468). -/
def Lane.startPairs (l : Lane) : Lane :=
  each (idxs 16) (fun k l => l.onPair k fun p => { p with value := safeValue (l.pairRec k) = 1 }) l

/-- Step 6: what Gamar does before it sets GAMAR_READY (R73, R80, R89, R159, R286), with the blocks that start on the committed
records. -/
def Lane.gamarStart (l : Lane) (o : StartOutcome) : Lane :=
  let l := ((l.checkRecords.checkChain).loadRaise).loadImages
  let l := (l.calibrateAll o.oCal).startPairs.startBlocks
  { l with hp := { l.hp with ready := true } }

/-- Step 7: LANE_ACTIVE, or LANE_SAFE where the lane record is not in use (R80, R376, R505). -/
def Lane.startEnd (l : Lane) (seen : List LaneId) : Lane :=
  let l := each seen (fun k l => l.seePartner k true) l
  if l.sys.lstate ≠ .init then l
  else if l.sys.laneRecBad then l.enterLaneSafe
  else l.enterActive false

/-- Steps 4 to 7 (R387, R396, R505). A second start-up test of a power-up never runs: the lane that would need one stays in
LANE_INIT (R396, notes/assumptions/23.md). -/
def Lane.startFrom4 (l : Lane) (o : StartOutcome) (seen : List LaneId) : Lane :=
  let l := l.readSeal
  if l.tst.tested && (l.tst.sealState = .failed || (!l.tst.quick && l.sys.lstate = .init)) then l.stick
  else if !l.tst.quick && l.sys.lstate = .init then l.startTest
  else
    let l := l.injectionTest o.injection
    (l.gamarStart o).startEnd seen

/-- The start sequence of a lane (R505): `seen` are the partners that read as in LANE_ACTIVE. -/
def Lane.start (l : Lane) (o : StartOutcome) (seen : List LaneId) : Lane :=
  if !l.startable then l
  else if !o.selfCheckOk then l.stick
  else
    let l := { l with fc := { l.fc with checked := true } }
    if l.clocksBad then l
    else { l with sys := { l.sys with pwrHold := true } }.startFrom4 o seen

/-- The partners of a lane that read as in LANE_ACTIVE. -/
def State.seenBy (s : State) (l : LaneId) : List LaneId :=
  (s.lane l).partners.filter fun k => (s.lane l).partnerSeen (s.lane k)

/-! ### SHUTDOWN (R506 to R509) -/

/-- The lane enters SHUTDOWN: a debug halt ends with WORKSHOP, safe states, outputs off, runs and streams stopping, the shutdown
run to come; a service run in progress goes on in its place (R31, R65, R160, R491, R506, R527). -/
def Lane.shutdown (l : Lane) : Lane :=
  let l := { l with
    sys := { l.sys with rejoining := false, rejoinTime := false, autoClear := false, halted := false }, tap := { l.tap with pins := false } }
  let l := l.toMode .shutdown
  let l := each (idxs 12) (fun nn l => l.enterSafe nn) l
  let l := ((l.auxAllOff).stopSlots true).streamsStop
  if l.tst.run.isSome then l else l.beginRun .shutdown (2 ^ 24 - 1)

/-- A start-up test runs. -/
def Lane.startupRun (l : Lane) : Bool := match l.tst.run with | some r => r.kind = .startup | none => false

/-- x_RUN counts as low (R504, R506, R507). -/
def Lane.runLow (l : Lane) : Lane :=
  let l := { l with sys := { l.sys with run := false } }
  if !l.awake || l.sys.mode = .shutdown || l.startupRun then l
  else if l.sys.mode = .off then l.park
  else if l.sys.mode = .start && !l.sys.pwrHold then l.park
  else l.shutdown

/-- x_RUN counts as high (R504, R509, R511). A lane without power or in reset samples nothing. -/
def Lane.runHigh (l : Lane) : Lane :=
  if l.sys.run || l.sys.inReset || !l.sys.powered then l
  else
    let l := { l with sys := { l.sys with run := true } }
    if l.sys.mode = .off then l.leaveReset else if l.sys.mode = .shutdown then l.wakeRun else l

/-! ### Supplies and resets (R496 to R503) -/

/-- The lane's supply is valid again: power-on reset, counted, released (R501, R503, R504). -/
def Lane.supplyUp (l : Lane) : Lane :=
  if l.sys.powered then l
  else ({ l with sys := { l.sys with powered := true } }.laneReset true).leaveReset

/-- The lane's supply is lost: power-on reset is held (R23, R497, R501). -/
def Lane.supplyDown (l : Lane) : Lane :=
  if !l.sys.powered then l else { l with sys := { l.sys with powered := false, run := false, parked := false } }.laneReset false

/-- x_RST_N is low (R502). -/
def Lane.resetLow (l : Lane) : Lane := { l with sys := { l.sys with inReset := true, parked := false } }.laneReset false

/-- x_RST_N rises (R502, R504). -/
def Lane.resetRelease (l : Lane) : Lane :=
  if !l.sys.inReset then l else { l with sys := { l.sys with inReset := false } }.leaveReset

/-- A Green after its reset: forwarding state, counters and histories cleared, the stored schedule kept, and with it the PMA
roles that the stored cascade record sets (R420, R424, R472, R501). Held in reset, without supply, over-temperature or under
GA_TEST, all its ports stay DOWN (R497, R523, R541). DESIGN CHOICE: no rule tells when a clock that has failed works again, and the
model keeps it failed through every reset (R26, notes/assumptions/81.md). -/
def Green.afterReset (x : Green) : Green :=
  { Green.cold with
    ports := Vector.ofFn fun p =>
      let q := { Green.cold.port p with pma := (x.port p).pma }
      if x.powered && !x.testPin && !x.hot then q else { q with st := .down },
    powered := x.powered, clockOk := x.clockOk, testPin := x.testPin, hot := x.hot, sched := x.sched, section8 := x.section8,
    dlCrc := x.dlCrc, cascade := x.cascade, free := x.free }

/-- The PD of external port p of Green g has been classified, so that power is there for its load (R495). -/
def State.powered (s : State) (g : GreenId) (p : Nat) : Bool := (vget s.pd (fin (16 * g.val + p))).isSome

/-- Home port k of Green g connects a branch as a load: after its classification, with that branch's limiter not tripped (R12, R495). -/
def State.feeds (s : State) (g : GreenId) (k : Nat) (star : Bool) : Bool :=
  let h := vget s.homes (fin (3 * g.val + k))
  s.powered g k && !(if star then h.starTrip else h.laneTrip)

/-- A home port of a region feeds it: one is enough (R496). -/
def State.fed (s : State) : Region → Bool
  | .lane l => (idxs 2).any fun g => s.feeds g l.val false
  | .green g => (idxs 3).any fun k => s.feeds g k.val true

/-- A region's supply becomes valid, where one of its home ports has connected it (R495, R497). -/
def State.supplyValid (s : State) (r : Region) : State :=
  if !s.fed r then s
  else match r with
  | .lane l => s.onLane l Lane.supplyUp
  | .green g => s.onGreen g fun x => if x.powered then x else { x with powered := true }.afterReset

/-- The home ports that fed a region have lost the power that followed their classification (R495, R496). -/
def State.unfeed (s : State) (r : Region) : State :=
  { s with pd := Vector.ofFn fun k : Fin 32 =>
      let g : GreenId := fin (k.val / 16)
      let p := k.val % 16
      let of : Bool := match r with
        | .lane l => p = l.val && s.feeds g p false
        | .green h => h = g && p < 3 && s.feeds g p true
      if of then none else vget s.pd k }

/-- A region's supply is lost. -/
def State.supplyLost (s : State) (r : Region) : State :=
  let s := s.unfeed r
  match r with
  | .lane l => s.onLane l Lane.supplyDown
  | .green g => s.onGreen g fun x => { x with powered := false }.afterReset

/-- The PD of external port p of Green g has completed detection and classification, with class 9; a home port then carries its
load (R494, R495). -/
def State.classify (s : State) (g : GreenId) (p : Fin 16) : State :=
  { s with pd := vset s.pd (fin (16 * g.val + p.val)) (some 9) }

/-- The crystal or a PLL has not started within 10 ms: its source is reported and the lane stays in LANE_INIT (R500). -/
def Lane.clockTimeout (l : Lane) (k : Fin 6) : Lane :=
  if l.sys.lstate = .init && !l.sys.pwrHold && !l.sys.inReset then l.clockBad (fin k.val) else l

/-! ### Temperatures (R541) -/

/-- Warning and over-temperature thresholds of a die in tenths of a degree, inside R541's bounds. -/
def warnAt (l : LaneId) (d : Nat) : Int := max 1350 (min 1450 (Config.warnLevel l d))
def overAt (l : LaneId) (d : Nat) : Int := max 1500 (min 1600 (Config.overLevel l d))

/-- A temperature source is present: above its threshold, and then until 10 °C below it. -/
def hotNow (was : Bool) (t lim : Int) : Bool := decide (lim < t) || (was && decide (lim - 100 < t))

/-- Sources 113 to 116 after a measurement, in that order. -/
def Lane.hotNext (l : Lane) (logic gate : Int) : BitVec 4 :=
  let was := l.sys.hot
  BitVec.ofNat 4 (b2n (hotNow (bit was 0) logic (warnAt l.idx 0)) + 2 * b2n (hotNow (bit was 1) logic (overAt l.idx 0)) +
    4 * b2n (hotNow (bit was 2) gate (warnAt l.idx 1)) + 8 * b2n (hotNow (bit was 3) gate (overAt l.idx 1)))

/-- The die temperatures of a lane measured, in tenths of a degree. -/
def Lane.temperature (l : Lane) (logic gate : Int) : Lane :=
  if !l.sys.powered then l
  else
    let v := l.hotNext logic gate
    let l := { l with sys := { l.sys with hot := v } }
    if !l.awake then l
    else
      let l := each (List.range 4) (fun k l => if bit v k then l else l.healthy (113 + k)) l
      let up := (List.range 4).filter fun k => bit v k
      if up.isEmpty then l else l.collect (up.map fun k => report (113 + k) 0xFF 0 0 0)

/-! ### The test access port (R526, R527) -/

/-- An instruction loaded into the instruction register: EXTEST takes the pins in WORKSHOP alone, SAMPLE/PRELOAD captures the pins and
loads the output cells. DESIGN CHOICE: both happen with the instruction, since no row carries a shift
(notes/assumptions/81.md). -/
def Lane.tapLoad (l : Lane) (i : TapIr) : Lane :=
  if !l.sys.powered then l
  else
    let t := { l.tap with ir := i, pins := i = .extest && l.sys.mode = .workshop }
    if i = .sample then { l.useFree with tap := { t with scan := l.scanLevels, preload := l.preloadBits } }
    else { l with tap := t }

/-- The instruction that the test access port acts on: an EXTEST without effect acts as BYPASS (R527). -/
def Tap.acts (t : Tap) : TapIr := if t.ir = .extest && !t.pins then .bypass else t.ir

/-- The identification that x_TDO shows under IDCODE: version 0x1, part 0x3960, manufacturer 0x53D, bit 0 set (R526). -/
def Tap.identity (t : Tap) : Option W32 := if t.acts = .idcode then some 0x13960A7B else none

/-! ### Meanings -/

/-- PD_CLASSIFICATION (R495). -/
def execPdClassification (g : GreenId) (p : Fin 16) (s : State) : Host.Outcome State Fault Refusal := .next (s.classify g p)

/-- HOME_PORT_LOSS (R367, R495, R496): source 26 with the port as index; the port has lost the power that followed its
classification. -/
def execHomePortLoss (l : LaneId) (g : GreenId) (s : State) : Host.Outcome State Fault Refusal :=
  .next (({ s with pd := vset s.pd (fin (16 * g.val + l.val)) none }).onLane l fun x => x.reportAll [report 26 0xFF 0 (16 * g.val + l.val) 0])

/-- SUPPLY_VALID (R497, R501, R503, R504). -/
def execSupplyValid (r : Region) (s : State) : Host.Outcome State Fault Refusal := .next (s.supplyValid r)

/-- SUPPLY_LOST (R497, R501). -/
def execSupplyLost (r : Region) (s : State) : Host.Outcome State Fault Refusal := .next (s.supplyLost r)

/-- RAIL_FAULT (R367, R497). -/
def execRailFault (l : LaneId) (s : State) : Host.Outcome State Fault Refusal :=
  .next (s.onLane l fun x => if x.sys.powered then x.reportAll [report 25 0xFF 0 0 0] else x)

/-- CLOCK_START_TIMEOUT (R376, R500). -/
def execClockStartTimeout (l : LaneId) (src : Fin 6) (s : State) : Host.Outcome State Fault Refusal :=
  .next (s.onLane l fun x => x.clockTimeout src)

/-- RST_N_LOW (R501, R502, R510). -/
def execRstNLow (l : LaneId) (s : State) : Host.Outcome State Fault Refusal := .next (s.onLane l Lane.resetLow)

/-- RST_N_RELEASE (R502, R504, R510). -/
def execRstNRelease (l : LaneId) (s : State) : Host.Outcome State Fault Refusal := .next (s.onLane l Lane.resetRelease)

/-- RUN_HIGH (R504, R509, R511). -/
def execRunHigh (l : LaneId) (s : State) : Host.Outcome State Fault Refusal := .next (s.onLane l Lane.runHigh)

/-- RUN_LOW (R504, R506, R507). -/
def execRunLow (l : LaneId) (s : State) : Host.Outcome State Fault Refusal := .next (s.onLane l Lane.runLow)

/-- LANE_START (R73, R80, R159, R286, R376, R387, R396, R505). -/
def execLaneStart (l : LaneId) (o : StartOutcome) (s : State) : Host.Outcome State Fault Refusal :=
  .next (s.onLane l fun x => x.start o (s.seenBy l))

/-- TEMPERATURE_SAMPLE (R367, R541). -/
def execTemperatureSample (l : LaneId) (logic : Int) (gate : Int) (s : State) : Host.Outcome State Fault Refusal :=
  .next (s.onLane l fun x => x.temperature logic gate)

/-- GREEN_TEST_PIN (R523). -/
def execGreenTestPin (g : GreenId) (high : Bool) (s : State) : Host.Outcome State Fault Refusal :=
  .next (s.onGreen g fun x => if x.testPin = high then x else { x with testPin := high }.afterReset)

/-- BYPASS (R526). -/
def execBypass (l : LaneId) (s : State) : Host.Outcome State Fault Refusal := .next (s.onLane l fun x => x.tapLoad .bypass)

/-- SAMPLE/PRELOAD (R526). -/
def execSamplePreload (l : LaneId) (s : State) : Host.Outcome State Fault Refusal :=
  .next (s.onLane l fun x => x.tapLoad .sample)

/-- EXTEST (R65, R526, R527). -/
def execExtest (l : LaneId) (s : State) : Host.Outcome State Fault Refusal := .next (s.onLane l fun x => x.tapLoad .extest)

/-- IDCODE (R526). -/
def execIdcode (l : LaneId) (s : State) : Host.Outcome State Fault Refusal := .next (s.onLane l fun x => x.tapLoad .idcode)

/-- TAP_RESET (R527). -/
def execTapReset (l : LaneId) (s : State) : Host.Outcome State Fault Refusal :=
  .next (s.onLane l fun x => { x with tap := Tap.cold })

/-- GREEN_OVER_TEMPERATURE (R92, R541). -/
def execGreenOverTemperature (g : GreenId) (s : State) : Host.Outcome State Fault Refusal :=
  .next (s.onGreen g fun x => { x with hot := true }.afterReset)

/-- GREEN_COOLED (R541). -/
def execGreenCooled (g : GreenId) (s : State) : Host.Outcome State Fault Refusal :=
  .next (s.onGreen g fun x => if x.hot then { x with hot := false }.afterReset else x)

end Sys2Proof.Machine
end

