-- ==== Sys2Proof/Machine/Info.lean ====
section
/-! DEFINITION. The commands that negotiate or only report (R53 to R56, R60, R70, R72, R413), and the restart of the supervisor
pair with Gamar (R47, R389, R390, R491); the rows HELLO, BYE, PING, VERSIONS_GET, ALMANAC_READ, INFO_GET, SERIAL_GET, NOTICE_READ,
PORT_STATUS and GAMAR_RESTART. -/

namespace Sys2Proof.Machine

/-! ### Negotiation (R53 to R56) -/

/-- The protocol versions that Gamar implements (R53). -/
def gamarVersions : List Nat := [0x0207, 0x0302]

/-- The versions that a HELLO offers. -/
def offered (p : Bytes) : List Nat := (List.range (fieldAt p 0 1)).map fun k => fieldAt p (2 + 2 * k) 2

/-- The version chosen for one of Gamar's: the lower minor where the host offers its major (R55). DESIGN CHOICE: where the host
offers that major several times, its largest minor counts (notes/assumptions/72.md). -/
def chooseFor (os : List Nat) (v : Nat) : Option Nat :=
  let ms := os.filter fun o => o / 256 = v / 256
  if ms.isEmpty then none else some (min v (ms.foldl max 0))

/-- The highest major that both sides offer, with its minor (R55). -/
def choose (os : List Nat) : Option Nat :=
  match chooseFor os 0x0302 with
  | some v => some v
  | none => chooseFor os 0x0207

/-- HELLO's response payload (R55). -/
def Lane.helloBody (l : Lane) (chosen : Nat) : Bytes :=
  leBytes 2 chosen ++ leBytes 2 Config.gamarVersion.toNat ++ leBytes 1 l.idx.val ++ leBytes 1 (modeCode l.sys.mode) ++
    leBytes 1 (lstateCode l.sys.lstate) ++ leBytes 1 gamarVersions.length ++ gamarVersions.flatMap fun v => leBytes 2 v

/-- HELLO (R55). -/
def Lane.hello (l : Lane) (m : MbId) (p : Bytes) : Lane :=
  let n := fieldAt p 0 1
  if n < 1 || 8 < n || p.length ≠ 2 + 2 * n || fieldAt p 1 1 ≠ 0 then l.respond m stsRange []
  else
    let l := l.bye m
    match choose (offered p) with
    | none => l.respond m stsVersion (l.helloBody 0)
    | some v => (l.onMb m fun b => { b with nego := some (BitVec.ofNat 16 v) }).respond m stsOk (l.helloBody v)

/-! ### Reports -/

/-- VERSIONS_GET: type, lowest and highest version of each interface (R56, R70). -/
def versionsBody : Bytes :=
  (List.range 6).flatMap fun c => leBytes 1 c ++ leBytes 2 (ifaceMin c) ++ leBytes 2 (ifaceMax c)

/-- ALMANAC_READ (R72). -/
def Lane.almanacRead (l : Lane) (p : Bytes) : Nat × Bytes :=
  let off := fieldAt p 0 4
  let n := fieldAt p 4 2
  let b := l.almBytes
  if n < 1 || 1008 < n || b.length < off + n then (stsRange, []) else (stsOk, slice b off n)

/-- INFO_GET (R56). -/
def Lane.infoGet (l : Lane) : Bytes :=
  leBytes 1 l.idx.val ++ leBytes 1 (modeCode l.sys.mode) ++ leBytes 1 (lstateCode l.sys.lstate) ++ [0] ++
    leBytes 2 Config.gamarVersion.toNat ++ [0, 0] ++ leBytes 4 l.fl.powerCycles.toNat ++ leBytes 8 (l.tm.loc.toNat / 1000)

/-- The unique identifier (R56). -/
def Lane.serial (l : Lane) : Bytes := (List.range 16).map fun i => Config.uniqueId l.idx i

/-- Kind and argument of a notice. -/
def noticeKey : Notice → Nat × Nat
  | .fault s => (0, s)
  | .laneState v => (1, v)
  | .deviceMode v => (2, v)
  | .takeover a => (3, a)
  | .stream c => (4, c)

/-- The 16 bytes of a notice, which the spec gives no layout; the first one of a response also reports a drop (R60). -/
def noticeBytes (dropped : Bool) (n : Notice) : Bytes :=
  (List.range 16).map fun i => Config.noticeByte ((noticeKey n).1 + 8 * b2n dropped) (noticeKey n).2 i

/-- NOTICE_READ's payload (R60). -/
def Mailbox.noticeBody (b : Mailbox) : Bytes :=
  leBytes 1 b.notices.length ++ [0, 0, 0] ++
    match b.notices with
    | [] => []
    | n :: ns => noticeBytes b.dropped n ++ ns.flatMap (noticeBytes false)

/-- NOTICE_READ: the queued notices returned and removed (R60). -/
def Lane.noticeRead (l : Lane) (m : MbId) : Lane :=
  let body := (l.mb m).noticeBody
  (l.onMb m fun b => { b with notices := [], dropped := false }).respond m stsOk body

/-- No STATUS frame of a Green within 16 cycles, or within 4 ms where the lane has no cluster cycle (R413). -/
def Lane.statusOld (l : Lane) (c : Channel) : Bool :=
  match c.statusAge with
  | none => true
  | some k => if l.net.integ = .listen then decide (c.statusAt + 4000000 < l.tm.loc.toNat) else decide (16 < k)

/-- PORT_STATUS (R413, R414). -/
def Lane.portStatus (l : Lane) (p : Bytes) : Nat × Bytes :=
  let k := fieldAt p 0 1
  if 32 ≤ k then (stsRange, [])
  else
    let c := vget l.net.chan (fin (k / 16))
    let st := if l.statusOld c then PortState.unknown else vget c.ports (fin (k % 16))
    (stsOk, leBytes 1 (portCode st) ++ [0, 0, 0] ++ (vget c.counters (fin (k % 16))).flatMap fun v => leBytes 4 v.toNat)

/-! ### The restart of the pair -/

/-- The supervisor pair is reset and Gamar restarts; streams at work halt. Where a self-test slice has taken the pair away, the
slice's end was the restart and Gamar only resumes (R47, R64, R389, R390, R491). -/
def Lane.pairReset (l : Lane) : Lane :=
  if !l.portOn || l.portBlocked then l
  else if !l.hp.ready && l.sys.lstate ≠ .init && !l.startupRun then { l with hp := { l.hp with ready := true } }
  else (l.gamarRestart).streamsAbort false

/-! ### Meanings -/

/-- GAMAR_RESTART (R47, R390, R491). -/
def execGamarRestart (l : LaneId) (s : State) : Host.Outcome State Fault Refusal := .next (s.onLane l Lane.pairReset)

/-- HELLO (R55). -/
def execHello (l : LaneId) (m : MbId) (s : State) : Host.Outcome State Fault Refusal :=
  s.serve l m 0x001 fun x p => x.hello m p

/-- BYE (R48, R56, R81): answered under the negotiation that it then ends. -/
def execBye (l : LaneId) (m : MbId) (s : State) : Host.Outcome State Fault Refusal :=
  s.serve l m 0x002 fun x _ => (x.respond m stsOk []).bye m

/-- PING (R56). -/
def execPing (l : LaneId) (m : MbId) (s : State) : Host.Outcome State Fault Refusal :=
  s.serve l m 0x003 fun x p => x.respond m stsOk p

/-- VERSIONS_GET (R55, R70). -/
def execVersionsGet (l : LaneId) (m : MbId) (s : State) : Host.Outcome State Fault Refusal :=
  s.serve l m 0x004 fun x _ => x.respond m stsOk versionsBody

/-- ALMANAC_READ (R72). -/
def execAlmanacRead (l : LaneId) (m : MbId) (s : State) : Host.Outcome State Fault Refusal :=
  s.serve l m 0x101 fun x p => x.answer m (x.almanacRead p)

/-- INFO_GET (R56). -/
def execInfoGet (l : LaneId) (m : MbId) (s : State) : Host.Outcome State Fault Refusal :=
  s.serve l m 0x102 fun x _ => x.respond m stsOk x.infoGet

/-- SERIAL_GET (R56). -/
def execSerialGet (l : LaneId) (m : MbId) (s : State) : Host.Outcome State Fault Refusal :=
  s.serve l m 0x103 fun x _ => x.respond m stsOk x.serial

/-- NOTICE_READ (R60). -/
def execNoticeRead (l : LaneId) (m : MbId) (s : State) : Host.Outcome State Fault Refusal :=
  s.serve l m 0x504 fun x _ => x.noticeRead m

/-- PORT_STATUS (R413, R414). -/
def execPortStatus (l : LaneId) (m : MbId) (s : State) : Host.Outcome State Fault Refusal :=
  s.serve l m 0x601 fun x p => x.answer m (x.portStatus p)

end Sys2Proof.Machine
end

