-- ==== Sys2Proof/Machine/Commit.lean ====
section
/-! DEFINITION. COMMIT_DONE (R86): the entries of the Parish Book, the records and images in flash, and what each committed item
does to its block at that instant. -/

namespace Sys2Proof.Machine

/-! ### Flash (R75, R76, R86 to R88) -/

/-- The staged items of a commit, one for each type and instance, in the order of their staging. -/
def Session.keys (s : Session) : List (Nat × Nat) := (s.items.map Staged.key).dedup

/-- The image CRC of a slot among some images, 0 without one (R144). -/
def imageCrcOf (xs : List (Nat × Bytes)) (k : Nat) : Nat :=
  match xs.find? fun x => x.1 = k with
  | some x => fieldAt x.2 0x0C 4
  | none => 0

/-- What the entry of an item records (R87, R88, R144, R145). -/
def Lane.commitItem (l : Lane) (k : Nat × Nat) (first : Nat) (last : Bool) : BookItem :=
  let base : BookItem := { op := 1, rtype := k.1, inst := k.2, oldCrc := 0, newCrc := 0, last := last, first := first,
                           foldFirst := 0, foldLast := 0 }
  if k.1 = 11 then
    { base with op := 2, oldCrc := imageCrcOf l.fl.images k.2, newCrc := imageCrcOf (l.ses.images.map fun x => (x.1, x.2.2)) k.2 }
  else
    { base with oldCrc := oldRecCrc l.fl.recs k.1 k.2,
                newCrc := match l.ses.record? k.1 k.2 with | some r => r.crc | none => 0 }

/-- The entries of a commit appended, LAST on the final one (R86, R87). -/
def Lane.commitBook (l : Lane) (m : MbId) (first : Nat) : List (Nat × Nat) → Lane
  | [] => l
  | k :: ks => (l.bookAppend m (l.commitItem k first ks.isEmpty)).commitBook m first ks

/-- The staged records with the revisions that the entries give them (R75). -/
def Session.sealedRecs (s : Session) (first : Nat) : List Rec :=
  (s.keys.zipIdx).filterMap fun x =>
    (s.record? x.1.1 x.1.2).map fun (r : Rec) => { r with parts := r.parts.map fun p => sealPart (first + x.2) p }

/-- Book, records and images in flash; a committed item's failed check is over (R80). -/
def Lane.commitFlash (l : Lane) (m : MbId) : Lane :=
  let first := l.fl.nextSeq.toNat
  let recs := (l.ses.sealedRecs first).foldl putRec l.fl.recs
  let images := l.mergedImages
  let ks := l.ses.keys
  let l := l.commitBook m first ks
  { l with
    fl := { l.fl with recs := recs, images := images },
    sys := { l.sys with bad := l.sys.bad.filter fun k => !ks.contains k } }

/-! ### The blocks -/

/-- The lane leaves the cluster (R422, R438). -/
def Lane.leaveCluster (l : Lane) : Lane :=
  let l := l.onNet fun n => { n with integ := .listen, master := false, inState := 0, goodRun := 0, limitRun := 0 }
  let l := { l with tm := { l.tm with slew := 0 } }
  if l.tm.sync = .synced then l.setSync .holdover else l

/-- The download of the cascade record starts where there is one (R471). -/
def Lane.startCascade (l : Lane) (g : GreenId) : Lane :=
  let d : Option Nat := (findRec l.inForce 13 0).map fun _ => 64
  l.onChan g fun c => { c with cascade := d }

/-- A schedule download starts, the cascade record after it (R421, R471). -/
def Lane.startDownload (l : Lane) (g : GreenId) : Lane := (l.onChan g fun c => { c with download := some 64 }).startCascade g

/-- The record CRC of a record in force, none without one (R76). -/
def Lane.crcInForce (l : Lane) (rtype inst : Nat) : Option Nat := (findRec l.inForce rtype inst).map Rec.crc

/-- A schedule: where the commit changes it, the download and a new integration (R421, R422). -/
def Lane.applySchedule (l old : Lane) (g : GreenId) : Lane :=
  if l.crcInForce 9 g.val = old.crcInForce 9 g.val then l else (l.startDownload g).leaveCluster

/-- A cascade record: where the commit changes it, its download to both Greens (R421, R471). -/
def Lane.applyCascade (l old : Lane) : Lane :=
  if l.crcInForce 13 0 = old.crcInForce 13 0 then l else (l.startCascade 0).startCascade 1

/-- A lane record: FC_RAISE, and where the network section has changed, the download and a new integration (R368, R421, R422). A
record committed while the old one is not in use waits for the next lane reset (R80). -/
def Lane.applyLaneRec (l : Lane) (oldNet : Bytes) : Lane :=
  if l.sys.laneRecBad then l
  else
    let l := l.loadRaise
    if slice l.laneRec 0x10 0x20 = oldNet then l else ((l.startDownload 0).startDownload 1).leaveCluster

/-- An axis record: carrier, feedback, supervisor, role, descriptors (R238, R249, R319, R337, R342, R356). -/
def Lane.applyAxisRec (l : Lane) (nn : AxisId) : Lane :=
  let l := ((l.carrierStart nn).fbRestart nn false).supHome nn
  let r := l.axisRec nn
  let l := l.onAxis nn fun a => { a with
    sense := { a.sense with calFail := !calibrationOk r a.sense.oCal },
    pwm := { a.pwm with carry := Vector.replicate 3 0 },
    }
  let l := if l.sys.wasActive then l.setRole nn (roleOf (cfgRole r)) else l
  if isMember r then l.sendPeers r 2 (l.descriptorOf nn) else l

/-- A delay list record: the list empties (R123). -/
def Lane.applyListRec (l : Lane) (d : Fin 16) : Lane := l.onDl d fun x => { x with entries := [] }

/-- A compare record: the unit is disarmed (R130). -/
def Lane.applyCmpRec (l : Lane) (u : Fin 24) : Lane := { l with cus := vset l.cus u CompareUnit.cold }

/-- A stream descriptor: the channel that the failed check excluded is stopped; stale translations go (R80, R482). -/
def Lane.applyStreamRec (l : Lane) (c : Fin 16) : Lane :=
  let l := l.onStream c fun h => if h.st = .excluded then { h with st := .stopped } else h
  { l with str := { l.str with tlb := l.str.tlb.filter fun e => e.1 ≠ c.val } }

/-- The channel's destination is the coefficient area of slot k. -/
def Lane.fillsSlot (l : Lane) (c : Fin 16) (k : Fin 64) : Bool :=
  match streamPlace (dstVa (l.streamRec c)) with
  | .coef s _ => s = k
  | _ => false

/-- An image or its removal: the slot as the images now in flash give it; stale translations go (R145, R146, R482). It applies before a
beat that has written the lower of two words: that word is written again (R491). -/
def Lane.applyImage (l : Lane) (k : Fin 64) : Lane :=
  let l := l.onSlot k fun _ => slotOfFlash l.fl.images k.val
  let chans : Vector StreamCh 16 := Vector.ofFn fun c => { l.chan c with half := (l.chan c).half && !l.fillsSlot c k }
  { l with str := { l.str with tlb := [], chans := chans } }

/-- What the commit of one item does to its block, given the lane before the commit. -/
def Lane.applyItem (l old : Lane) (k : Nat × Nat) : Lane :=
  match k.1 with
  | 1 => l.applyLaneRec (slice old.laneRec 0x10 0x20)
  | 2 => l.applyAxisRec (fin (k.2 % 12))
  | 3 => l.auxCarrierStart (fin k.2)
  | 5 => l.emulRestart (fin k.2)
  | 6 => l.applyCmpRec (fin k.2)
  | 7 => l.applyListRec (fin k.2)
  | 9 => l.applySchedule old (fin k.2)
  | 10 => l.applyStreamRec (fin k.2)
  | 11 => l.applyImage (fin k.2)
  | 13 => l.applyCascade old
  | _ => l

/-- The entry carrying LAST is in flash: every item takes effect at once, a trip source that a new mask selects while it is
active is an onset, and COMMIT returns its sequence (R81, R86, R242); not in the slice that holds the flash controller (R391). -/
def Lane.commitFinish (l : Lane) : Lane :=
  match l.ses.job with
  | none => l
  | some m =>
    if !l.gamarRuns || l.inSlice 19 then l
    else
      let ks := l.ses.keys
      let l := l.withTrips fun _ => each ks (fun k x => x.applyItem l k) (l.commitFlash m)
      let l := { l with ses := { l.ses with st := .opened, items := [], job := none } }
      l.respond m stsOk (leBytes 4 (l.fl.nextSeq - 1).toNat)

/-! ### Meanings -/

/-- COMMIT_DONE (R81, R86, R87, R123, R130, R146, R249, R319, R337, R342, R356, R421, R422, R482). -/
def execCommitDone (l : LaneId) (s : State) : Host.Outcome State Fault Refusal := .next (s.onLane l Lane.commitFinish)

end Sys2Proof.Machine
end

