-- ==== Sys2Proof/Machine/Tick.lean ====
section
/-! DEFINITION. One PWM cycle of a lane: time, accumulators, carriers, conversion positions, delay lists, compare units and
encoder emulation, in the order of R128 and R133; the row TIMEKEEPER_TICK. -/

namespace Sys2Proof.Machine

/-! ### Axes -/

/-- The accumulator of an axis takes the position its channel has decoded since the cycle before (R307), or advances by one
cycle of its source's latest speed (R116, R311, R313). -/
def Lane.advance (l : Lane) (nn : AxisId) : Lane :=
  let now := l.tm.loc.toNat
  let r := l.axisRec nn
  let fed := l.angleSrc nn = 1
  let pending := (l.axis nn).fb.apply
  let l := l.onFb nn fun f => { f with apply := none }
  match if fed && (l.axis nn).fb.valid r then pending else none with
  | some (sample, jump) => l.fbPlace nn sample jump
  | none => l.onAxis nn fun a =>
    let acc := if fed && a.acc.valid then { a.acc with speed := a.fb.speedAt r now } else a.acc
    { a with acc := if fed && a.fb.spent now then acc else acc.tick }

/-- The carrier of an axis advances by one cycle: edges and POSITION sets; it stands still in a debug halt (R234, R248,
R282). In the cycle in which a period ends, the start of the next one gives the edges. -/
def Lane.carrierTick (l : Lane) (nn : AxisId) : Lane :=
  if !l.carrierOn nn then l
  else
    let l := l.onAxis nn fun a => { a with pwm := { a.pwm with
      since := a.pwm.since + 1, count := a.pwm.count.map fun n => n + 1 } }
    let ends := !carrierVar (carrier (l.axisRec nn)) && !(l.axis nn).pwm.firstWait && l.periodDue nn
    (if ends then l else l.pwmDrive nn).takePositions nn

/-- What one PWM cycle of an axis does (R116, R332). -/
def Lane.axisTick (l : Lane) (nn : AxisId) : Lane := ((l.advance nn).supEval nn).carrierTick nn

/-! ### Compare units (R131 to R133) -/

/-- Unit u hits: its event with the hit count, then its action, which has no effect on an axis held in its safe state. -/
def Lane.cuFire (l : Lane) (u : Fin 24) (late : Bool) : Lane :=
  let nn := cuAxis u
  let n := ((l.cu u).hits + 1) % 65536
  let act := cmpAction (l.cmpRec u)
  let l := (l.cuHit u).eventL (48 + u.val) n late
  if l.patternHeld nn then l
  else if act = 1 then
    let k : Fin 2 := fin (u.val % 2)
    (if setTrigger (l.axisRec nn) k = 4 then l.takeSet nn k else l)
  else if act = 2 then l.commutEvent nn n
  else l

/-- The hit check of unit u in the PWM cycle that ends, after its target writes; a target written in it hits in the next one at the
earliest (R132, R133). -/
def Lane.cuCycle (l : Lane) (u : Fin 24) : Lane :=
  if (l.cu u).fresh then l.onCu u fun c => { c with fresh := false }
  else
    let l := l.cuWait u
    match l.cuHits u with
    | none => l
    | some late => l.cuFire u late

/-! ### The cycle -/

/-- The releases of the PWM cycle that ends (R128), until the timekeeper stops (R137, R391). -/
def Lane.releaseCycle (l : Lane) : Lane :=
  if l.keeperStopped || l.inSlice 9 then l else each (idxs 16) (fun d l => l.dlCycle d) l

/-- The hits of the PWM cycle that ends (R131 to R133), until the timekeeper stops (R137, R391). -/
def Lane.hitCycle (l : Lane) : Lane :=
  if l.keeperStopped || l.inSlice 9 then l else each (idxs 24) (fun u l => l.cuCycle u) l

/-- One PWM cycle (R111, R112, R116, R121): the one that ends announces the supervisors' transitions (R333), releases from the delay
lists after its inserts (R124, R128), checks the compare units after their target writes (R133) and samples the feedback inputs
(R295); then the next one begins. Without the PWM clock none passes (R26, R500). -/
def Lane.tick (l : Lane) : Lane :=
  if !l.awake || !l.clockOn 3 then l
  else
    let l := each (idxs 12) (fun nn l => l.supSay nn) l
    let l := (l.releaseCycle).hitCycle
    let l := each (idxs 12) (fun nn l => l.fbCycle nn) l
    let l := (if l.inSlice 9 then l else { l with tm := l.tm.tick }).arriveTick
    let l := each (idxs 12) (fun nn l => l.axisTick nn) l
    let l := each (idxs 8) (fun x l => l.auxTick x) l
    let l := each (idxs 12) (fun nn l => l.takeMask nn) l
    each (idxs 2) (fun e l => l.emulTick e) l

/-- TIMEKEEPER_TICK (R121). -/
def execTimekeeperTick (l : LaneId) (s : State) : Host.Outcome State Fault Refusal := .next (s.onLane l Lane.tick)

end Sys2Proof.Machine
end

