-- ==== Sys2Proof/Machine/Dispatch.lean ====
section
/-! DEFINITION. One arm for each command, in the order of spec/opcode_table.json. -/

namespace Sys2Proof.Machine

def exec (i : Instr) (s : State) : Host.Outcome State Fault Refusal :=
  match i with
  | .hpRead l addr len => Sys2Proof.Machine.execHpRead l addr len s
  | .hpWrite l addr data => Sys2Proof.Machine.execHpWrite l addr data s
  | .badInstr l code => Sys2Proof.Machine.execBadInstr l code s
  | .hpRegisterWrite l off val => Sys2Proof.Machine.execHpRegisterWrite l off val s
  | .ring l mask => Sys2Proof.Machine.execRing l mask s
  | .ack l mask => Sys2Proof.Machine.execAck l mask s
  | .hpIrqStatusClear l val => Sys2Proof.Machine.execHpIrqStatusClear l val s
  | .hpErrClear l val => Sys2Proof.Machine.execHpErrClear l val s
  | .mbAccept l => Sys2Proof.Machine.execMbAccept l s
  | .mbDone l m => Sys2Proof.Machine.execMbDone l m s
  | .gamarRestart l => Sys2Proof.Machine.execGamarRestart l s
  | .sessionTimeout l => Sys2Proof.Machine.execSessionTimeout l s
  | .passwordLockoutEnd l => Sys2Proof.Machine.execPasswordLockoutEnd l s
  | .hello l m => Sys2Proof.Machine.execHello l m s
  | .bye l m => Sys2Proof.Machine.execBye l m s
  | .ping l m => Sys2Proof.Machine.execPing l m s
  | .versionsGet l m => Sys2Proof.Machine.execVersionsGet l m s
  | .almanacRead l m => Sys2Proof.Machine.execAlmanacRead l m s
  | .infoGet l m => Sys2Proof.Machine.execInfoGet l m s
  | .serialGet l m => Sys2Proof.Machine.execSerialGet l m s
  | .sessionOpen l m => Sys2Proof.Machine.execSessionOpen l m s
  | .recordRead l m => Sys2Proof.Machine.execRecordRead l m s
  | .recordWrite l m => Sys2Proof.Machine.execRecordWrite l m s
  | .commit l m => Sys2Proof.Machine.execCommit l m s
  | .commitDone l => Sys2Proof.Machine.execCommitDone l s
  | .discard l m => Sys2Proof.Machine.execDiscard l m s
  | .sessionClose l m => Sys2Proof.Machine.execSessionClose l m s
  | .configSeal l m => Sys2Proof.Machine.execConfigSeal l m s
  | .passwordChange l m => Sys2Proof.Machine.execPasswordChange l m s
  | .workshopEnter l m => Sys2Proof.Machine.execWorkshopEnter l m s
  | .workshopLeave l m => Sys2Proof.Machine.execWorkshopLeave l m s
  | .graphLoad l m => Sys2Proof.Machine.execGraphLoad l m s
  | .graphStart l m => Sys2Proof.Machine.execGraphStart l m s
  | .graphStop l m => Sys2Proof.Machine.execGraphStop l m s
  | .graphUnload l m => Sys2Proof.Machine.execGraphUnload l m s
  | .graphStatus l m => Sys2Proof.Machine.execGraphStatus l m s
  | .coefWrite l m => Sys2Proof.Machine.execCoefWrite l m s
  | .coefRead l m during => Sys2Proof.Machine.execCoefRead l m during s
  | .axisStatus l m => Sys2Proof.Machine.execAxisStatus l m s
  | .axisEnable l m => Sys2Proof.Machine.execAxisEnable l m s
  | .axisDisable l m => Sys2Proof.Machine.execAxisDisable l m s
  | .axisHandover l m => Sys2Proof.Machine.execAxisHandover l m s
  | .granaryRead l m => Sys2Proof.Machine.execGranaryRead l m s
  | .faultRead l m => Sys2Proof.Machine.execFaultRead l m s
  | .faultClear l m => Sys2Proof.Machine.execFaultClear l m s
  | .healthRead l m => Sys2Proof.Machine.execHealthRead l m s
  | .noticeRead l m => Sys2Proof.Machine.execNoticeRead l m s
  | .portStatus l m => Sys2Proof.Machine.execPortStatus l m s
  | .connStatus l m => Sys2Proof.Machine.execConnStatus l m s
  | .connOpen l m => Sys2Proof.Machine.execConnOpen l m s
  | .connClose l m => Sys2Proof.Machine.execConnClose l m s
  | .streamStart l m => Sys2Proof.Machine.execStreamStart l m s
  | .streamStop l m => Sys2Proof.Machine.execStreamStop l m s
  | .streamStatus l m => Sys2Proof.Machine.execStreamStatus l m s
  | .streamResume l m => Sys2Proof.Machine.execStreamResume l m s
  | .selftestStatus l m => Sys2Proof.Machine.execSelftestStatus l m s
  | .selftestRun l m => Sys2Proof.Machine.execSelftestRun l m s
  | .selftestAbort l m => Sys2Proof.Machine.execSelftestAbort l m s
  | .timeGet l m => Sys2Proof.Machine.execTimeGet l m s
  | .angleGet l m => Sys2Proof.Machine.execAngleGet l m s
  | .logRead l m => Sys2Proof.Machine.execLogRead l m s
  | .logStatus l m => Sys2Proof.Machine.execLogStatus l m s
  | .logArchive l m => Sys2Proof.Machine.execLogArchive l m s
  | .handoverLineChange l k alive => Sys2Proof.Machine.execHandoverLineChange l k alive s
  | .handoverLineFailed l k high => Sys2Proof.Machine.execHandoverLineFailed l k high s
  | .linkUp l k => Sys2Proof.Machine.execLinkUp l k s
  | .linkFrameReceive l k f => Sys2Proof.Machine.execLinkFrameReceive l k f s
  | .linkFrameSend l k => Sys2Proof.Machine.execLinkFrameSend l k s
  | .linkIdleFrame l k => Sys2Proof.Machine.execLinkIdleFrame l k s
  | .linkDown l k => Sys2Proof.Machine.execLinkDown l k s
  | .branchOverload g k star => Sys2Proof.Machine.execBranchOverload g k star s
  | .heartbeatToggle l => Sys2Proof.Machine.execHeartbeatToggle l s
  | .heartbeatLoss l => Sys2Proof.Machine.execHeartbeatLoss l s
  | .clockFault c => Sys2Proof.Machine.execClockFault c s
  | .greenLost l g => Sys2Proof.Machine.execGreenLost l g s
  | .holdEnd l => Sys2Proof.Machine.execHoldEnd l s
  | .rampZeroEnd l nn => Sys2Proof.Machine.execRampZeroEnd l nn s
  | .rejoinDelayExpire l => Sys2Proof.Machine.execRejoinDelayExpire l s
  | .runtimeTestComplete l r => Sys2Proof.Machine.execRuntimeTestComplete l r s
  | .rejoinTimeout l => Sys2Proof.Machine.execRejoinTimeout l s
  | .timekeeperTick l => Sys2Proof.Machine.execTimekeeperTick l s
  | .resortComplete l d => Sys2Proof.Machine.execResortComplete l d s
  | .dlRequestApply l d => Sys2Proof.Machine.execDlRequestApply l d s
  | .cmpRequestApply l u => Sys2Proof.Machine.execCmpRequestApply l u s
  | .triggerEvent l => Sys2Proof.Machine.execTriggerEvent l s
  | .dispatchCycle l => Sys2Proof.Machine.execDispatchCycle l s
  | .nodeComplete l x => Sys2Proof.Machine.execNodeComplete l x s
  | .mov l x => Sys2Proof.Machine.execMov l x s
  | .add l x => Sys2Proof.Machine.execAdd l x s
  | .sub l x => Sys2Proof.Machine.execSub l x s
  | .mul l x => Sys2Proof.Machine.execMul l x s
  | .mac l x => Sys2Proof.Machine.execMac l x s
  | .neg l x => Sys2Proof.Machine.execNeg l x s
  | .abs l x => Sys2Proof.Machine.execAbs l x s
  | .shift l x => Sys2Proof.Machine.execShift l x s
  | .div l x => Sys2Proof.Machine.execDiv l x s
  | .recip l x => Sys2Proof.Machine.execRecip l x s
  | .sqrt l x => Sys2Proof.Machine.execSqrt l x s
  | .dot l x => Sys2Proof.Machine.execDot l x s
  | .sum l x => Sys2Proof.Machine.execSum l x s
  | .pack l x => Sys2Proof.Machine.execPack l x s
  | .select l x => Sys2Proof.Machine.execSelect l x s
  | .clarke l x => Sys2Proof.Machine.execClarke l x s
  | .park l x => Sys2Proof.Machine.execPark l x s
  | .ipark l x => Sys2Proof.Machine.execIpark l x s
  | .svm l x => Sys2Proof.Machine.execSvm l x s
  | .pi l x => Sys2Proof.Machine.execPi l x s
  | .pid l x => Sys2Proof.Machine.execPid l x s
  | .limit l x => Sys2Proof.Machine.execLimit l x s
  | .rate l x => Sys2Proof.Machine.execRate l x s
  | .fo l x => Sys2Proof.Machine.execFo l x s
  | .biquad l x => Sys2Proof.Machine.execBiquad l x s
  | .notch l x => Sys2Proof.Machine.execNotch l x s
  | .lut l x => Sys2Proof.Machine.execLut l x s
  | .min l x => Sys2Proof.Machine.execMin l x s
  | .max l x => Sys2Proof.Machine.execMax l x s
  | .deadzone l x => Sys2Proof.Machine.execDeadzone l x s
  | .sincos l x => Sys2Proof.Machine.execSincos l x s
  | .atan2 l x => Sys2Proof.Machine.execAtan2 l x s
  | .mag l x => Sys2Proof.Machine.execMag l x s
  | .pll l x => Sys2Proof.Machine.execPll l x s
  | .bemf l x => Sys2Proof.Machine.execBemf l x s
  | .hfi l x => Sys2Proof.Machine.execHfi l x s
  | .satp l x => Sys2Proof.Machine.execSatp l x s
  | .rdAdc l x => Sys2Proof.Machine.execRdAdc l x s
  | .rdPos l x => Sys2Proof.Machine.execRdPos l x s
  | .rdPdu l x => Sys2Proof.Machine.execRdPdu l x s
  | .rdTrig l x => Sys2Proof.Machine.execRdTrig l x s
  | .rdFlags l x => Sys2Proof.Machine.execRdFlags l x s
  | .wrDuty l x => Sys2Proof.Machine.execWrDuty l x s
  | .wrMask l x => Sys2Proof.Machine.execWrMask l x s
  | .commut l x => Sys2Proof.Machine.execCommut l x s
  | .wrAngle l x => Sys2Proof.Machine.execWrAngle l x s
  | .wrPdu l x => Sys2Proof.Machine.execWrPdu l x s
  | .emit l x => Sys2Proof.Machine.execEmit l x s
  | .ckpt l x => Sys2Proof.Machine.execCkpt l x s
  | .coord l x => Sys2Proof.Machine.execCoord l x s
  | .flagclr l x => Sys2Proof.Machine.execFlagclr l x s
  | .dlInsert l x => Sys2Proof.Machine.execDlInsert l x s
  | .dlCancel l x => Sys2Proof.Machine.execDlCancel l x s
  | .cmpArm l x => Sys2Proof.Machine.execCmpArm l x s
  | .cmpDisarm l x => Sys2Proof.Machine.execCmpDisarm l x s
  | .ckptPost l k => Sys2Proof.Machine.execCkptPost l k s
  | .emitRaise l => Sys2Proof.Machine.execEmitRaise l s
  | .periodStart l c => Sys2Proof.Machine.execPeriodStart l c s
  | .periodMid l nn => Sys2Proof.Machine.execPeriodMid l nn s
  | .cotFixedEnd l c => Sys2Proof.Machine.execCotFixedEnd l c s
  | .cotLimitExpire l c => Sys2Proof.Machine.execCotLimitExpire l c s
  | .thresholdCrossing l c => Sys2Proof.Machine.execThresholdCrossing l c s
  | .deadTimeEnd l nn sw => Sys2Proof.Machine.execDeadTimeEnd l nn sw s
  | .delayLineCalibration l good => Sys2Proof.Machine.execDelayLineCalibration l good s
  | .shootThrough l nn p => Sys2Proof.Machine.execShootThrough l nn p s
  | .tripInputChange l k active => Sys2Proof.Machine.execTripInputChange l k active s
  | .auxPullEnd l x => Sys2Proof.Machine.execAuxPullEnd l x s
  | .debugHalt l => Sys2Proof.Machine.execDebugHalt l s
  | .debugResume l => Sys2Proof.Machine.execDebugResume l s
  | .gateCommand l t on => Sys2Proof.Machine.execGateCommand l t on s
  | .readbackMismatch l nn sw high => Sys2Proof.Machine.execReadbackMismatch l nn sw high s
  | .blankingEnd l nn sw => Sys2Proof.Machine.execBlankingEnd l nn sw s
  | .shortDetected l nn sw cell => Sys2Proof.Machine.execShortDetected l nn sw cell s
  | .senseCellFastTrip l nn sw => Sys2Proof.Machine.execSenseCellFastTrip l nn sw s
  | .tltoPlateauEnd l nn sw => Sys2Proof.Machine.execTltoPlateauEnd l nn sw s
  | .softTurnOffEnd l nn sw => Sys2Proof.Machine.execSoftTurnOffEnd l nn sw s
  | .vgdUvlo l g => Sys2Proof.Machine.execVgdUvlo l g s
  | .vgdValid l g => Sys2Proof.Machine.execVgdValid l g s
  | .floatUvlo l nn p low => Sys2Proof.Machine.execFloatUvlo l nn p low s
  | .gdenLow l => Sys2Proof.Machine.execGdenLow l s
  | .gdenRise l longLow => Sys2Proof.Machine.execGdenRise l longLow s
  | .adcConversionComplete l a raw => Sys2Proof.Machine.execAdcConversionComplete l a raw s
  | .backgroundSlotForce l a => Sys2Proof.Machine.execBackgroundSlotForce l a s
  | .overcurrentComparator l nn p active => Sys2Proof.Machine.execOvercurrentComparator l nn p active s
  | .busOvervoltage l active => Sys2Proof.Machine.execBusOvervoltage l active s
  | .encoderTransition l nn a b z => Sys2Proof.Machine.execEncoderTransition l nn a b z s
  | .hallChange l nn h => Sys2Proof.Machine.execHallChange l nn h s
  | .ssiBurstStart l nn => Sys2Proof.Machine.execSsiBurstStart l nn s
  | .ssiWordReceive l nn w => Sys2Proof.Machine.execSsiWordReceive l nn w s
  | .sentFrameReceive l nn w => Sys2Proof.Machine.execSentFrameReceive l nn w s
  | .feedbackTimeout l nn => Sys2Proof.Machine.execFeedbackTimeout l nn s
  | .sensorSupplyFault l nn => Sys2Proof.Machine.execSensorSupplyFault l nn s
  | .sensorSupplySettle l nn => Sys2Proof.Machine.execSensorSupplySettle l nn s
  | .speedStop l nn => Sys2Proof.Machine.execSpeedStop l nn s
  | .emulationStep l e => Sys2Proof.Machine.execEmulationStep l e s
  | .lockWriteTimeout l nn => Sys2Proof.Machine.execLockWriteTimeout l nn s
  | .hfiAcqTimeout l nn => Sys2Proof.Machine.execHfiAcqTimeout l nn s
  | .polarityEnd l nn => Sys2Proof.Machine.execPolarityEnd l nn s
  | .catchWindowEnd l nn => Sys2Proof.Machine.execCatchWindowEnd l nn s
  | .coastEnd l nn => Sys2Proof.Machine.execCoastEnd l nn s
  | .catchCountClear l nn => Sys2Proof.Machine.execCatchCountClear l nn s
  | .announceRepeat l nn => Sys2Proof.Machine.execAnnounceRepeat l nn s
  | .granaryCommitDone l nn => Sys2Proof.Machine.execGranaryCommitDone l nn s
  | .takeSend l nn => Sys2Proof.Machine.execTakeSend l nn s
  | .takeWaitTimeout l nn => Sys2Proof.Machine.execTakeWaitTimeout l nn s
  | .standbyTestRotation l nn r => Sys2Proof.Machine.execStandbyTestRotation l nn r s
  | .faultReport l rs => Sys2Proof.Machine.execFaultReport l rs s
  | .faultLineInvalid l src code => Sys2Proof.Machine.execFaultLineInvalid l src code s
  | .complementMismatch l off => Sys2Proof.Machine.execComplementMismatch l off s
  | .signatureCompare l cycles main dup => Sys2Proof.Machine.execSignatureCompare l cycles main dup s
  | .delayFault l => Sys2Proof.Machine.execDelayFault l s
  | .commitBufferFull b => Sys2Proof.Machine.execCommitBufferFull b s
  | .selftestSliceStart l => Sys2Proof.Machine.execSelftestSliceStart l s
  | .selftestSliceEnd l sig => Sys2Proof.Machine.execSelftestSliceEnd l sig s
  | .sliceTimeout l => Sys2Proof.Machine.execSliceTimeout l s
  | .sealWrite l => Sys2Proof.Machine.execSealWrite l s
  | .greenFrameIngress g p f t => Sys2Proof.Machine.execGreenFrameIngress g p f t s
  | .slotEndTruncate g p => Sys2Proof.Machine.execSlotEndTruncate g p s
  | .greenCycleEnd g => Sys2Proof.Machine.execGreenCycleEnd g s
  | .greenStatusSend g => Sys2Proof.Machine.execGreenStatusSend g s
  | .portLinkChange g p c => Sys2Proof.Machine.execPortLinkChange g p c s
  | .greenBlockEnd g => Sys2Proof.Machine.execGreenBlockEnd g s
  | .greenSyncLoss g => Sys2Proof.Machine.execGreenSyncLoss g s
  | .laneFrameReceive l g f t => Sys2Proof.Machine.execLaneFrameReceive l g f t s
  | .slotTransmit l g slot => Sys2Proof.Machine.execSlotTransmit l g slot s
  | .pduPack l slot => Sys2Proof.Machine.execPduPack l slot s
  | .scheduleDownloadSend l g => Sys2Proof.Machine.execScheduleDownloadSend l g s
  | .serviceConnLost l c => Sys2Proof.Machine.execServiceConnLost l c s
  | .clusterCycleStart l => Sys2Proof.Machine.execClusterCycleStart l s
  | .listenTimeout l => Sys2Proof.Machine.execListenTimeout l s
  | .coldstartMaster l => Sys2Proof.Machine.execColdstartMaster l s
  | .integrationTimeout l => Sys2Proof.Machine.execIntegrationTimeout l s
  | .passiveTimeout l => Sys2Proof.Machine.execPassiveTimeout l s
  | .masterSuccession l => Sys2Proof.Machine.execMasterSuccession l s
  | .connWatchdogExpire l e => Sys2Proof.Machine.execConnWatchdogExpire l e s
  | .producerStale l e => Sys2Proof.Machine.execProducerStale l e s
  | .inputSample l c1 c2 => Sys2Proof.Machine.execInputSample l c1 c2 s
  | .testPulseStart l k => Sys2Proof.Machine.execTestPulseStart l k s
  | .testPulseCheck l k c1 c2 => Sys2Proof.Machine.execTestPulseCheck l k c1 c2 s
  | .testPulseEnd l k => Sys2Proof.Machine.execTestPulseEnd l k s
  | .discrepancyTimeout l k => Sys2Proof.Machine.execDiscrepancyTimeout l k s
  | .pairRestartEnd l k => Sys2Proof.Machine.execPairRestartEnd l k s
  | .trunkLost l j => Sys2Proof.Machine.execTrunkLost l j s
  | .trunkHoldEnd l j => Sys2Proof.Machine.execTrunkHoldEnd l j s
  | .streamBeat l c err => Sys2Proof.Machine.execStreamBeat l c err s
  | .streamTrigger l c ev => Sys2Proof.Machine.execStreamTrigger l c ev s
  | .tlbWalkComplete l c => Sys2Proof.Machine.execTlbWalkComplete l c s
  | .pdClassification g p => Sys2Proof.Machine.execPdClassification g p s
  | .homePortLoss l g => Sys2Proof.Machine.execHomePortLoss l g s
  | .supplyValid r => Sys2Proof.Machine.execSupplyValid r s
  | .supplyLost r => Sys2Proof.Machine.execSupplyLost r s
  | .railFault l => Sys2Proof.Machine.execRailFault l s
  | .clockStartTimeout l src => Sys2Proof.Machine.execClockStartTimeout l src s
  | .rstNLow l => Sys2Proof.Machine.execRstNLow l s
  | .rstNRelease l => Sys2Proof.Machine.execRstNRelease l s
  | .runHigh l => Sys2Proof.Machine.execRunHigh l s
  | .runLow l => Sys2Proof.Machine.execRunLow l s
  | .laneStart l o => Sys2Proof.Machine.execLaneStart l o s
  | .temperatureSample l logic gate => Sys2Proof.Machine.execTemperatureSample l logic gate s
  | .greenTestPin g high => Sys2Proof.Machine.execGreenTestPin g high s
  | .bypass l => Sys2Proof.Machine.execBypass l s
  | .samplePreload l => Sys2Proof.Machine.execSamplePreload l s
  | .extest l => Sys2Proof.Machine.execExtest l s
  | .idcode l => Sys2Proof.Machine.execIdcode l s
  | .tapReset l => Sys2Proof.Machine.execTapReset l s
  | .faultLineHealthy l src => Sys2Proof.Machine.execFaultLineHealthy l src s
  | .greenOverTemperature g => Sys2Proof.Machine.execGreenOverTemperature g s
  | .greenCooled g => Sys2Proof.Machine.execGreenCooled g s

end Sys2Proof.Machine
end

