-- ==== Sys2Proof/Safety.lean ====
section
/-! DEFINITION. What counts as safe: the region that a command acts on (R12 to R14), the states that a working Green can be in,
the canonical form of a lane's memories, and a step that goes on. -/

namespace Sys2Proof

/-- The fault-containment region whose state a command acts on (R12 to R14); none for the two rows of the power branches at the
home ports, which belong to no region. -/
def Instr.region : Instr → Option Region
  | .hpRead l _ _ => some (.lane l)
  | .hpWrite l _ _ => some (.lane l)
  | .badInstr l _ => some (.lane l)
  | .hpRegisterWrite l _ _ => some (.lane l)
  | .ring l _ => some (.lane l)
  | .ack l _ => some (.lane l)
  | .hpIrqStatusClear l _ => some (.lane l)
  | .hpErrClear l _ => some (.lane l)
  | .mbAccept l => some (.lane l)
  | .mbDone l _ => some (.lane l)
  | .gamarRestart l => some (.lane l)
  | .sessionTimeout l => some (.lane l)
  | .passwordLockoutEnd l => some (.lane l)
  | .hello l _ => some (.lane l)
  | .bye l _ => some (.lane l)
  | .ping l _ => some (.lane l)
  | .versionsGet l _ => some (.lane l)
  | .almanacRead l _ => some (.lane l)
  | .infoGet l _ => some (.lane l)
  | .serialGet l _ => some (.lane l)
  | .sessionOpen l _ => some (.lane l)
  | .recordRead l _ => some (.lane l)
  | .recordWrite l _ => some (.lane l)
  | .commit l _ => some (.lane l)
  | .commitDone l => some (.lane l)
  | .discard l _ => some (.lane l)
  | .sessionClose l _ => some (.lane l)
  | .configSeal l _ => some (.lane l)
  | .passwordChange l _ => some (.lane l)
  | .workshopEnter l _ => some (.lane l)
  | .workshopLeave l _ => some (.lane l)
  | .graphLoad l _ => some (.lane l)
  | .graphStart l _ => some (.lane l)
  | .graphStop l _ => some (.lane l)
  | .graphUnload l _ => some (.lane l)
  | .graphStatus l _ => some (.lane l)
  | .coefWrite l _ => some (.lane l)
  | .coefRead l _ _ => some (.lane l)
  | .axisStatus l _ => some (.lane l)
  | .axisEnable l _ => some (.lane l)
  | .axisDisable l _ => some (.lane l)
  | .axisHandover l _ => some (.lane l)
  | .granaryRead l _ => some (.lane l)
  | .faultRead l _ => some (.lane l)
  | .faultClear l _ => some (.lane l)
  | .healthRead l _ => some (.lane l)
  | .noticeRead l _ => some (.lane l)
  | .portStatus l _ => some (.lane l)
  | .connStatus l _ => some (.lane l)
  | .connOpen l _ => some (.lane l)
  | .connClose l _ => some (.lane l)
  | .streamStart l _ => some (.lane l)
  | .streamStop l _ => some (.lane l)
  | .streamStatus l _ => some (.lane l)
  | .streamResume l _ => some (.lane l)
  | .selftestStatus l _ => some (.lane l)
  | .selftestRun l _ => some (.lane l)
  | .selftestAbort l _ => some (.lane l)
  | .timeGet l _ => some (.lane l)
  | .angleGet l _ => some (.lane l)
  | .logRead l _ => some (.lane l)
  | .logStatus l _ => some (.lane l)
  | .logArchive l _ => some (.lane l)
  | .handoverLineChange l _ _ => some (.lane l)
  | .handoverLineFailed l _ _ => some (.lane l)
  | .linkUp l _ => some (.lane l)
  | .linkFrameReceive l _ _ => some (.lane l)
  | .linkFrameSend l _ => some (.lane l)
  | .linkIdleFrame l _ => some (.lane l)
  | .linkDown l _ => some (.lane l)
  | .branchOverload _ _ _ => none
  | .heartbeatToggle l => some (.lane l)
  | .heartbeatLoss l => some (.lane l)
  | .clockFault (.laneClock l _) => some (.lane l)
  | .clockFault (.greenClock g) => some (.green g)
  | .greenLost l _ => some (.lane l)
  | .holdEnd l => some (.lane l)
  | .rampZeroEnd l _ => some (.lane l)
  | .rejoinDelayExpire l => some (.lane l)
  | .runtimeTestComplete l _ => some (.lane l)
  | .rejoinTimeout l => some (.lane l)
  | .timekeeperTick l => some (.lane l)
  | .resortComplete l _ => some (.lane l)
  | .dlRequestApply l _ => some (.lane l)
  | .cmpRequestApply l _ => some (.lane l)
  | .triggerEvent l => some (.lane l)
  | .dispatchCycle l => some (.lane l)
  | .nodeComplete l _ => some (.lane l)
  | .mov l _ => some (.lane l)
  | .add l _ => some (.lane l)
  | .sub l _ => some (.lane l)
  | .mul l _ => some (.lane l)
  | .mac l _ => some (.lane l)
  | .neg l _ => some (.lane l)
  | .abs l _ => some (.lane l)
  | .shift l _ => some (.lane l)
  | .div l _ => some (.lane l)
  | .recip l _ => some (.lane l)
  | .sqrt l _ => some (.lane l)
  | .dot l _ => some (.lane l)
  | .sum l _ => some (.lane l)
  | .pack l _ => some (.lane l)
  | .select l _ => some (.lane l)
  | .clarke l _ => some (.lane l)
  | .park l _ => some (.lane l)
  | .ipark l _ => some (.lane l)
  | .svm l _ => some (.lane l)
  | .pi l _ => some (.lane l)
  | .pid l _ => some (.lane l)
  | .limit l _ => some (.lane l)
  | .rate l _ => some (.lane l)
  | .fo l _ => some (.lane l)
  | .biquad l _ => some (.lane l)
  | .notch l _ => some (.lane l)
  | .lut l _ => some (.lane l)
  | .min l _ => some (.lane l)
  | .max l _ => some (.lane l)
  | .deadzone l _ => some (.lane l)
  | .sincos l _ => some (.lane l)
  | .atan2 l _ => some (.lane l)
  | .mag l _ => some (.lane l)
  | .pll l _ => some (.lane l)
  | .bemf l _ => some (.lane l)
  | .hfi l _ => some (.lane l)
  | .satp l _ => some (.lane l)
  | .rdAdc l _ => some (.lane l)
  | .rdPos l _ => some (.lane l)
  | .rdPdu l _ => some (.lane l)
  | .rdTrig l _ => some (.lane l)
  | .rdFlags l _ => some (.lane l)
  | .wrDuty l _ => some (.lane l)
  | .wrMask l _ => some (.lane l)
  | .commut l _ => some (.lane l)
  | .wrAngle l _ => some (.lane l)
  | .wrPdu l _ => some (.lane l)
  | .emit l _ => some (.lane l)
  | .ckpt l _ => some (.lane l)
  | .coord l _ => some (.lane l)
  | .flagclr l _ => some (.lane l)
  | .dlInsert l _ => some (.lane l)
  | .dlCancel l _ => some (.lane l)
  | .cmpArm l _ => some (.lane l)
  | .cmpDisarm l _ => some (.lane l)
  | .ckptPost l _ => some (.lane l)
  | .emitRaise l => some (.lane l)
  | .periodStart l _ => some (.lane l)
  | .periodMid l _ => some (.lane l)
  | .cotFixedEnd l _ => some (.lane l)
  | .cotLimitExpire l _ => some (.lane l)
  | .thresholdCrossing l _ => some (.lane l)
  | .deadTimeEnd l _ _ => some (.lane l)
  | .delayLineCalibration l _ => some (.lane l)
  | .shootThrough l _ _ => some (.lane l)
  | .tripInputChange l _ _ => some (.lane l)
  | .auxPullEnd l _ => some (.lane l)
  | .debugHalt l => some (.lane l)
  | .debugResume l => some (.lane l)
  | .gateCommand l _ _ => some (.lane l)
  | .readbackMismatch l _ _ _ => some (.lane l)
  | .blankingEnd l _ _ => some (.lane l)
  | .shortDetected l _ _ _ => some (.lane l)
  | .senseCellFastTrip l _ _ => some (.lane l)
  | .tltoPlateauEnd l _ _ => some (.lane l)
  | .softTurnOffEnd l _ _ => some (.lane l)
  | .vgdUvlo l _ => some (.lane l)
  | .vgdValid l _ => some (.lane l)
  | .floatUvlo l _ _ _ => some (.lane l)
  | .gdenLow l => some (.lane l)
  | .gdenRise l _ => some (.lane l)
  | .adcConversionComplete l _ _ => some (.lane l)
  | .backgroundSlotForce l _ => some (.lane l)
  | .overcurrentComparator l _ _ _ => some (.lane l)
  | .busOvervoltage l _ => some (.lane l)
  | .encoderTransition l _ _ _ _ => some (.lane l)
  | .hallChange l _ _ => some (.lane l)
  | .ssiBurstStart l _ => some (.lane l)
  | .ssiWordReceive l _ _ => some (.lane l)
  | .sentFrameReceive l _ _ => some (.lane l)
  | .feedbackTimeout l _ => some (.lane l)
  | .sensorSupplyFault l _ => some (.lane l)
  | .sensorSupplySettle l _ => some (.lane l)
  | .speedStop l _ => some (.lane l)
  | .emulationStep l _ => some (.lane l)
  | .lockWriteTimeout l _ => some (.lane l)
  | .hfiAcqTimeout l _ => some (.lane l)
  | .polarityEnd l _ => some (.lane l)
  | .catchWindowEnd l _ => some (.lane l)
  | .coastEnd l _ => some (.lane l)
  | .catchCountClear l _ => some (.lane l)
  | .announceRepeat l _ => some (.lane l)
  | .granaryCommitDone l _ => some (.lane l)
  | .takeSend l _ => some (.lane l)
  | .takeWaitTimeout l _ => some (.lane l)
  | .standbyTestRotation l _ _ => some (.lane l)
  | .faultReport l _ => some (.lane l)
  | .faultLineInvalid l _ _ => some (.lane l)
  | .complementMismatch l _ => some (.lane l)
  | .signatureCompare l _ _ _ => some (.lane l)
  | .delayFault l => some (.lane l)
  | .commitBufferFull b => some (.lane b.lane)
  | .selftestSliceStart l => some (.lane l)
  | .selftestSliceEnd l _ => some (.lane l)
  | .sliceTimeout l => some (.lane l)
  | .sealWrite l => some (.lane l)
  | .greenFrameIngress g _ _ _ => some (.green g)
  | .slotEndTruncate g _ => some (.green g)
  | .greenCycleEnd g => some (.green g)
  | .greenStatusSend g => some (.green g)
  | .portLinkChange g _ _ => some (.green g)
  | .greenBlockEnd g => some (.green g)
  | .greenSyncLoss g => some (.green g)
  | .laneFrameReceive l _ _ _ => some (.lane l)
  | .slotTransmit l _ _ => some (.lane l)
  | .pduPack l _ => some (.lane l)
  | .scheduleDownloadSend l _ => some (.lane l)
  | .serviceConnLost l _ => some (.lane l)
  | .clusterCycleStart l => some (.lane l)
  | .listenTimeout l => some (.lane l)
  | .coldstartMaster l => some (.lane l)
  | .integrationTimeout l => some (.lane l)
  | .passiveTimeout l => some (.lane l)
  | .masterSuccession l => some (.lane l)
  | .connWatchdogExpire l _ => some (.lane l)
  | .producerStale l _ => some (.lane l)
  | .inputSample l _ _ => some (.lane l)
  | .testPulseStart l _ => some (.lane l)
  | .testPulseCheck l _ _ _ => some (.lane l)
  | .testPulseEnd l _ => some (.lane l)
  | .discrepancyTimeout l _ => some (.lane l)
  | .pairRestartEnd l _ => some (.lane l)
  | .trunkLost l _ => some (.lane l)
  | .trunkHoldEnd l _ => some (.lane l)
  | .streamBeat l _ _ => some (.lane l)
  | .streamTrigger l _ _ => some (.lane l)
  | .tlbWalkComplete l _ => some (.lane l)
  | .pdClassification _ _ => none
  | .homePortLoss l _ => some (.lane l)
  | .supplyValid r => some r
  | .supplyLost r => some r
  | .railFault l => some (.lane l)
  | .clockStartTimeout l _ => some (.lane l)
  | .rstNLow l => some (.lane l)
  | .rstNRelease l => some (.lane l)
  | .runHigh l => some (.lane l)
  | .runLow l => some (.lane l)
  | .laneStart l _ => some (.lane l)
  | .temperatureSample l _ _ => some (.lane l)
  | .greenTestPin g _ => some (.green g)
  | .bypass l => some (.lane l)
  | .samplePreload l => some (.lane l)
  | .extest l => some (.lane l)
  | .idcode l => some (.lane l)
  | .tapReset l => some (.lane l)
  | .faultLineHealthy l _ => some (.lane l)
  | .greenOverTemperature g => some (.green g)
  | .greenCooled g => some (.green g)

end Sys2Proof

namespace Sys2Proof.Machine

/-- The block takes the command in front of its queue and goes on. -/
def Safe (s : State) : Prop := ∃ t, step s = .next t

/-- The measured delays of a port stem from the last 8 cycles (R432). -/
def GPort.Recent (q : GPort) : Prop := ∀ d ∈ q.delays, d.1 < 8

/-- What holds of a Green whatever it has received: its cycle counter and its STATUS port index stay in range (R413), its rate
correction within 500 ppm (R433), a port keeps the delays of the last 8 cycles alone
(R432, R474), what it would go back to after a lost arbitration is as good (R440), a synchronised Green has no port blocked by the rule
for unsynchronised ones (R440), and an unsynchronised one has no slot to enforce (R410). -/
structure Green.Ok (x : Green) : Prop where
  cycle : x.cycle < 64
  status : x.statusPort < 16
  rate : -(1 / 2000) ≤ x.rate ∧ x.rate ≤ 1 / 2000
  delays : ∀ p, (x.port p).Recent
  arb : ∀ a, x.arb = some a → a.cycle < 64 ∧ a.was.Recent
  block : x.synced = true → x.block = none
  arriving : x.synced = false → x.arriving = []

/-- The memories of a lane that are read by address stand in their canonical form. -/
def Lane.MemsOk (x : Lane) : Prop := memOk x.mem.trace = true ∧ memOk x.mem.stream = true ∧ memOk x.mem.granary = true

/-- The command answers a next state in which lane `l` is `y`, the notices that waited queued where Gamar now can (R378)
and the Almanac following on (R72), and everything outside lane `l` is as before. -/
def State.Turns (s : State) (c : Instr) (l : LaneId) (y : Lane) : Prop :=
  ∃ t, exec c s = .next t ∧ { t.lane l with alm := y.alm } = y.noticeSync ∧ (∀ k, k ≠ l → t.lane k = s.lane k) ∧
    t.greens = s.greens ∧ t.homes = s.homes ∧ t.pd = s.pd ∧ t.pending = s.pending

/-- The command answers a next state in which Green `g` is `y` and everything outside Green `g` is as before. -/
def State.TurnsGreen (s : State) (c : Instr) (g : GreenId) (y : Green) : Prop :=
  ∃ t, exec c s = .next t ∧ t.green g = y ∧ (∀ h, h ≠ g → t.green h = s.green h) ∧
    t.lanes = s.lanes ∧ t.homes = s.homes ∧ t.pd = s.pd ∧ t.pending = s.pending

/-- Gamar executes opcode `op` for mailbox `m`: it runs, the mailbox is BUSY with that opcode (R41, R44), and where the command
is marked S (R56) the mailbox holds the session. -/
def Lane.grants (x : Lane) (m : MbId) (op : Nat) : Prop :=
  x.serving m op = true ∧ (opNeedsSession op = true → x.ses.holder = some m)

/-- The invariant of the Greens. -/
def State.GreensOk (s : State) : Prop := ∀ g, (s.green g).Ok

end Sys2Proof.Machine
end

