-- ==== Sys2Proof/Certificates/Slice0/Obligations.lean ====
section
/-! DEFINITION. The statements for the provers. A clause `s.Turns c l y` says that the command `c` completes: it answers a next
state in which lane `l` is `y` (the notices that waited queued, R378, and the Almanac following on) and nothing else has changed; so
each clause states an effect and its frame at once. -/

open Sys2Proof Sys2Proof.Machine

/-- A step takes the command at the front of the queue. For every command c and state s, a step of s with c at the
front of its queue is the command's effect on s with the queue's rest; a step with an empty queue changes nothing,
which is the model's choice for an idle block (log 2). (R43, R44) -/
def Obligations.StepTakesTheFront : Prop :=
  (∀ (s : State) (c : Instr), step (s.withCommand c) = exec c s) ∧
  (∀ (s : State) (c : Instr) (cs : List Instr), s.pending = c :: cs → step s = exec c { s with pending := cs }) ∧
  (∀ s : State, s.pending = [] → step s = .next s)

/-- Every command completes and leaves the queue to the step. Every command answers a next state in every state, with
the commands that wait as they were; so a step of a queue that is not empty answers a next state whose queue is the
rest. No command of the table ends in a fault or a refusal: what the spec turns away it answers with a status, an
error bit or no effect. (R9, R35, R42, R54) -/
def Obligations.NoCommandStops : Prop :=
  (∀ (c : Instr) (s : State), ∃ t, exec c s = .next t ∧ t.pending = s.pending) ∧
  (∀ (s : State) (c : Instr) (cs : List Instr), s.pending = c :: cs → ∃ t, step s = .next t ∧ t.pending = cs)

/-- A command changes its own region alone, and what it does there depends on that region alone. A command of one lane
leaves the other lanes, both Greens and the home ports as they are; a command of one Green leaves the other Green, the
lanes and the home ports; neither changes a PD state but for the loss of the region's supply and of a home port's
power; a command of a power branch leaves every lane and Green. In two states that agree on a command's region it
leaves that region the same, but for a supply that becomes valid, which the home ports feed, and the rows in which a
lane sees a partner over a lane link: the handover line, the link and its frames, and the start of the lane. (R12,
R14) -/
def Obligations.RegionIsolation : Prop :=
  (∀ (c : Instr) (s t : State), exec c s = .next t →
    (∀ l, c.region = some (.lane l) →
      (∀ k, k ≠ l → t.lane k = s.lane k) ∧ t.greens = s.greens ∧ t.homes = s.homes ∧
      ((∀ g, c ≠ .homePortLoss l g) → c ≠ .supplyLost (.lane l) → t.pd = s.pd)) ∧
    (∀ g, c.region = some (.green g) →
      (∀ k, k ≠ g → t.green k = s.green k) ∧ t.lanes = s.lanes ∧ t.homes = s.homes ∧
      (c ≠ .supplyLost (.green g) → t.pd = s.pd)) ∧
    (c.region = none → t.lanes = s.lanes ∧ t.greens = s.greens)) ∧
  (∀ (c : Instr) (s t s' t' : State), exec c s = .next t → exec c s' = .next t' →
    (∀ l, c.region = some (.lane l) → s.lane l = s'.lane l →
      (∀ k a, c ≠ .handoverLineChange l k a) → (∀ k, c ≠ .linkUp l k) → (∀ k f, c ≠ .linkFrameReceive l k f) →
      (∀ k, c ≠ .linkFrameSend l k) → (∀ k, c ≠ .linkIdleFrame l k) → (∀ o, c ≠ .laneStart l o) →
      c ≠ .supplyValid (.lane l) → t.lane l = t'.lane l) ∧
    (∀ g, c.region = some (.green g) → s.green g = s'.green g → c ≠ .supplyValid (.green g) → t.green g = t'.green g))

/-- The state after reset. Right after a power-on reset every lane has its mailboxes IDLE and without a negotiated
version, HP_IRQ_EN, HP_ERR and HP_TRACE_WP at 0, no session open, GAMAR_READY at 0, local time 0 and no global time,
every slot without a run, every endpoint CLOSED, every stream STOPPED, every supervisor IDLE and unlocked, no gate
command on, no fault record no seen bit and its memories in canonical form, with x_FAULT_N low; every Green is
unsynchronised with its external ports DOWN and its counters at 0, and satisfies the invariant of the Greens; no
command waits. That every supply stands and that x_RUN is not yet high is the model's choice (log 4). (R21, R38, R41,
R111, R164, R239, R332, R373, R420, R424, R441, R461) -/
def Obligations.ResetState : Prop :=
  State.reset.pending = [] ∧ State.reset.GreensOk ∧
  (∀ l : LaneId,
    let x := State.reset.lane l
    (∀ m, (x.mb m).st = .idle ∧ (x.mb m).nego = none) ∧ x.hp.irqEn = 0 ∧ x.hp.err = 0 ∧ x.hp.traceWp = 0 ∧ x.hp.ready = false ∧
    x.hp.order = [] ∧ x.ses.holder = none ∧ x.tm.loc = 0 ∧ x.tm.sync = .none ∧ (∀ k, (x.slot k).run = none) ∧
    (∀ e, (x.ep e).st = .closed) ∧ (∀ c, (x.chan c).st = .stopped) ∧
    (∀ nn, (x.axis nn).sup.drive = .idle ∧ (x.axis nn).sup.locked = false ∧ (x.axis nn).sup.fails = 0 ∧
      (x.axis nn).gate.cmd = 0 ∧ (x.axis nn).pwm.cmd = 0 ∧ (x.axis nn).enabled = false) ∧
    x.fc.first = none ∧ x.fc.seen = 0 ∧ x.fc.overflow = false ∧ x.faultPin = true ∧ x.MemsOk) ∧
  (∀ g : GreenId,
    let x := State.reset.green g
    x.synced = false ∧ x.sched = none ∧ (∀ p : Fin 16, (x.port (fin p.val)).st = .down) ∧
    ∀ p k, vget (x.port p).counters k = 0)

/-- Every step keeps the Greens in range. In every state whose Greens have their cycle number below 64, their STATUS
port below 16, their rate correction within 500 ppm, no measured delay of a port from before the last 8 cycles, nor in
the port state that a lost arbitration would bring back, no forwarding block while synchronised and no slot to enforce
while not, whatever commands wait, a step leads to a state whose Greens have all this. (R410, R413, R432, R433, R440,
R441, R474) -/
def Obligations.GreensInvariant : Prop :=
  ∀ s t : State, s.GreensOk → step s = .next t → t.GreensOk

/-- The interrupt pin of the host port. x_HIRQ_N is driven low exactly while some bit is set both in HP_IRQ_STATUS and
in HP_IRQ_EN. (R40) -/
def Obligations.InterruptPin : Prop :=
  ∀ x : Lane, x.hirqLow = true ↔ ∃ k < 32, bit x.hp.irqStatus k = true ∧ bit x.hp.irqEn k = true

/-- What the host may do to a mailbox in each of its states. At a host port that takes part, a write of any bytes into
a mailbox's in-buffer is stored in IDLE, and in any other state stores nothing and sets WR_LOCKED; RING for a mailbox
not in IDLE does nothing but set DB_NOT_IDLE; ACK for a mailbox not in DONE does nothing but set ACK_NOT_DONE, whether
by its own row or by a write of HP_DOORBELL. (R42) -/
def Obligations.MailboxAccessByState : Prop :=
  ∀ (s : State) (l : LaneId) (x : Lane) (k : Fin 4), s.lane l = x → x.portOn = true → x.portBlocked = false →
    let m : MbId := fin k.val
    let err (v : W32) : Lane := { x with hp := { x.hp with err := x.hp.err ||| v } }
    (∀ (o : Nat) (bs : Bytes), bs ≠ [] → o + bs.length ≤ 0x400 →
      let c := Instr.hpWrite l (BitVec.ofNat 24 (0x20000 + 0x800 * k.val + o)) bs
      ((x.mb m).st = .idle → s.Turns c l (x.onMb m fun q => { q with inBuf := memWriteN q.inBuf o bs })) ∧
      ((x.mb m).st ≠ .idle → s.Turns c l (err 0x04))) ∧
    ((x.mb m).st ≠ .idle →
      s.Turns (.ring l (BitVec.ofNat 4 (2 ^ k.val))) l (err 0x08) ∧
      s.Turns (.hpRegisterWrite l 0x08 (BitVec.ofNat 32 (2 ^ k.val))) l (err 0x08)) ∧
    ((x.mb m).st ≠ .done →
      s.Turns (.ack l (BitVec.ofNat 4 (2 ^ k.val))) l (err 0x10) ∧
      s.Turns (.hpRegisterWrite l 0x08 (BitVec.ofNat 32 (2 ^ (8 + k.val)))) l (err 0x10))

/-- The order in which a write of HP_DOORBELL applies its bits. At a host port that takes part, a write of HP_DOORBELL
completes; a mailbox in DONE whose ACK and RING bits it both carries is POSTED after it, and the mailboxes that it
posts, those with a RING bit that stand in IDLE or that its ACK returns to IDLE, follow those posted before in
ascending mailbox number. (R43) -/
def Obligations.DoorbellOrder : Prop :=
  ∀ (s : State) (l : LaneId) (x : Lane) (v : W32), s.lane l = x → x.portOn = true → x.portBlocked = false →
    ∃ y : Lane, s.Turns (.hpRegisterWrite l 0x08 v) l y ∧
      (∀ k : Fin 4, (x.mb (fin k.val)).st = .done → bit v (8 + k.val) = true → bit v k.val = true →
        (y.mb (fin k.val)).st = .posted) ∧
      y.hp.order = x.hp.order ++ ((idxs 4).filter fun k =>
        bit v k.val && ((x.mb (fin k.val)).st = .idle || ((x.mb (fin k.val)).st = .done && bit v (8 + k.val)))).map fun k => fin k.val

/-- The codes of a port's state. A port's state is coded 0 for DOWN, 1 for TRAINING, 2 for OPEN, 3 for CLOSED and 4
for UNKNOWN; a lane that takes a code of a Green's STATUS frame reads the state it stands for; that the reserved
codes, which no Green sends, read as UNKNOWN is the model's choice (log 81). (R413, R414) -/
def Obligations.PortStateCodes : Prop :=
  portCode .down = 0 ∧ portCode .training = 1 ∧ portCode .opened = 2 ∧ portCode .closed = 3 ∧ portCode .unknown = 4 ∧
  (∀ st : PortState, portStateOf (portCode st) = st) ∧ (∀ n, 4 < n → portStateOf n = .unknown)

/-- The sequence check of a consumer. For a PDU in good form and d its sequence less the last accepted one modulo
2^16: d from 1 to 32,767 passes and adds d - 1 to LOST; d of 0 or from 32,768 up is discarded under SEQUENCE and adds
nothing; a PDU of an endpoint without a last sequence, as after CONN_OPEN, and one with RESTART set pass whatever
their sequence. That they add nothing to LOST, and that the container's reader adds what the check finds to LOST
before it accepts the PDU or discards it, is the model's reading (log 53). (R453, R454, R461) -/
def Obligations.SequenceCheck : Prop :=
  (∀ (x : Lane) (e : Fin 512) (c : Bytes) (o : Nat) (t : Int), pduForm (x.connRec e) c o = none →
    let q := fieldAt c (o + 2) 2
    let restart := natBit (fieldAt c (o + 9) 1) 0
    let v := x.pduCheck e c o t
    ((x.ep e).seq = none ∨ restart = true → v.1 ≠ .discard 2 ∧ v.2 = 0) ∧
    (∀ p : W16, (x.ep e).seq = some p → restart = false →
      let d := (((q : Int) - p.toNat) % 65536).toNat
      (1 ≤ d ∧ d ≤ 32767 → v.1 ≠ .discard 2 ∧ v.2 = d - 1) ∧
      (d = 0 ∨ 32768 ≤ d → v = (.discard 2, 0)))) ∧
  (∀ (x y : Lane) (e : Fin 512), (x.openConn e).1 = y → (x.ep e).st = .closed ∨ (x.ep e).st = .failed →
    (x.openConn e).2 = stsOk → (y.ep e).seq = none) ∧
  (∀ (x : Lane) (slot : Nat) (c : Bytes) (t : Int) (seen : List (Fin 512)) (o : Nat) (e : Fin 512),
    x.consumerOf slot (fieldAt c o 2) = some e → e ∉ seen →
    let v := x.pduCheck e c o t
    let z := x.onEp e fun q => { q with counters := vmod q.counters 3 fun k => sat32 k v.2 }
    x.pduOffer slot c t seen o = match v.1 with
      | .discard k => (z.onEp e fun q => { q with counters := vmod q.counters k fun n => sat32 n 1, okRun := 0 }, e :: seen)
      | .accept => ((z.pduAccept e c o).judgeOffers e, e :: seen))

/-- READ, WRITE, reserved and register transactions of the host port. Each of HP_READ, HP_WRITE, BAD_INSTR and
HP_REGISTER_WRITE completes. At a host port that takes part (powered, out of reset, not under a blocking slice): a
READ puts the bytes of consecutive addresses, modulo 2^24, on x_HIO and sets UNMAPPED where one of them is unmapped; a
WRITE into the in-buffer of an IDLE mailbox stores its bytes there, a WRITE of one whole register word writes that
register, and a WRITE of one byte elsewhere stores nothing and sets the error bit of its place; a reserved transaction
sets BAD_INSTR; a register write has the effect of its register. Nothing else changes. (R34, R35, R36, R37, R38, R42)
-/
def Obligations.HostPortAccess : Prop :=
  ∀ (s : State) (l : LaneId) (x : Lane), s.lane l = x → x.portOn = true → x.portBlocked = false →
    (∀ (addr : BitVec 24) (len : Nat),
      let bs := (List.range len).map fun i => x.hpByte x.almBytes ((addr.toNat + i) % 0x1000000)
      s.Turns (.hpRead l addr len) l { x with hp := { x.hp with
        dataOut := bs.map fun b => b.1
        err := if bs.any fun b => b.2 then x.hp.err ||| 0x02 else x.hp.err } }) ∧
    (∀ (m : Fin 4) (o : Nat) (data : Bytes), (x.mb (fin m.val)).st = .idle → o + data.length ≤ 0x400 →
      s.Turns (.hpWrite l (BitVec.ofNat 24 (0x20000 + 0x800 * m.val + o)) data) l
        (x.onMb (fin m.val) fun b => { b with inBuf := memWriteN b.inBuf o data })) ∧
    (∀ (off : Fin 9) (data : Bytes), data.length = 4 →
      s.Turns (.hpWrite l (BitVec.ofNat 24 (0x10000 + 4 * off.val)) data) l
        (x.regWrite (4 * off.val) (BitVec.ofNat 32 (ofLe data)))) ∧
    (∀ (addr : BitVec 24) (b : Byte),
      ((∃ o, hpPlace addr.toNat = .almanac o ∨ hpPlace addr.toNat = .trace o ∨
          ∃ m, hpPlace addr.toNat = .outBuf m o) → s.Turns (.hpWrite l addr [b]) l (x.hpErr 0x20)) ∧
      (hpPlace addr.toNat = .unmapped → s.Turns (.hpWrite l addr [b]) l (x.hpErr 0x02)) ∧
      (∀ m o, hpPlace addr.toNat = .inBuf m o → (x.mb m).st ≠ .idle → s.Turns (.hpWrite l addr [b]) l (x.hpErr 0x04)) ∧
      (∀ o, hpPlace addr.toNat = .reg o →
        s.Turns (.hpWrite l addr [b]) l (x.hpErr (if regRo (o / 4 * 4) then 0x60 else 0x40)))) ∧
    (∀ code : Byte, s.Turns (.badInstr l code) l { x with hp := { x.hp with err := x.hp.err ||| 0x01 } }) ∧
    (∀ (off : Nat) (v : W32),
      (off = 0x08 → s.Turns (.hpRegisterWrite l off v) l ((x.ackMask (v.extractLsb' 8 4)).ringMask (v.extractLsb' 0 4))) ∧
      (off = 0x10 → s.Turns (.hpRegisterWrite l off v) l
        { x with hp := { x.hp with irqStatus := x.hp.irqStatus &&& ~~~ v } }) ∧
      (off = 0x14 → s.Turns (.hpRegisterWrite l off v) l { x with hp := { x.hp with irqEn := v &&& 0x0000F1FF } }) ∧
      (off = 0x18 → s.Turns (.hpRegisterWrite l off v) l { x with hp := { x.hp with err := x.hp.err &&& ~~~ v } }) ∧
      (off = 0x20 → s.Turns (.hpRegisterWrite l off v) l { x with hp := { x.hp with scratch := v } }) ∧
      (off = 0x00 ∨ off = 0x04 ∨ off = 0x0C ∨ off = 0x1C → s.Turns (.hpRegisterWrite l off v) l (x.hpErr 0x20)))

/-- Doorbells, the restart of Gamar and the host port's timers. Each of RING, ACK, HP_IRQ_STATUS_CLEAR, HP_ERR_CLEAR,
GAMAR_RESTART, SESSION_TIMEOUT and PASSWORD_LOCKOUT_END completes. At a host port that takes part, RING goes through
its mailboxes in ascending number: an IDLE one becomes POSTED, stands last in the order of posting and raises event
160 + m with its opcode, any other sets DB_NOT_IDLE; ACK goes through its mailboxes: a DONE one becomes IDLE, any
other sets ACK_NOT_DONE; HP_IRQ_STATUS and HP_ERR lose the bits written as 1. Nothing else changes. GAMAR_RESTART of a
pair that no self-test slice holds, and that is not merely resuming after one, writes the words that a coefficient
write in progress has left (the model's choice of the two that R47 allows, log 81), makes every mailbox IDLE and
unnegotiated, sets RESTARTED and the LOST bits of the host mailboxes it abandons, counts RESTARTS up to its limit,
closes the session, puts the pair's checking logic back to its state after reset but for its two latches and the
passed injection test, and aborts the streams at work; it only sets GAMAR_READY where the pair resumes after a slice
(the model's reading, log 34). SESSION_TIMEOUT closes the session of a mailbox with no command in it (that the
interval does not run while one lies there is the model's reading, log 29). PASSWORD_LOCKOUT_END ends the lockout.
(R38, R40, R41, R42, R43, R44, R47, R81, R84, R390, R491) -/
def Obligations.DoorbellsRestartAndTimers : Prop :=
  (∀ (s : State) (l : LaneId) (x : Lane), s.lane l = x → x.portOn = true → x.portBlocked = false →
     (∀ mask : BitVec 4, s.Turns (.ring l mask) l (each (idxs 4) (fun k z =>
       let m : MbId := fin k.val
       if !bit mask k.val then z
       else if (z.mb m).st = .idle then
         let p := z.onMb m fun b => { b with st := .posted }
         ({ p with hp := { p.hp with order := p.hp.order ++ [m] } }).event (160 + k.val) (ofLe (memReadN (z.mb m).inBuf 0 2))
       else { z with hp := { z.hp with err := z.hp.err ||| 0x08 } }) x)) ∧
     (∀ mask : BitVec 4, s.Turns (.ack l mask) l (each (idxs 4) (fun k z =>
       let m : MbId := fin k.val
       if !bit mask k.val then z
       else if (z.mb m).st = .done then z.onMb m fun b => { b with st := .idle }
       else { z with hp := { z.hp with err := z.hp.err ||| 0x10 } }) x)) ∧
     (∀ v : W32, s.Turns (.hpIrqStatusClear l v) l { x with hp := { x.hp with irqStatus := x.hp.irqStatus &&& ~~~ v } }) ∧
     (∀ v : W32, s.Turns (.hpErrClear l v) l { x with hp := { x.hp with err := x.hp.err &&& ~~~ v } })) ∧
  (∀ (s : State) (l : LaneId) (x : Lane), s.lane l = x →
     (x.portOn = true → x.portBlocked = false →
       ((x.hp.ready = true ∨ x.sys.lstate = .init ∨ x.startupRun = true) →
         let z := each x.hp.coefJobs (fun j w => w.onSlot j.slot fun k =>
           { k with coef := putWords k.coef (j.first + j.done) j.rest }) x
         s.Turns (.gamarRestart l) l
           (({ x with
               hp := { x.hp with
                 mbs := x.hp.mbs.map fun (b : Mailbox) => { b with
                   st := .idle, nego := none, notices := [], dropped := false, stored := none, cmd := none, resp := none,
                   discard := false }
                 order := [], coefJobs := []
                 irqStatus := x.hp.irqStatus |||
                   BitVec.ofNat 32 (4096 * maskOf fun k : Fin 4 => (x.mb (fin k.val)).st ≠ MbState.idle) ||| 0x80
                 restarts := BitVec.ofNat 16 (satInc x.hp.restarts.toNat 0xFFFF) }
               ses := { x.ses with st := .closed, holder := none, items := [], job := none }
               dsp := { z.dsp with slots := z.dsp.slots.map fun (k : Slot) => { k with stopper := none } }
               lk := { Lockstep.cold with delay := x.lk.delay, disagree := x.lk.disagree, proved := x.lk.proved } }).streamsAbort false)) ∧
       (x.hp.ready = false → x.sys.lstate ≠ .init → x.startupRun = false →
         s.Turns (.gamarRestart l) l { x with hp := { x.hp with ready := true } })) ∧
     (∀ m, x.ses.holder = some m → ((x.mb m).st = .idle ∨ (x.mb m).st = .done) →
       s.Turns (.sessionTimeout l) l { x with ses := { x.ses with st := .closed, holder := none, items := [], job := none } }) ∧
     s.Turns (.passwordLockoutEnd l) l { x with fl := { x.fl with locked := false } })

/-- Gamar accepts the oldest posted request and completes a response. Each of MB_ACCEPT and MB_DONE completes.
MB_ACCEPT takes the oldest posted mailbox, which becomes BUSY; a CRC that fails is answered CRC and not stored, the
sequence of the last completed request gets the stored response again, a header that fails its checks gets their
status, a command the lane state withholds gets that status, and any other request waits for its command. MB_DONE lets
a coefficient write of the mailbox that is under way write the words it has left, writes the response to the out-
buffer, makes the mailbox DONE, sets the done interrupt of a host mailbox and raises event 168 + m with the status;
where the service connection was lost the response is discarded and the mailbox is IDLE and unnegotiated. (R38, R41,
R44, R46, R48, R50, R51, R52, R62, R134) -/
def Obligations.MailboxService : Prop :=
  ∀ (s : State) (l : LaneId) (x : Lane) (m : MbId), s.lane l = x → x.gamarRuns = true →
    (∀ rest, x.hp.order = m :: rest →
      let b := x.mb m
      let op := b.head 0 2
      let z := ({ x with hp := { x.hp with order := rest } }).onMb m fun b => { b with st := .busy }
      let repeats := ∃ q msg, b.stored = some (q, msg) ∧ q.toNat = b.head 4 2
      (b.crcOk = false → s.Turns (.mbAccept l) l (z.respondUnstored m stsCrc)) ∧
      (∀ q msg, b.crcOk = true → b.stored = some (q, msg) → q.toNat = b.head 4 2 →
        s.Turns (.mbAccept l) l (z.onMb m fun b => { b with cmd := none, resp := some msg })) ∧
      (∀ st, b.crcOk = true → ¬ repeats → headerStatus b = some st → s.Turns (.mbAccept l) l (z.respond m st [])) ∧
      (∀ st, b.crcOk = true → ¬ repeats → headerStatus b = none → x.gateStatus op = some st →
        s.Turns (.mbAccept l) l (z.respond m st [])) ∧
      (b.crcOk = true → ¬ repeats → headerStatus b = none → x.gateStatus op = none →
        s.Turns (.mbAccept l) l (z.onMb m fun b => { b with cmd := some (BitVec.ofNat 16 op), resp := none }))) ∧
    (∀ msg, (x.mb m).st = .busy → (x.mb m).resp = some msg →
      let w := each (x.hp.coefJobs.filter fun j => j.mb = m) (fun j y => y.onSlot j.slot fun k =>
        { k with coef := putWords k.coef (j.first + j.done) j.rest }) x
      let w := { w with hp := { w.hp with coefJobs := w.hp.coefJobs.filter fun j => !(j.mb = m) } }
      ((x.mb m).discard = false → s.Turns (.mbDone l m) l
        (let z := w.onMb m fun b => { b with st := .done, resp := none, outBuf := memWriteN b.outBuf 0 msg }
         (if m.val < 4 then { z with hp := { z.hp with irqStatus := z.hp.irqStatus ||| BitVec.ofNat 32 (2 ^ m.val) } }
          else z).event (168 + m.val) (fieldAt msg 8 2))) ∧
      ((x.mb m).discard = true → s.Turns (.mbDone l m) l
        ((w.onMb m fun b => { b with st := .idle, resp := none, discard := false }).bye m)))

/-- A response has the header of R49 and waits to be written. The response that Gamar works out for a mailbox with a
negotiated version is opcode, version, sequence, length, status and flags (NOTICE where notices wait at this moment:
the model's choice of the moment, log 72) in little-endian halfwords, the CRC-32C of those twelve bytes and the
payload, and the payload; it waits in the mailbox and is stored with its sequence, the command is no longer waiting,
and no other mailbox and nothing outside the mailboxes changes. (R6, R49, R51, R60) -/
def Obligations.ResponseMessage : Prop :=
  ∀ (x : Lane) (m : MbId) (status : Nat) (body : Bytes) (v : W16), (x.mb m).nego = some v →
    let b := x.mb m
    let h := leBytes 2 (b.head 0 2) ++ leBytes 2 v.toNat ++ leBytes 2 (b.head 4 2) ++ leBytes 2 body.length ++
      leBytes 2 status ++ leBytes 2 (if b.notices = [] then 0 else 1)
    let msg := h ++ leBytes 4 (crc32c (h ++ body)) ++ body
    let y := x.respond m status body
    y.mb m = { b with cmd := none, resp := some msg, stored := some (BitVec.ofNat 16 (b.head 4 2), msg) } ∧
      (∀ k, k ≠ m → y.mb k = x.mb k) ∧ { y with hp := { y.hp with mbs := x.hp.mbs } } = x ∧
      msg.length = 16 + body.length

/-- Discovery, test and time commands. Each of HELLO, BYE, PING, VERSIONS_GET, ALMANAC_READ, INFO_GET, SERIAL_GET,
SELFTEST_STATUS, SELFTEST_RUN, SELFTEST_ABORT, TIME_GET and ANGLE_GET completes. When Gamar executes them: HELLO with
a well-formed offer releases what the mailbox held and negotiates the highest major that both sides have with the
lower minor, or answers VERSION and leaves the mailbox unnegotiated where there is none, and answers RANGE to any
other offer (a major offered several times counts with its largest minor: the model's choice, log 72); BYE answers OK
under the version that it then ends, and unnegotiates (log 31); PING returns its payload; VERSIONS_GET the versions,
one row for each interface (log 31); ALMANAC_READ the bytes asked for, or RANGE beyond the image or beyond 1,008;
INFO_GET and SERIAL_GET the lane's information and identifier. Nothing else changes. When Gamar executes them:
SELFTEST_STATUS reports the seal state and the untested mask; SELFTEST_RUN of slices that exist, in LANE_SAFE outside
SHUTDOWN with no run in progress, begins a service run, is RANGE for an empty mask or a slice that does not exist and
STATE otherwise (in SHUTDOWN and during a run this is the model's reading, log 26); SELFTEST_ABORT wakes the run in
progress, STATE without one; TIME_GET reports both times and the sync state; ANGLE_GET the mechanical accumulator of
an axis of the lane, RANGE for another lane's. Nothing else changes. (R53, R54, R55, R56, R70, R72, R112, R114, R391,
R395, R397, R398) -/
def Obligations.InformationCommands : Prop :=
  (∀ (s : State) (l : LaneId) (x : Lane) (m : MbId) (p : Bytes), s.lane l = x → (x.mb m).payload = p →
     (x.grants m 0x001 →
       let n := fieldAt p 0 1
       let ok := 1 ≤ n ∧ n ≤ 8 ∧ p.length = 2 + 2 * n ∧ fieldAt p 1 1 = 0
       (∀ v, ok → choose (offered p) = some v → s.Turns (.hello l m) l
         (((x.bye m).onMb m fun b => { b with nego := some (BitVec.ofNat 16 v) }).respond m stsOk ((x.bye m).helloBody v))) ∧
       (ok → choose (offered p) = none → s.Turns (.hello l m) l ((x.bye m).respond m stsVersion ((x.bye m).helloBody 0))) ∧
       (¬ ok → s.Turns (.hello l m) l (x.respond m stsRange []))) ∧
     (x.grants m 0x002 → s.Turns (.bye l m) l (((x.respond m stsOk []).releaseSession m).onMb m fun b =>
       { b with nego := none, notices := [], dropped := false })) ∧
     (x.grants m 0x003 → s.Turns (.ping l m) l (x.respond m stsOk p)) ∧
     (x.grants m 0x004 → s.Turns (.versionsGet l m) l (x.respond m stsOk
       ((List.range 6).flatMap fun c => leBytes 1 c ++ leBytes 2 (ifaceMin c) ++ leBytes 2 (ifaceMax c)))) ∧
     (x.grants m 0x101 →
       let off := fieldAt p 0 4
       let n := fieldAt p 4 2
       (1 ≤ n → n ≤ 1008 → off + n ≤ x.almBytes.length →
         s.Turns (.almanacRead l m) l (x.respond m stsOk (slice x.almBytes off n))) ∧
       (n = 0 ∨ 1008 < n ∨ x.almBytes.length < off + n → s.Turns (.almanacRead l m) l (x.respond m stsRange []))) ∧
     (x.grants m 0x102 → s.Turns (.infoGet l m) l (x.respond m stsOk
       (leBytes 1 x.idx.val ++ leBytes 1 (modeCode x.sys.mode) ++ leBytes 1 (lstateCode x.sys.lstate) ++ [0] ++
         leBytes 2 Config.gamarVersion.toNat ++ [0, 0] ++ leBytes 4 x.fl.powerCycles.toNat ++
         leBytes 8 (x.tm.loc.toNat / 1000)))) ∧
     (x.grants m 0x103 → s.Turns (.serialGet l m) l (x.respond m stsOk
       ((List.range 16).map fun i => Config.uniqueId x.idx i)))) ∧
  (∀ (s : State) (l : LaneId) (x : Lane) (m : MbId) (p : Bytes), s.lane l = x → (x.mb m).payload = p →
     (x.grants m 0x801 → s.Turns (.selftestStatus l m) l
       (x.respond m stsOk (leBytes 1 (sealCode x.tst.sealState) ++ [0, 0, 0] ++ leBytes 4 x.tst.untested.toNat))) ∧
     (x.grants m 0x802 →
       let mask := fieldAt p 0 4
       let ok := x.sys.lstate = .safe ∧ x.sys.mode ≠ .shutdown ∧ x.tst.run = none
       (mask ≠ 0 → mask < 2 ^ 24 → ok → s.Turns (.selftestRun l m) l ((x.beginRun .service mask).respond m stsOk [])) ∧
       (mask ≠ 0 → mask < 2 ^ 24 → ¬ ok → s.Turns (.selftestRun l m) l (x.respond m stsState [])) ∧
       (mask = 0 ∨ 2 ^ 24 ≤ mask → s.Turns (.selftestRun l m) l (x.respond m stsRange []))) ∧
     (x.grants m 0x803 →
       (x.tst.run.isSome = true → s.Turns (.selftestAbort l m) l ((x.wakeRun).respond m stsOk [])) ∧
       (x.tst.run = none → s.Turns (.selftestAbort l m) l (x.respond m stsState []))) ∧
     (x.grants m 0x901 → s.Turns (.timeGet l m) l
       (x.respond m stsOk (leBytes 8 x.tm.glob.toNat ++ leBytes 8 x.tm.loc.toNat ++ leBytes 1 (syncCode x.tm.sync)))) ∧
     (x.grants m 0x902 →
       (∀ nn : AxisId, fieldAt p 0 1 = 12 * x.idx.val + nn.val → s.Turns (.angleGet l m) l
         (x.respond m stsOk (leBytes 4 (x.axis nn).acc.mech ++ leBytes 4 ((x.axis nn).acc.mech / 2 ^ 32)))) ∧
       (fieldAt p 0 1 / 12 ≠ x.idx.val → s.Turns (.angleGet l m) l (x.respond m stsRange []))))

/-- SESSION_OPEN, RECORD_READ, RECORD_WRITE, COMMIT, DISCARD and SESSION_CLOSE. Each of SESSION_OPEN, RECORD_READ,
RECORD_WRITE, COMMIT, DISCARD and SESSION_CLOSE completes. When Gamar executes them: SESSION_OPEN with a password that
is accepted opens a session held by the mailbox, with a handle that nothing constrains; a wrong one is answered DENIED
and locks further attempts, and during the lockout every attempt with no session held is DENIED; a session held
elsewhere is BUSY and one held already is STATE, during a lockout too (that these come first there is the model's
choice, log 81), and a password that is not well formed is RANGE. RECORD_READ returns the stored part with salt and
hash hidden, or up to 1,008 bytes of an image from the offset; an instance that does not exist is RANGE, nothing
committed is STATE (before the part and the offset are judged: the model's choice, log 72), a part or an offset that
does not exist is RANGE. RECORD_WRITE of a well-formed part stages it; a part that is not well formed is RANGE, and
one for which the set has no room is STATE (log 28). COMMIT that passes every check is being written; another is
answered with the status of the first check that fails (in the order of log 28). DISCARD empties the staged set.
SESSION_CLOSE of a session with nothing staged closes it, and is STATE otherwise. (R74, R79, R81, R82, R84, R85, R86,
R543) -/
def Obligations.SessionCommands : Prop :=
  ∀ (s : State) (l : LaneId) (x : Lane) (m : MbId) (p : Bytes), s.lane l = x → (x.mb m).payload = p →
    (x.grants m 0x201 →
      (∀ pw, reqPassword p = some pw → x.ses.holder = none →
        (x.fl.locked = false → (x.fl.sealed = false ∨ x.passwordFits pw = true) → ∃ h : Nat, h < 65536 ∧
          s.Turns (.sessionOpen l m) l
            (let opened : Session := { st := .opened, holder := some m, items := [], job := none, handle := BitVec.ofNat 16 h }
             ({ x with fl := { x.fl with wrong := 0 }, free := x.free + 1, ses := opened }).respond m stsOk (leBytes 2 h))) ∧
        (x.fl.locked = false → x.fl.sealed = true → x.passwordFits pw = false → s.Turns (.sessionOpen l m) l
          (({ x with fl := { x.fl with wrong := x.fl.wrong + 1, locked := true } }).respond m stsDenied [])) ∧
        (x.fl.locked = true → s.Turns (.sessionOpen l m) l (x.respond m stsDenied []))) ∧
      (∀ pw h, reqPassword p = some pw → x.ses.holder = some h →
        s.Turns (.sessionOpen l m) l (x.respond m (if h = m then stsState else stsBusy) [])) ∧
      (reqPassword p = none → s.Turns (.sessionOpen l m) l (x.respond m stsRange []))) ∧
    (x.grants m 0x202 →
      let t := fieldAt p 0 1
      let i := fieldAt p 2 2
      let part := fieldAt p 1 1
      let off := fieldAt p 4 4
      (recInstanceOk x.idx t i = false → s.Turns (.recordRead l m) l (x.respond m stsRange [])) ∧
      (recInstanceOk x.idx t i = true → t ≠ 11 →
        (findRec x.fl.recs t i = none → s.Turns (.recordRead l m) l (x.respond m stsState [])) ∧
        (∀ r, findRec x.fl.recs t i = some r →
          (part < r.parts.length → off = 0 →
            s.Turns (.recordRead l m) l (x.respond m stsOk (hideSecret t (r.parts.getD part [])))) ∧
          (r.parts.length ≤ part ∨ off ≠ 0 → s.Turns (.recordRead l m) l (x.respond m stsRange [])))) ∧
      (recInstanceOk x.idx t i = true → t = 11 →
        let image := x.fl.images.find? fun y => y.1 = i
        (image = none → s.Turns (.recordRead l m) l (x.respond m stsState [])) ∧
        (∀ y, image = some y →
          (part = 0 → off % 4 = 0 → off < y.2.length →
            s.Turns (.recordRead l m) l (x.respond m stsOk ((y.2.drop off).take 1008))) ∧
          (part ≠ 0 ∨ off % 4 ≠ 0 ∨ y.2.length ≤ off → s.Turns (.recordRead l m) l (x.respond m stsRange []))))) ∧
    (x.grants m 0x203 →
      let t := fieldAt p 0 1
      let i := fieldAt p 2 2
      let r := p.drop 4
      let k := fieldAt r 6 1
      (fieldAt p 1 1 = 0 → x.writeOk t i r = true → x.ses.room (t, i) = true → s.Turns (.recordWrite l m) l
        (let items := (x.ses.items.filter fun y => !samePart t i k y) ++ [.part t i k (fieldAt r 7 1) r]
         ({ x with ses := { x.ses with st := .staged, items := items } }).respond m stsOk [])) ∧
      (fieldAt p 1 1 ≠ 0 ∨ x.writeOk t i r = false → s.Turns (.recordWrite l m) l (x.respond m stsRange [])) ∧
      (fieldAt p 1 1 = 0 → x.writeOk t i r = true → x.ses.room (t, i) = false →
        s.Turns (.recordWrite l m) l (x.respond m stsState []))) ∧
    (x.grants m 0x204 →
      (x.commitStatus = none → s.Turns (.commit l m) l { x with ses := { x.ses with job := some m } }) ∧
      (∀ st, x.commitStatus = some st → s.Turns (.commit l m) l (x.respond m st []))) ∧
    (x.grants m 0x205 → s.Turns (.discard l m) l
      (({ x with ses := { x.ses with st := .opened, items := [] } }).respond m stsOk [])) ∧
    (x.grants m 0x206 →
      (x.ses.st ≠ .staged → s.Turns (.sessionClose l m) l
        (({ x with ses := { x.ses with st := .closed, holder := none, items := [], job := none } }).respond m stsOk [])) ∧
      (x.ses.st = .staged → s.Turns (.sessionClose l m) l (x.respond m stsState [])))

/-- CONFIG_SEAL, PASSWORD_CHANGE, WORKSHOP_ENTER, WORKSHOP_LEAVE and the Parish Book commands. Each of COMMIT_DONE,
CONFIG_SEAL, PASSWORD_CHANGE, WORKSHOP_ENTER, WORKSHOP_LEAVE, LOG_READ, LOG_STATUS and LOG_ARCHIVE completes. When
Gamar executes them: CONFIG_SEAL of an unsealed part with room in the book, with no session held or one of the same
mailbox that has staged nothing, seals it, commits a security record with a fresh salt and appends one entry, STATE
once sealed, with the book full, or with another session held or anything staged; PASSWORD_CHANGE stages a new
security record; WORKSHOP_ENTER from RUN or DEGRADED with every axis resting enters WORKSHOP and keeps the mode
beneath it, otherwise STATE or REFUSED; WORKSHOP_LEAVE returns to that mode and ends EXTEST; LOG_READ of 1 to 15
entries answers them as they stand, once the chain is checked, RANGE for another count; LOG_STATUS count, first and
last sequence and chain; LOG_ARCHIVE with the right password folds the book into one entry, STATE for an unsealed
part, in SHUTDOWN or of a book already folded, BUSY while a commit is being written or another mailbox reads, seals or
commits, DENIED with a wrong password, which begins the lockout, and during it (the order of these answers is the
model's choice, log 81; BUSY while another mailbox has the book in hand is its reading, log 70; what the entry carries
as LAST, first and record type, and the archive count, are the model's choice, log 29). A password that is not well
formed is RANGE. COMMIT_DONE outside the flash controller's slice applies the staged set, with the onset of any active
trip source that a new mask selects (R242; the model's reading, log 30), empties it and answers the last sequence
number. (R65, R82, R83, R84, R87, R88, R90, R95, R242, R527) -/
def Obligations.PasswordAndWorkshopCommands : Prop :=
  ∀ (s : State) (l : LaneId) (x : Lane) (m : MbId) (p : Bytes), s.lane l = x → (x.mb m).payload = p →
    (x.grants m 0x207 → ∀ pw, reqPassword p = some pw → x.fl.sealed = false →
      (x.ses.holder = none ∨ x.ses.holder = some m ∧ x.ses.st ≠ .staged) → x.fl.book.length < 4096 →
      let sq := x.fl.nextSeq.toNat
      let r : Rec := { rtype := 12, inst := 0, parts := [sealPart sq (x.securityRec pw)] }
      let i : BookItem :=
        { op := 3, rtype := 12, inst := 0, oldCrc := oldRecCrc x.fl.recs 12 0,
          newCrc := r.crc, last := true, first := sq, foldFirst := 0, foldLast := 0 }
      let e := x.bookEntry m sq (lastChain x.fl.book) i
      let fl := { x.fl with book := x.fl.book ++ [e], nextSeq := x.fl.nextSeq + 1, recs := putRec x.fl.recs r, sealed := true }
      s.Turns (.configSeal l m) l (({ x with free := x.free + 1, fl := fl }).respond m stsOk [])) ∧
    (x.grants m 0x207 → ∀ pw, reqPassword p = some pw →
      x.fl.sealed = true ∨ 4096 ≤ x.fl.book.length ∨ (∃ h, x.ses.holder = some h ∧ (h ≠ m ∨ x.ses.st = .staged)) →
      s.Turns (.configSeal l m) l (x.respond m stsState [])) ∧
    (reqPassword p = none →
      (x.grants m 0x207 → s.Turns (.configSeal l m) l (x.respond m stsRange [])) ∧
      (x.grants m 0x208 → s.Turns (.passwordChange l m) l (x.respond m stsRange [])) ∧
      (x.grants m 0xA03 → s.Turns (.logArchive l m) l (x.respond m stsRange []))) ∧
    (x.grants m 0x208 → ∀ pw, reqPassword p = some pw → x.ses.room (12, 0) = true →
      let items := (x.ses.items.filter fun y => !samePart 12 0 0 y) ++ [.part 12 0 0 1 (x.securityRec pw)]
      s.Turns (.passwordChange l m) l
        (({ x with free := x.free + 1, ses := { x.ses with st := .staged, items := items } }).respond m stsOk [])) ∧
    (x.grants m 0x209 →
      ((x.sys.mode = .run ∨ x.sys.mode = .degraded) → (∀ nn, x.restful nn = true) → s.Turns (.workshopEnter l m) l
        ((((({ x with sys := { x.sys with under := x.sys.mode, mode := .workshop } }).notify (.deviceMode 5)).irq 0x20)).respond
          m stsOk [])) ∧
      ((x.sys.mode = .run ∨ x.sys.mode = .degraded) → (∃ nn, x.restful nn = false) →
        s.Turns (.workshopEnter l m) l (x.respond m stsRefused [])) ∧
      (x.sys.mode ≠ .run → x.sys.mode ≠ .degraded → s.Turns (.workshopEnter l m) l (x.respond m stsState []))) ∧
    (x.grants m 0x20A →
      (x.sys.mode = .workshop → x.sys.under ≠ .workshop → s.Turns (.workshopLeave l m) l
        ((((({ x with
          tap := { x.tap with pins := false }
          sys := { x.sys with mode := x.sys.under } }).notify (.deviceMode (modeCode x.sys.under))).irq 0x20)).respond m stsOk [])) ∧
      (x.sys.mode ≠ .workshop → s.Turns (.workshopLeave l m) l (x.respond m stsState []))) ∧
    (x.grants m 0xA01 → ∀ n, n = fieldAt p 2 1 → 1 ≤ n → n ≤ 15 →
      s.Turns (.logRead l m) l ((if chainOk (bookStart x.fl.book) x.fl.book then x else x.fault 11 0xFF 0 0 0).respond m stsOk
        ((x.fl.book.drop (fieldAt p 0 2)).take n).flatten)) ∧
    (x.grants m 0xA01 → fieldAt p 2 1 = 0 ∨ 15 < fieldAt p 2 1 →
      s.Turns (.logRead l m) l
        ((if chainOk (bookStart x.fl.book) x.fl.book then x else x.fault 11 0xFF 0 0 0).respond m stsRange [])) ∧
    (x.grants m 0xA02 → s.Turns (.logStatus l m) l (x.respond m stsOk
      (leBytes 2 x.fl.book.length ++ leBytes 2 0 ++ leBytes 4 (fieldAt (x.fl.book.headD []) 0 4) ++
        leBytes 4 (fieldAt (x.fl.book.getLastD []) 0 4) ++ leBytes 4 (lastChain x.fl.book)))) ∧
    (x.grants m 0xA03 → ∀ pw, reqPassword p = some pw → x.fl.sealed = true → x.sys.mode ≠ .shutdown →
      onlyArchive x.fl.book = false → x.ses.job = none → x.bookHeld m = false → x.fl.locked = false → x.passwordFits pw = true →
      let sq := x.fl.nextSeq.toNat
      let i : BookItem :=
        { op := 4, rtype := 0, inst := archiveCount x.fl.book, oldCrc := lastChain x.fl.book, newCrc := crc32c x.fl.book.flatten,
          last := true, first := sq, foldFirst := fieldAt (x.fl.book.headD []) 0 4,
          foldLast := fieldAt (x.fl.book.getLastD []) 0 4 }
      let e := ({ x with fl := { x.fl with wrong := 0 } }).bookEntry m sq (lastChain x.fl.book) i
      s.Turns (.logArchive l m) l
        (({ x with fl := { x.fl with wrong := 0, book := [e], nextSeq := x.fl.nextSeq + 1 } }).respond m stsOk (leBytes 4 sq))) ∧
    (x.grants m 0xA03 → ∀ pw, reqPassword p = some pw →
      let open' := x.fl.sealed = true ∧ x.sys.mode ≠ .shutdown ∧ onlyArchive x.fl.book = false
      (¬ open' → s.Turns (.logArchive l m) l (x.respond m stsState [])) ∧
      (open' → x.ses.job ≠ none ∨ x.bookHeld m = true → s.Turns (.logArchive l m) l (x.respond m stsBusy [])) ∧
      (open' → x.ses.job = none → x.bookHeld m = false → x.fl.locked = true →
        s.Turns (.logArchive l m) l (x.respond m stsDenied [])) ∧
      (open' → x.ses.job = none → x.bookHeld m = false → x.fl.locked = false → x.passwordFits pw = false →
        s.Turns (.logArchive l m) l
          (({ x with fl := { x.fl with wrong := x.fl.wrong + 1, locked := true } }).respond m stsDenied []))) ∧
    (x.gamarRuns = true → x.inSlice 19 = false → x.ses.job = some m →
      let z := x.withTrips fun w => each x.ses.keys (fun k y => y.applyItem x k) (w.commitFlash m)
      s.Turns (.commitDone l) l (({ z with ses := { z.ses with st := .opened, items := [], job := none } }).respond m stsOk
        (leBytes 4 (z.fl.nextSeq - 1).toNat)))

/-- GRAPH_LOAD, GRAPH_START, GRAPH_STOP, GRAPH_UNLOAD, GRAPH_STATUS, COEF_WRITE and COEF_READ. Each of GRAPH_LOAD,
GRAPH_START, GRAPH_STOP, GRAPH_UNLOAD, GRAPH_STATUS, COEF_WRITE and COEF_READ completes. When Gamar executes them on a
slot that exists: a first or continuing chunk of an image, of 4 to 996 bytes and a multiple of 4, is staged, and once
whole the image is checked and dropped from the set with the status of a failing check; GRAPH_START of a STOPPED or
HALTED slot that can be reserved in LANE_ACTIVE makes it RUNNING with counters and flags 0, and is STATE otherwise;
GRAPH_STOP of a RUNNING slot with a run in flight makes it STOPPING and its answer waits, with none makes it STOPPED,
of a STOPPING one its answer waits as well (the model's choice, log 72), of an EMPTY one is STATE and of any other at
rest OK; GRAPH_UNLOAD of a slot at rest stages the removal; GRAPH_STATUS reports state, flags and counters; COEF_WRITE
of words outside the gather lists is answered OK with its words waiting to be written, the first of them at the word
it names; COEF_READ that a COEF_WRITE with words left to write in its range overtakes returns the words after that
write has ended, with TORN; any other returns the words as they stand, with OK. (R57, R143, R144, R145, R146, R152,
R155, R157, R222) -/
def Obligations.GraphCommands : Prop :=
  ∀ (s : State) (l : LaneId) (x : Lane) (m : MbId) (p : Bytes) (k : Fin 64), s.lane l = x → (x.mb m).payload = p →
    reqSlot p = some k →
    (x.grants m 0x301 →
      let off := fieldAt p 4 4
      let total := fieldAt p 8 4
      let n := (p.drop 12).length
      ∀ d, fieldAt p 1 3 = 0 → 4 ≤ n → n ≤ 996 → n % 4 = 0 → total % 4 = 0 → 64 ≤ total → total ≤ 1048576 → x.ses.chunkBase k.val off total = some d →
        (d ++ p.drop 12).length ≤ total → x.ses.room (11, k.val) = true →
        let data := d ++ p.drop 12
        let z := { x with ses := x.ses.stage (sameImage k.val) (.image k.val total data) }
        (data.length < total → s.Turns (.graphLoad l m) l (z.respond m stsOk [])) ∧
        (data.length = total → z.imageStatus data = none → s.Turns (.graphLoad l m) l (z.respond m stsOk [])) ∧
        (∀ st, data.length = total → z.imageStatus data = some st →
          s.Turns (.graphLoad l m) l (({ z with ses := z.ses.dropImage k.val }).respond m st []))) ∧
    (x.grants m 0x302 →
      let ok := ((x.slot k).st = .stopped ∨ (x.slot k).st = .halted) ∧ x.sys.lstate = .active ∧ x.canReserve k = true
      (ok → s.Turns (.graphStart l m) l ((x.onSlot k fun g =>
        { g with st := .running, runs := 0, lates := 0, fLate := false, fOverrun := false }).respond m stsOk [])) ∧
      (¬ ok → s.Turns (.graphStart l m) l (x.respond m stsState []))) ∧
    (x.grants m 0x303 →
      ((x.slot k).st = .running → (x.slot k).run.isSome = true → s.Turns (.graphStop l m) l
        (x.onSlot k fun g => { g with
          st := .stopping, pendTrig := none, pendLate := false, release := none, stopper := some m })) ∧
      ((x.slot k).st = .running → (x.slot k).run = none → s.Turns (.graphStop l m) l
        ((x.onSlot k fun g => { g with st := .stopped, pendTrig := none, pendLate := false, release := none }).respond m stsOk [])) ∧
      ((x.slot k).st = .stopping → s.Turns (.graphStop l m) l (x.onSlot k fun g => { g with stopper := some m })) ∧
      ((x.slot k).st ∈ [GState.stopped, .halted, .excluded] → s.Turns (.graphStop l m) l (x.respond m stsOk [])) ∧
      ((x.slot k).st = .empty → s.Turns (.graphStop l m) l (x.respond m stsState []))) ∧
    (x.grants m 0x304 →
      ((x.slot k).st = .stopped ∨ (x.slot k).st = .halted ∨ (x.slot k).st = .excluded → x.ses.room (11, k.val) = true →
        s.Turns (.graphUnload l m) l
          (({ x with ses := x.ses.stage (sameImage k.val) (.unload k.val) }).respond m stsOk [])) ∧
      ((x.slot k).st = .empty ∨ (x.slot k).st = .running ∨ (x.slot k).st = .stopping →
        s.Turns (.graphUnload l m) l (x.respond m stsState []))) ∧
    (x.grants m 0x305 → s.Turns (.graphStatus l m) l (x.respond m stsOk
      (leBytes 1 (gstateCode (x.slot k).st) ++ leBytes 1 0 ++ leBytes 2 (x.slot k).flags ++ leBytes 4 (x.slot k).runs.toNat ++
        leBytes 4 (x.slot k).lates.toNat))) ∧
    (x.grants m 0x306 →
      let word := fieldAt p 2 2
      let n := fieldAt p 4 2
      fieldAt p 1 1 = 0 → fieldAt p 6 6 = 0 → 1 ≤ n → n ≤ 249 → p.length = 12 + 4 * n → word + n ≤ (x.slot k).coef.length →
        (x.slot k).touchesGather word n = false →
        let job : CoefJob := {
          mb := m, slot := k, first := word, done := 0,
          rest := (chunks 4 n (p.drop 12)).map fun b => BitVec.ofNat 32 (ofLe b) }
        s.Turns (.coefWrite l m) l (({ x with hp := { x.hp with coefJobs := x.hp.coefJobs ++ [job] } }).respond m stsOk [])) ∧
    (x.grants m 0x307 →
      let word := fieldAt p 2 2
      let n := fieldAt p 4 2
      let hit (during : Bool) (j : CoefJob) : Bool := during && j.slot = k && j.first + j.done < word + n && word < j.first + j.done + j.rest.length
      fieldAt p 1 1 = 0 → 1 ≤ n → n ≤ 252 → word + n ≤ (x.slot k).coef.length →
        ∀ during, s.Turns (.coefRead l m during) l ((x.coefFinish (hit during)).respond m
          (if x.hp.coefJobs.any (hit during) then stsTorn else stsOk)
          (((((x.coefFinish (hit during)).slot k).coef.drop word).take n).flatMap fun w => leBytes 4 w.toNat)))

/-- AXIS_STATUS, AXIS_ENABLE, AXIS_DISABLE, AXIS_HANDOVER, GRANARY_READ and the fault commands. Each of AXIS_STATUS,
AXIS_ENABLE, AXIS_DISABLE, AXIS_HANDOVER, GRANARY_READ, FAULT_READ, FAULT_CLEAR and HEALTH_READ completes. When Gamar
executes them on an axis of its lane: AXIS_STATUS reports role, state, configured safe state (OPEN of an axis not in
use), health and fault source; AXIS_ENABLE in LANE_ACTIVE of a used axis that nothing refuses enables it, one that
something refuses, the hold after a class A report too (the model's reading, log 27), goes to its safe state and is
answered REFUSED; AXIS_DISABLE puts it in its safe state; AXIS_HANDOVER of a DUPLEX_ACTIVE member whose standby is
READY arms the planned handover, leaves one whose FINAL is posted, and is REFUSED where the standby is not READY and
STATE for another axis; an axis whose record a commit being written holds is BUSY for these three; GRANARY_READ of a
standby returns its newest record, TORN where a slot is torn or a record is being committed, and nothing where there
is none (the model's reading, log 27), STATE of another axis; an axis of another lane is RANGE. FAULT_READ returns the
record, HEALTH_READ the 36 health words. FAULT_CLEAR is REFUSED while an unmasked line or a latched trip's source
stands; else it clears record, overflow, seen bits and bit 0 of the lines, reloads FC_RAISE, raises event 210,
releases the latched trips and the supplies switched off, and starts a rejoin where one may; with source 0 standing it
may be REFUSED instead (free: logs 35, 81). Nothing else changes. An axis enters its safe state with every command 0,
with its pattern as safe_state says (all off as a standby, AUTO deciding by the bridge fault), each gate as the
pattern wants it unless a latch or the dead time holds it off, and no other axis changes; one already there is left
alone. AUTO's short opens when a bridge fault latches. An enable of a SIMPLEX axis that does not drive enables its
outputs, with step index, mask and carries at their initial values and its switches off, and starts its supervisor.
(R56, R58, R59, R61, R244, R267, R268, R269, R350, R354, R366, R374) -/
def Obligations.AxisCommandsAnswer : Prop :=
  ∀ (s : State) (l : LaneId) (x : Lane) (m : MbId) (p : Bytes), s.lane l = x → (x.mb m).payload = p →
    (∀ nn : AxisId, fieldAt p 0 1 = 12 * x.idx.val + nn.val →
      (x.grants m 0x401 → s.Turns (.axisStatus l m) l (x.respond m stsOk
        (leBytes 1 (roleCode (x.axis nn).role) ++ leBytes 1 (x.axisState nn) ++
          leBytes 1 (if x.axisUsed nn then safeState (x.axisRec nn) % 16 else 0) ++
          leBytes 1 (x.axis nn).red.health.toNat ++ leBytes 1 (x.axis nn).faultSrc.toNat ++ [0, 0, 0]))) ∧
      (x.grants m 0x402 → x.sys.lstate = .active → x.axisUsed nn = true → (x.axis nn).role ≠ .unused →
        x.jobHolds 2 (x.dev nn) = false →
        (x.canEnable nn = true → (x.axis nn).classA = false →
          s.Turns (.axisEnable l m) l ((x.enableAxis nn).respond m stsOk [])) ∧
        (x.canEnable nn = false ∨ (x.axis nn).classA = true →
          s.Turns (.axisEnable l m) l ((x.enterSafe nn).respond m stsRefused []))) ∧
      (x.grants m 0x402 → x.sys.lstate = .active → x.axisUsed nn = true → (x.axis nn).role ≠ .unused →
        x.jobHolds 2 (x.dev nn) = true → s.Turns (.axisEnable l m) l (x.respond m stsBusy [])) ∧
      (x.grants m 0x403 → x.jobHolds 2 (x.dev nn) = true → s.Turns (.axisDisable l m) l (x.respond m stsBusy [])) ∧
      (x.grants m 0x404 → x.sys.lstate = .active → (x.axis nn).role = .duplexActive → x.jobHolds 2 (x.dev nn) = true →
        s.Turns (.axisHandover l m) l (x.respond m stsBusy [])) ∧
      (x.grants m 0x402 → x.sys.lstate ≠ .active ∨ x.axisUsed nn = false ∨ (x.axis nn).role = .unused →
        s.Turns (.axisEnable l m) l (x.respond m stsState [])) ∧
      (x.grants m 0x403 → x.jobHolds 2 (x.dev nn) = false →
        s.Turns (.axisDisable l m) l ((x.enterSafe nn).respond m stsOk [])) ∧
      (x.grants m 0x404 → x.sys.lstate = .active → (x.axis nn).role = .duplexActive → x.jobHolds 2 (x.dev nn) = false →
        (x.standbyReady nn = true → (∀ n, (x.axis nn).red.planned ≠ .posted n) → s.Turns (.axisHandover l m) l
          ((x.onAxis nn fun a => { a with red := { a.red with planned := .armed } }).respond m stsOk [])) ∧
        (x.standbyReady nn = true → ∀ n, (x.axis nn).red.planned = .posted n →
          s.Turns (.axisHandover l m) l (x.respond m stsOk [])) ∧
        (x.standbyReady nn = false → s.Turns (.axisHandover l m) l (x.respond m stsRefused []))) ∧
      (x.grants m 0x404 → x.sys.lstate ≠ .active ∨ (x.axis nn).role ≠ .duplexActive →
        s.Turns (.axisHandover l m) l (x.respond m stsState [])) ∧
      (x.grants m 0x405 → (x.axis nn).role = .duplexStandby → s.Turns (.granaryRead l m) l
        (x.respond m (if (x.axis nn).red.torn || (x.axis nn).red.commit.isSome then stsTorn else stsOk)
          (match x.newestRecord nn with | some r => r.2 | none => []))) ∧
      (x.grants m 0x405 → (x.axis nn).role ≠ .duplexStandby → s.Turns (.granaryRead l m) l (x.respond m stsState []))) ∧
    (fieldAt p 0 1 / 12 ≠ x.idx.val →
      (x.grants m 0x401 → s.Turns (.axisStatus l m) l (x.respond m stsRange [])) ∧
      (x.grants m 0x402 → s.Turns (.axisEnable l m) l (x.respond m stsRange [])) ∧
      (x.grants m 0x403 → s.Turns (.axisDisable l m) l (x.respond m stsRange [])) ∧
      (x.grants m 0x404 → s.Turns (.axisHandover l m) l (x.respond m stsRange [])) ∧
      (x.grants m 0x405 → s.Turns (.granaryRead l m) l (x.respond m stsRange []))) ∧
    (x.grants m 0x501 → s.Turns (.faultRead l m) l (x.respond m stsOk x.faultRead)) ∧
    (x.grants m 0x502 →
      let z := if bit x.fc.present 0 then { x with free := x.free + 1 } else x
      let w := { z with fc := { z.fc with present := bitPut z.fc.present 0 false } }
      let c := ({ z with
        fc := { w.fc with first := none, overflow := false, seen := 0, raiseBits := BitVec.ofNat 128 (raiseField x.laneRec) }
        ax := x.ax.map fun (a : Axis) => { a with faultSrc := 0xFF, classA := false }
        inp := { x.inp with pairs := x.inp.pairs.map fun (q : Pair) => { q with cleared := true } } } : Lane)
      let d := ((c.event 210 0).releaseTrips).fbClear
      let done := s.Turns (.faultClear l m) l ((if z.rejoinMay then d.startRejoin else d).respond m stsOk [])
      let refused := s.Turns (.faultClear l m) l (z.respond m stsRefused [])
      (w.blocking = false → x.tripBlocks = false → bit x.fc.present 0 = false → done) ∧
      (w.blocking = false → x.tripBlocks = false → bit x.fc.present 0 = true → done ∨ refused) ∧
      (w.blocking = true ∨ x.tripBlocks = true → refused)) ∧
    (x.grants m 0x503 → s.Turns (.healthRead l m) l (x.respond m stsOk
      (x.mem.health.toList.flatMap fun w => leBytes 4 w.toNat))) ∧
    (∀ nn : AxisId,
      let a := x.axis nn
      let y := x.enterSafe nn
      let b := y.axis nn
      (a.safe = true → y = x) ∧ (∀ k, k ≠ nn → y.axis k = x.axis k) ∧
      (a.safe = false → x.axisUsed nn = true →
        b.safe = true ∧ b.driving = false ∧ b.gate.cmd = 0 ∧ b.pwm.cmd = 0 ∧ b.red.takeover = none ∧
        b.pattern = (if a.role = .duplexStandby then .opened
          else match safeState (x.axisRec nn) % 16 with
            | 0 => .opened
            | 1 => .shortLow
            | 2 => .shortHigh
            | _ => if x.bridgeFault nn then .opened else .shortLow) ∧
        ∀ sw, vget b.gate.drive sw =
          if x.dieAlive (groupOf nn) && !bit x.gd.uvlo (groupOf nn) && !latchOff a.gate sw true && patternOn b.pattern sw &&
            !bit b.pwm.dead sw.val then .on
          else offDrive (tltoAlways (x.axisRec nn) nn) (bit x.gd.valid (groupOf nn)) (vget a.gate.drive sw)) ∧
      (x.patternHeld nn = true → a.patAuto = true → x.bridgeFault nn = true → ((x.autoOpen nn).axis nn).pattern = .opened)) ∧
    (∀ nn : AxisId,
      let y := x.enableOutputs nn
      let b := y.axis nn
      b.enabled = true ∧ b.driving = false ∧ b.safe = false ∧ b.pattern = .opened ∧ b.pwm.idx = 0 ∧
      b.pwm.carry = Vector.replicate 3 0 ∧ b.pwm.mask = BitVec.ofNat 6 (maskInit (x.axisRec nn)) ∧
      (∀ k, k ≠ nn → y.axis k = x.axis k) ∧
      ((x.axis nn).enabled = false ∨ (x.axis nn).safe = true →
        let z := ((x.fbReturn nn).endProfile nn).onAxis nn fun a => { a with sup := { a.sup with fails := 0 } }
        let w := (z.enableOutputs nn).supStart nn
        (z.axis nn).role = .simplex → x.enableAxis nn = if (w.axis nn).sup.drive = .failed then w.supHome nn else w))

/-- CONN_STATUS, CONN_OPEN, CONN_CLOSE, the stream commands, NOTICE_READ and PORT_STATUS. Each of NOTICE_READ,
PORT_STATUS, CONN_STATUS, CONN_OPEN, CONN_CLOSE, STREAM_START, STREAM_STOP, STREAM_STATUS and STREAM_RESUME completes.
When Gamar executes them: CONN_STATUS reports state, version and counters of the endpoint; CONN_OPEN of an unused
endpoint is STATE, of an open one OK without an effect, of a closed or failed one OK with the endpoint WAITING and
everything in it but the staging buffer as after reset, or VERSION, the endpoint CLOSED, where its peer has accepted
an offer below ver_min; CONN_CLOSE closes it; both are BUSY while the commit being written holds its record;
STREAM_START of a channel that may start begins a pass; STREAM_STOP of a RUNNING channel makes it STOPPING, of a
WAITING one stops it, of a HALTED one makes it STOPPED with event 176 + c; STREAM_STATUS reports state, cause and the
place of the halt; STREAM_RESUME of a HALTED channel that can be resumed makes it RUNNING; NOTICE_READ returns and
removes the queued notices; PORT_STATUS reports the port's newest state, UNKNOWN where it is too old, and its
counters. (R45, R56, R60, R413, R456, R460, R461, R487, R488, R491) -/
def Obligations.ConnectionAndStreamCommands : Prop :=
  ∀ (s : State) (l : LaneId) (x : Lane) (m : MbId) (p : Bytes), s.lane l = x → (x.mb m).payload = p →
    (∀ e : Fin 512, reqEndpoint p = some e →
      (x.grants m 0x602 → s.Turns (.connStatus l m) l (x.respond m stsOk (leBytes 1 (epCode (x.ep e).st) ++
        leBytes 1 (x.ep e).version.toNat ++ leBytes 2 0 ++ (x.ep e).counters.toList.flatMap fun v => leBytes 4 v.toNat))) ∧
      (x.grants m 0x603 →
        (x.jobHolds 8 e.val = false → s.Turns (.connOpen l m) l ((x.openConn e).1.respond m (x.openConn e).2 [])) ∧
        (connRole (x.connRec e) = 0 → x.openConn e = (x, stsState)) ∧
        (connRole (x.connRec e) ≠ 0 → (x.ep e).st ≠ .closed → (x.ep e).st ≠ .failed → x.openConn e = (x, stsOk)) ∧
        (connRole (x.connRec e) ≠ 0 → (x.ep e).st = .closed ∨ (x.ep e).st = .failed →
          (x.offerBad e = true → x.openConn e = (x.closeConn e, stsVersion)) ∧
          (x.offerBad e = false → x.openConn e =
            (x.onEp e fun q => { Endpoint.cold with st := .waiting, staging := q.staging, watch := x.tm.sync = .synced }, stsOk))) ∧
        ((x.closeConn e).ep e = { x.ep e with st := .closed } ∧ ∀ k, k ≠ e → (x.closeConn e).ep k = x.ep k) ∧
        (x.jobHolds 8 e.val = true → s.Turns (.connOpen l m) l (x.respond m stsBusy []))) ∧
      (x.grants m 0x604 →
        (x.jobHolds 8 e.val = false → s.Turns (.connClose l m) l ((x.closeConn e).respond m stsOk [])) ∧
        (x.jobHolds 8 e.val = true → s.Turns (.connClose l m) l (x.respond m stsBusy [])))) ∧
    (∀ c : Fin 16, reqChan p = some c →
      (x.jobHolds 10 c.val = false →
        (x.grants m 0x701 →
          (x.streamStartable c = true → s.Turns (.streamStart l m) l ((x.streamBegin c).respond m stsOk [])) ∧
          (x.streamStartable c = false → s.Turns (.streamStart l m) l (x.respond m stsState []))) ∧
        (x.grants m 0x702 →
          ((x.chan c).st = .running →
            s.Turns (.streamStop l m) l ((x.onStream c fun h => { h with st := .stopping }).respond m stsOk [])) ∧
          ((x.chan c).st = .waiting → s.Turns (.streamStop l m) l ((x.streamStopped c).respond m stsOk [])) ∧
          ((x.chan c).st = .halted → s.Turns (.streamStop l m) l
            (((x.onStream c fun h => { h with st := .stopped }).event (176 + c.val) 2).respond m stsOk []))) ∧
        (x.grants m 0x704 →
          ((x.chan c).st = .halted → (x.chan c).noResume = false → s.Turns (.streamResume l m) l
            ((x.onStream c fun h => { h with st := .running, cause := .none, retries := 0, latch := none }).respond m stsOk [])) ∧
          ((x.chan c).st ≠ .halted ∨ (x.chan c).noResume = true → s.Turns (.streamResume l m) l (x.respond m stsState [])))) ∧
      (x.grants m 0x703 → s.Turns (.streamStatus l m) l (x.respond m stsOk (leBytes 1 (ststateCode (x.chan c).st) ++
        leBytes 1 (stcauseCode (x.chan c).cause) ++ leBytes 2 0 ++ leBytes 4 (x.chan c).haltBeat ++
        leBytes 4 (x.chan c).haltAddr)))) ∧
    (x.grants m 0x504 → s.Turns (.noticeRead l m) l
      ((x.onMb m fun b => { b with notices := [], dropped := false }).respond m stsOk
        (leBytes 1 (x.mb m).notices.length ++ [0, 0, 0] ++ (match (x.mb m).notices with
          | [] => []
          | n :: ns => noticeBytes (x.mb m).dropped n ++ ns.flatMap (noticeBytes false))))) ∧
    (x.grants m 0x601 →
      (∀ k : Fin 32, fieldAt p 0 1 = k.val →
        let c := vget x.net.chan (fin (k.val / 16))
        s.Turns (.portStatus l m) l (x.respond m stsOk
          (leBytes 1 (portCode (if x.statusOld c then .unknown else vget c.ports (fin (k.val % 16)))) ++ [0, 0, 0] ++
            (vget c.counters (fin (k.val % 16))).flatMap fun v => leBytes 4 v.toNat))) ∧
      (32 ≤ fieldAt p 0 1 → s.Turns (.portStatus l m) l (x.respond m stsRange [])))

/-- Handover lines and lane links up and down. Each of HANDOVER_LINE_CHANGE, HANDOVER_LINE_FAILED, LINK_UP and
LINK_DOWN completes. In a lane that has power and is out of reset: a partner's line that reads 10 makes the partner
alive, and one that reads 01 after it was alive, or seen in LANE_ACTIVE, loses the partner, raises event 192 + k and
judges the mode anew; takeovers are then judged, and a rejoin that waits looks for its time source; a line that reads
00 or 11 reports source 99 + k and does not lose the partner. A link comes up where the lane-link domains of both ends
run; it then starts its sequences and its class 2 gate afresh, reports its source healthy and queues a time frame and
its descriptors; a link that goes down drops its traffic, counting it (log 39), and reports source 96 + k where it has
come up since the lane was first in LANE_ACTIVE. That the sequences start afresh is the model's choice (log 68).
Frames of the own index have no link. (R15, R16, R18, R29, R30, R91, R95, R99, R100, R352) -/
def Obligations.HandoverAndLinkState : Prop :=
  ∀ (s : State) (l k : LaneId) (x : Lane), s.lane l = x → k ≠ x.idx → x.awake = true →
    s.Turns (.handoverLineChange l k true) l (((x.lineHealed k).onLink k fun c =>
      { c with line := .r10, everAlive := true, alive := true }).seePartner k ((s.lane k).sys.lstate = .active)) ∧
    ((vget x.links k).alive = true ∨ (vget x.links k).active = true → s.Turns (.handoverLineChange l k false) l
      ((((((x.lineHealed k).onLink k fun c => { c with line := .r01, alive := false, active := false }).event
        (192 + k.val) 0).judgeMode).takeoverLane k).rejoinTry)) ∧
    ((vget x.links k).alive = false → (vget x.links k).active = false → s.Turns (.handoverLineChange l k false) l
      ((((x.lineHealed k).onLink k fun c => { c with line := .r01, alive := false, active := false }).takeoverLane k).rejoinTry)) ∧
    (∀ high : Bool, s.Turns (.handoverLineFailed l k high) l
      ((x.onLink k fun c => { c with line := if high then .r11 else .r00 }).fault (99 + k.val) 0xFF 0 0 0)) ∧
    (x.linkRuns = true → (s.lane k).linkRuns = true → (vget x.links k).up = false → s.Turns (.linkUp l k) l
      (((((x.onLink k fun c => { c with
          up := true
          everUp := c.everUp || x.sys.wasActive
          cameUp := true
          gotTime := false
          rxSeq := Vector.replicate 4 none
          txq := Vector.replicate 4 []
          heard := 0 }).healthy (96 + k.val)).sendLink k 2 (.time x.tm.glob)).sendDescriptors fun j => j = k))) ∧
    ((vget x.links k).up = true →
      let waiting := ((vget x.links k).txq.toList.map List.length).sum
      let z := x.onLink k fun c => { c with
        up := false, gotTime := false, txq := Vector.replicate 4 [], lostTx := c.lostTx + waiting }
      s.Turns (.linkDown l k) l (if (vget x.links k).everUp then z.fault (96 + k.val) 0xFF 0 0 0 else z).rejoinTry)

/-- Lane link frames sent and received. Each of LINK_FRAME_RECEIVE, LINK_FRAME_SEND and LINK_IDLE_FRAME completes. In
a lane whose lane-link domain runs: on a link that is up, LINK_FRAME_SEND puts the oldest frame of the first class
with traffic on the wire with the next sequence of its class, where classes 0 and 1 wait until the receiving lane has
accepted a class 2 frame; LINK_IDLE_FRAME puts an idle frame of class 3 (the model's reading, log 19) on the wire when
no class has traffic, also on a link whose incoming direction is down; a received frame with good CRC, an existing
class and the next sequence of its class, or the first of its class since the link came up (the model's choice, log
68), is accepted, kept as the last of its class and acted on, and brings a link that is down up first (log 39); any
other is discarded and counted. (R17, R19, R30, R95, R109, R112) -/
def Obligations.LinkFrames : Prop :=
  ∀ (s : State) (l k : LaneId) (x : Lane), s.lane l = x → k ≠ x.idx → x.linkRuns = true →
    let isUp := (vget x.links k).up = true
    let ready := (vget (s.lane k).links l).up && (vget (s.lane k).links l).gotTime
    let wired (c : Fin 4) (b : LinkPayload) (z : Link) : Link :=
      let q := vget z.txSeq c + 1
      { z with txSeq := vset z.txSeq c q, wire := some { cls := c.val, seq := q, crcOk := true, body := b } }
    (∀ (c : Fin 4) (b : LinkPayload) (bs : List LinkPayload), isUp → vget (vget x.links k).txq c = b :: bs →
      (∀ d : Fin 4, d < c → vget (vget x.links k).txq d = [] ∨ (d.val < 2 ∧ ready = false)) → (ready = true ∨ 2 ≤ c.val) →
      s.Turns (.linkFrameSend l k) l (x.onLink k fun z => wired c b { z with txq := vset z.txq c bs })) ∧
    ((∀ d : Fin 4, vget (vget x.links k).txq d = [] ∨ (d.val < 2 ∧ ready = false)) →
      s.Turns (.linkIdleFrame l k) l (x.onLink k fun z => wired 3 .idle z)) ∧
    (∀ f : LinkFrame, f.crcOk = true → f.cls < 4 →
      (vget (vget x.links k).rxSeq (fin f.cls) = none ∨ vget (vget x.links k).rxSeq (fin f.cls) = some (f.seq - 1)) →
      let z := (x.linkUp k).onLink k fun c => { c with
        rxSeq := vset c.rxSeq (fin f.cls) (some f.seq), gotTime := c.gotTime || f.cls = 2 }
      s.Turns (.linkFrameReceive l k f) l
        (((if f.cls = 2 then z.seePartner k (x.partnerSeen (s.lane k)) else z).linkBody k f.body).rejoinTry)) ∧
    (∀ f : LinkFrame, (f.crcOk = false ∨ 4 ≤ f.cls ∨
        ∃ q, vget (vget x.links k).rxSeq (fin f.cls) = some q ∧ f.seq ≠ q + 1) →
      s.Turns (.linkFrameReceive l k f) l (x.onLink k fun c => { c with discards := c.discards + 1 }))

/-- Power branches, the collector's heartbeat and clock faults. Each of BRANCH_OVERLOAD, HEARTBEAT_TOGGLE,
HEARTBEAT_LOSS and CLOCK_FAULT completes. BRANCH_OVERLOAD trips the limiter of the named branch of the named home
port, which no command releases (the model's choice, log 74), and touches nothing else; HEARTBEAT_TOGGLE in a lane
with power, out of reset, its monitor clock good and slice 23 not running turns the line over and lets the gate die
see it; HEARTBEAT_LOSS once the beat has been seen puts every axis in its safe state, in the axis states too (the
model's reading, log 36), and holds it, all auxiliary outputs off, and does nothing before; a failed clock of a lane
with power stays noted and, out of reset, reports source 16 + k, and a failed clock of a Green stops that Green. (R12,
R20, R21, R26, R275) -/
def Obligations.BranchesBeatAndClocks : Prop :=
  (∀ (s : State) (g : GreenId) (k : LaneId) (star : Bool),
    ∃ t, exec (.branchOverload g k star) s = .next t ∧ t.lanes = s.lanes ∧ t.greens = s.greens ∧ t.pd = s.pd ∧
      t.pending = s.pending ∧ ∀ p : Fin 6, vget t.homes p =
        if p.val = 3 * g.val + k.val then
          { vget s.homes p with
            laneTrip := (vget s.homes p).laneTrip || !star
            starTrip := (vget s.homes p).starTrip || star }
        else vget s.homes p) ∧
  (∀ (s : State) (l : LaneId) (x : Lane), s.lane l = x →
    (x.sys.lstate ≠ .off → x.sys.inReset = false → bit x.sys.badClocks 6 = false → x.inSlice 23 = false →
      s.Turns (.heartbeatToggle l) l
        ({ x with fc := { x.fc with beat := !x.fc.beat }, gd := { x.gd with hbSeen := true } }.driveAll)) ∧
    (x.gd.hbSeen = true →
      let z := each (idxs 12) (fun nn y => y.enterSafe nn) x
      s.Turns (.heartbeatLoss l) l (({ z with gd := { z.gd with hbLost := true } }.driveAll).auxAllOff)) ∧
    (x.gd.hbSeen = false → s.Turns (.heartbeatLoss l) l x) ∧
    (∀ k : Fin 7,
      let z := { x with sys := { x.sys with badClocks := bitPut x.sys.badClocks k.val true } }
      (x.sys.powered = true → x.awake = true →
        s.Turns (.clockFault (.laneClock l k)) l (z.fault (16 + k.val) 0xFF 0 0 0)) ∧
      (x.sys.powered = true → x.awake = false → s.Turns (.clockFault (.laneClock l k)) l z) ∧
      (x.sys.powered = false → s.Turns (.clockFault (.laneClock l k)) l x))) ∧
  (∀ (s : State) (g : GreenId), s.TurnsGreen (.clockFault (.greenClock g)) g { s.green g with clockOk := false })

/-- Loss of a Green, the hold, and the steps of a rejoin. Each of GREEN_LOST, HOLD_END, RAMP_ZERO_END,
REJOIN_DELAY_EXPIRE, RUNTIME_TEST_COMPLETE and REJOIN_TIMEOUT completes. GREEN_LOST of a present Green that has sent
nothing in green_loss_cycles cycles nor in the present one makes it lost, raises event 147 or 149, reports source 102
or 103, puts time in holdover and judges the mode; when both are lost the hold starts with event 158 and marks the
consumers that deliver as HELD. HOLD_END of a running hold ends it with event 159, fails the HELD endpoints and starts
the profile of each axis that is driving or waiting to, with the payloads delivered then kept for it, and those that
an earlier hold kept (the model's reading, log 48). RAMP_ZERO_END of an axis under that profile marks its ramp done.
REJOIN_DELAY_EXPIRE makes the automatic clear in LANE_SAFE, unless the supervisor pair is held, also where no rejoin
can follow (the model's choice, log 81); REJOIN_TIMEOUT returns a rejoin to LANE_SAFE; RUNTIME_TEST_COMPLETE of a
rejoin works the injection out from what the comparators find, reports event 227 with the bits of the failed tests,
returns to LANE_SAFE where one failed and otherwise waits for its time source. (R92, R102, R104, R105, R106, R108,
R109, R110, R227, R400) -/
def Obligations.LossAndRejoin : Prop :=
  ∀ (s : State) (l : LaneId) (x : Lane), s.lane l = x →
    (∀ g : GreenId, (vget x.net.chan g).view = .present → (vget x.net.chan g).gotNow = false →
      greenLossCycles x.laneRec ≤ (vget x.net.chan g).missed →
      let z := ((((x.onChan g fun c => { c with view := .lost, gotNow := false, gotPrev := false }).event
        (147 + 2 * g.val) 0).fault (102 + g.val) 0xFF 0 0 0).holdover).judgeMode
      s.Turns (.greenLost l g) l (if z.bothLost = true ∧ z.net.hold = .none then
        (({ z with net := { z.net with hold := .holding } }).holdMark).event 158 0 else z)) ∧
    (x.net.hold = .holding →
      let z := ({ x with
        net := { x.net with hold := .ended }
        eps := x.eps.map fun (e : Endpoint) => { e with kept := e.kept || e.delivers } })
      s.Turns (.holdEnd l) l (each (idxs 12) (fun nn y =>
        if y.stateUnhalted nn = 2 ∨ y.stateUnhalted nn = 3 ∨ y.stateUnhalted nn = 4 ∨ y.stateUnhalted nn = 6 then
          y.startProfile nn else y) ((z.event 159 0).holdRelease fun _ => true))) ∧
    (∀ nn : AxisId, (x.axis nn).profile = 2 →
      s.Turns (.rampZeroEnd l nn) l (x.onAxis nn fun a => { a with rampDone := true })) ∧
    (x.sys.lstate = .safe → x.sys.autoClear = true → x.sys.rejoined = false → x.lk.failed = false → s.Turns (.rejoinDelayExpire l) l
      (({ x with sys := { x.sys with autoClear := false } }).faultClear).1) ∧
    (x.sys.lstate = .test → x.sys.rejoining = true →
      s.Turns (.rejoinTimeout l) l x.enterLaneSafe ∧
      (x.sys.rejoinTime = false → ∀ t : RuntimeResult,
        let z := each (idxs 12) (fun nn y => if (y.axis nn).role ≠ .unused then y.testAxis nn (rotationOf t nn) else y) x
        let bits := z.runtimeBits (injectionOk t.injection)
        let w := (z.injectionTest t.injection).event 227 bits
        (bits ≠ 0 → s.Turns (.runtimeTestComplete l t) l w.enterLaneSafe) ∧
        (bits = 0 → w.sys.rejoining = true → s.Turns (.runtimeTestComplete l t) l
          ({ w with sys := { w.sys with rejoinTime := true } }).rejoinTry)))

/-- The tick, delay-list and compare-unit requests and the end of a re-sort. Each of TIMEKEEPER_TICK, RESORT_COMPLETE,
DL_REQUEST_APPLY and CMP_REQUEST_APPLY completes. At a lane out of reset whose PWM clock runs, its time block not
under test, TIMEKEEPER_TICK first ends a PWM cycle: the supervisors announce their transitions, the delay lists
release, the compare units hit, but not at a target written in this cycle, and the feedback inputs are sampled; then
it advances local time by 5 ns, global time with it (equal to it under NONE, by the corrected step otherwise), notes
the arrivals that are due, advances every axis and auxiliary output, takes the written masks, and advances the
emulation outputs; releases and hits stop with the timekeeper. The order of these steps inside a cycle is the model's
where the rules give none (log 81). DL_REQUEST_APPLY takes the oldest request in flight: during a re-sort it is held,
otherwise applied. CMP_REQUEST_APPLY takes the oldest request of the unit: a disarm disarms it, an arm writes its
target. RESORT_COMPLETE of a list whose count has run out makes the entries in the skipped span due with LATE and then
applies the held requests. (R111, R112, R116, R121, R123, R125, R127, R128, R131, R225, R226) -/
def Obligations.TimekeeperRequests : Prop :=
  ∀ (s : State) (l : LaneId) (x : Lane), s.lane l = x →
    (x.awake = true → x.clockOn 3 = true → x.inSlice 9 = false →
      let v := each (idxs 12) (fun nn y => y.supSay nn) x
      let d := if v.keeperStopped ∨ v.inSlice 9 = true then v else each (idxs 16) (fun d y => y.dlCycle d) v
      let h := if d.keeperStopped ∨ d.inSlice 9 = true then d else each (idxs 24) (fun u y => y.cuCycle u) d
      let r := each (idxs 12) (fun nn y => y.fbCycle nn) h
      let step := r.tm.frac + 5 * (1 + r.tm.rate + r.tm.slew)
      let tm := if r.tm.sync = .none then { r.tm with loc := r.tm.loc + 5, glob := r.tm.loc + 5, frac := 0 }
        else { r.tm with loc := r.tm.loc + 5, glob := r.tm.glob + BitVec.ofInt 64 step.floor, frac := step - step.floor }
      let a := each (idxs 12) (fun nn y => ((y.advance nn).supEval nn).carrierTick nn)
        (if r.inSlice 9 then r else { r with tm := tm }).arriveTick
      let b := each (idxs 8) (fun u y => y.auxTick u) a
      s.Turns (.timekeeperTick l) l
        (each (idxs 2) (fun e y => y.emulTick e) (each (idxs 12) (fun nn y => y.takeMask nn) b)) ∧
      ∀ (y : Lane) (u : Fin 24), (vget y.cus u).fresh = true →
        y.cuCycle u = { y with cus := vmod y.cus u fun c => { c with fresh := false } }) ∧
    (∀ (d : Fin 16) (key : ReqKey) (r : DlReq) (rs : List (ReqKey × DlReq)), (vget x.dls d).inflight = (key, r) :: rs →
      ((vget x.dls d).resort.isSome = true → s.Turns (.dlRequestApply l d) l
        { x with dls := vmod x.dls d fun z => { z with inflight := rs, held := z.held ++ [r] } }) ∧
      ((vget x.dls d).resort = none → s.Turns (.dlRequestApply l d) l
        ({ x with dls := vmod x.dls d fun z => { z with inflight := rs } }.dlApply d r))) ∧
    (∀ (u : Fin 24) (key : ReqKey) (rs : List (ReqKey × CmpReq)),
      let z := { x with cus := vmod x.cus u fun c => { c with inflight := rs } }
      ((vget x.cus u).inflight = (key, .disarm) :: rs → s.Turns (.cmpRequestApply l u) l
        { x with cus := vmod x.cus u fun c => { c with inflight := rs, armed := false, fire := none, waitBehind := false, fresh := false } }) ∧
      (∀ k i, (vget x.cus u).inflight = (key, .armAbs k i) :: rs → s.Turns (.cmpRequestApply l u) l (z.cuArm u k i)) ∧
      (∀ off i, (vget x.cus u).inflight = (key, .armRel off i) :: rs →
        s.Turns (.cmpRequestApply l u) l (z.cuArm u (z.cuPresent u + off) i))) ∧
    (∀ (d : Fin 16) (before after : Int), (vget x.dls d).resort = some (0, before, after) →
      let ripe (e : DlEntry) : DlEntry :=
        if inSpan (x.dlSrc d) (x.dlRev d) before after e.key then { e with due := true, late := true } else e
      let z := { x with dls := vmod x.dls d fun q => { q with resort := none, held := [], entries := q.entries.map ripe } }
      s.Turns (.resortComplete l d) l (each (vget x.dls d).held (fun r y => y.dlApply d r) z))

/-- TRIGGER_EVENT, DISPATCH_CYCLE and NODE_COMPLETE complete. A unit executes a node of an operation exactly in the
node's completion cycle, once, while the engine's clock is on (proven at start-up and not found bad) and slices 4 and
5 are not under test. While that holds: TRIGGER_EVENT completes: where the oldest raised event is ripe (its PWM cycle
has ended, or none passes: the model's choice, notes/assumptions/81.md), it takes it to every slot in ascending order,
halts slots that exceed their reservation and lets the released source nodes enter with the next dispatch cycle; with
no event, or one not ripe, it changes nothing. DISPATCH_CYCLE completes: it ends the completions of the cycle before,
lets GRAPH_STATUS follow the nodes' flags, ages the units, releases pending triggers, brings in the ripe events in
order, sorts the source nodes that enter in this cycle by slot and node, and issues the best ready entries to the idle
units, the new entries standing behind the old; then a coefficient write in progress writes a number of words that
nothing constrains. NODE_COMPLETE completes for an executed node: it frees its unit, decrements its successors'
counters, readies those that reach 0 and ends the run with its last node; a node whose run was discarded only frees
its unit. While it does not hold, none of the three changes anything. (R27, R148, R149, R153, R154, R155, R156, R158,
R163, R177, R189, R201) -/
def Obligations.DispatcherRows : Prop :=
  (∀ (x : Lane) (u : Fin 4) (op : Nat),
    (x.holds u op = true ↔ x.engineOk = true ∧
      ∃ j, x.unit u = some j ∧ j.executed = false ∧ j.left = 0 ∧ nodeOp ((x.slot j.slot).node j.node) = op) ∧
    (x.engineOk = true ↔ x.sys.pwrHold = true ∧ bit x.sys.badClocks 0 = false ∧ bit x.sys.badClocks 2 = false ∧
      x.inSlice 4 = false ∧ x.inSlice 5 = false)) ∧
  (∀ (x : Lane) (e : Event), x.ripe e = true ↔ e.time ≠ x.tm.loc ∨ x.clockOn 3 = false ∨ x.inSlice 9 = true) ∧
  (∀ (s : State) (l : LaneId) (x : Lane), s.lane l = x →
    (∀ e es, x.engineOk = true → x.dsp.events = e :: es → x.ripe e = true →
      let r := ({ x with dsp := { x.dsp with events := es } }).triggerAll e
      let z := r.1.checkReserves (r.1.dsp.ready ++ r.1.dsp.entered ++ r.2)
      s.Turns (.triggerEvent l) l { z with dsp := { z.dsp with entered := z.dsp.entered ++ z.liveEntries r.2 } }) ∧
    (x.dsp.events = [] ∨ (∃ e es, x.dsp.events = e :: es ∧ x.ripe e = false) → s.Turns (.triggerEvent l) l x) ∧
    (x.engineOk = true →
      let a := each (idxs 64) (fun k y => y.showFlags k) (each (idxs 4) (fun u y => y.complete u) x)
      let b := { a.ageUnits with dsp := { a.ageUnits.dsp with
        fresh := [], entered := [], events := a.dsp.events.filter fun e => !a.ripe e, setNow := [], cycle := a.dsp.cycle + 1 } }
      let p := (idxs 64).foldl (fun acc k => ((acc.1.releaseDue k).1, acc.2 ++ (acc.1.releaseDue k).2)) (b, a.dsp.entered)
      let q := (a.dsp.events.filter a.ripe).foldl (fun acc e => ((acc.1.triggerAll e).1, acc.2 ++ (acc.1.triggerAll e).2)) p
      let d := q.1.checkReserves (q.1.dsp.ready ++ q.2 ++ a.dsp.fresh)
      let i := d.issue d.idleUnits (d.dsp.ready ++ readySort (d.liveEntries q.2))
      s.Turns (.dispatchCycle l) l ({ i.1 with dsp := { i.1.dsp with
        ready := (i.2.filter fun r => d.dsp.ready.contains r) ++
          readySort ((i.2.filter fun r => !d.dsp.ready.contains r) ++ d.liveEntries a.dsp.fresh) } }).coefProgress) ∧
    (∀ (u : Fin 4) (j : UnitJob), x.engineOk = true → x.unit u = some j → j.executed = true →
      (j.orphan = true ∨ (x.slot j.slot).run = none → s.Turns (.nodeComplete l u) l (x.setUnit u none)) ∧
      (∀ r : Run, j.orphan = false → (x.slot j.slot).run = some r →
        let g := x.slot j.slot
        let d := decrement r.deps (g.succOf j.node)
        let r' := { r with deps := d.1, completed := r.completed + 1 }
        let z := (x.setUnit u none).onSlot j.slot fun k => { k with run := some r' }
        let w := { z with dsp := { z.dsp with fresh := z.dsp.fresh ++ d.2.map fun i => (g.priority, j.slot, i) } }
        s.Turns (.nodeComplete l u) l (if r.completed + 1 = g.nodes.length then w.runDone j.slot r' else w))) ∧
    (x.engineOk = false → s.Turns (.triggerEvent l) l x ∧ s.Turns (.dispatchCycle l) l x ∧
      ∀ u, s.Turns (.nodeComplete l u) l x))

/-- MOV, ADD, SUB, MUL, MAC, NEG, ABS, SHIFT, DIV, RECIP, SQRT, DOT, SUM, PACK and SELECT complete. Each of these
operations completes: when a unit holds an unexecuted node of it in its completion cycle, the node's stage gets the
exact result of the operation on every element of its operands, rounded and flagged by the one rule for stages: sums,
differences, products, a + b * c, negation, absolute value, a scaled by two to the immediate, quotients and roots with
their undefined points, the sum of n products, the sum of n elements, the first m elements of A followed by elements
of B, and a where c is not negative, else b. Nothing but the node's stage, its unit and the note of the flags set in
this dispatch cycle changes (and the free values go on where one was used). The rule for stages: a value rounds to the
nearest mantissa, ties to even; in pinned mode the stage stands at the pinned exponent, with SAT where a value is
clipped; in normalising mode at the least exponent at which every exact value fits, at -128 where all fit below it (an
all-zero result among them), and at 127 with SAT, EXPOVF and the values clipped that do not fit there. Undefined
points set DIVZ and take no part in the choice of the exponent but where all elements are such: then it is 127 with a
largest value among them, else the one that their named results need, which for 0 is -128 (the model's reading for
results other than 0, notes/assumptions/14.md). A largest value is the greatest or least mantissa. The node's stage in
the state area is the header of exponent, length and sticky flags and the mantissas. (R164, R165, R168, R169, R170,
R171, R173, R174, R184, R185, R189, R191) -/
def Obligations.ArithmeticOperations : Prop :=
  (∀ q : Rat, |q - roundEven q| ≤ 1 / 2 ∧ (|q - roundEven q| = 1 / 2 → roundEven q % 2 = 0)) ∧
  (∀ (xs : List Pick) (qs : List Rat) (p : Int),
    let hi (e : Int) : Rat := 0x7FFFFF * pow2 (e - 23)
    let lo (e : Int) : Rat := -0x800000 * pow2 (e - 23)
    let fit (e : Int) (q : Rat) : Prop := lo e ≤ q ∧ q ≤ hi e
    let m (e : Int) (q : Rat) : Int :=
      if hi e < q then 0x7FFFFF else if q < lo e then -0x800000 else roundEven (q * pow2 (23 - e))
    let norm (qs : List Rat) : StageOut := mkStage none (qs.map Pick.num)
    ((∀ q ∈ qs, fit p q) → mkStage (some p) (qs.map Pick.num) = { exp := p, mants := qs.map (m p), flags := 0 }) ∧
    ((∃ q ∈ qs, ¬fit p q) → mkStage (some p) (qs.map Pick.num) = { exp := p, mants := qs.map (m p), flags := 1 }) ∧
    (-128 ≤ p → p ≤ 127 → (∀ q ∈ qs, fit p q) → (∃ q ∈ qs, ¬fit (p - 1) q) →
      norm qs = { exp := p, mants := qs.map (m p), flags := 0 }) ∧
    ((∃ q ∈ qs, ¬fit 127 q) → norm qs = { exp := 127, mants := qs.map (m 127), flags := 3 }) ∧
    ((∀ q ∈ qs, fit (-129) q) → norm qs = { exp := -128, mants := qs.map (m (-128)), flags := 0 }) ∧
    (∀ pin : Option Int,
      let g := mkStage pin xs
      let odd := ∀ y ∈ xs, y.live = none
      let high := odd ∧ ∃ y ∈ xs, y.top = true
      (pin = some p → g.exp = p) ∧
      (pin = none → high → g.exp = 127) ∧
      (pin = none → odd → ¬high → g.exp = (norm (xs.filterMap Pick.named)).exp) ∧
      (pin = none → ¬odd → g.exp = (norm (xs.filterMap Pick.live)).exp) ∧
      g.mants = xs.map (fun y => match y with
        | .num q => m g.exp q
        | .undef q => m g.exp q
        | .largest neg => if neg then -0x800000 else 0x7FFFFF) ∧
      (bit g.flags 2 = true ↔ ∃ y ∈ xs, y.live = none))) ∧
  (∀ (k : Slot) (w : BitVec 128) (free : Nat) (qs : List Rat) (f : BitVec 3),
    let base := nodeState w
    let g := mkStage (nodePinned w) (qs.map Pick.num)
    let h := headerWord g qs.length (hdrFlags (k.stateAt base) ||| g.flags ||| f)
    k.writeNode w free { out := qs.map Elem.of, st := [], flags := f } =
      ({ k with state := putWords k.state base (h :: g.mants.map mantWord) }, g.flags ||| f, false) ∧
    (qs.length ≤ 8 → -128 ≤ g.exp → g.exp ≤ 127 →
      hdrExp h = g.exp ∧ hdrLen h = qs.length ∧ hdrFlags h = hdrFlags (k.stateAt base) ||| g.flags ||| f)) ∧
  (∀ (s : State) (l : LaneId) (x : Lane) (u : Fin 4) (j : UnitJob), s.lane l = x → x.unit u = some j →
    let c := x.nodeCtx j
    let a := c.elem (nodeDesc c.word 0)
    let b := c.elem (nodeDesc c.word 1)
    let d := c.elem (nodeDesc c.word 2)
    let n := c.imm % 16
    let out (f : Nat → Elem) : Lane := x.nodeWrite u j { out := (List.range c.len).map f, st := [], flags := 0 }
    let single (q : Rat) : Lane := x.nodeWrite u j { out := [Elem.of q], st := [], flags := 0 }
    let div (p q : Rat) : Elem :=
      if q ≠ 0 then Elem.of (p / q) else if p = 0 then Elem.bad 0 else .largest (p < 0)
    (x.holds u 0x01 = true → s.Turns (.mov l u) l (out fun i => Elem.of (a i))) ∧
    (x.holds u 0x02 = true → s.Turns (.add l u) l (out fun i => Elem.of (a i + b i))) ∧
    (x.holds u 0x03 = true → s.Turns (.sub l u) l (out fun i => Elem.of (a i - b i))) ∧
    (x.holds u 0x04 = true → s.Turns (.mul l u) l (out fun i => Elem.of (a i * b i))) ∧
    (x.holds u 0x05 = true → s.Turns (.mac l u) l (out fun i => Elem.of (a i + b i * d i))) ∧
    (x.holds u 0x06 = true → s.Turns (.neg l u) l (out fun i => Elem.of (-a i))) ∧
    (x.holds u 0x07 = true → s.Turns (.abs l u) l (out fun i => Elem.of (if 0 ≤ a i then a i else -a i))) ∧
    (x.holds u 0x08 = true → s.Turns (.shift l u) l (out fun i => Elem.of (a i * pow2 (toSigned 8 c.imm)))) ∧
    (x.holds u 0x09 = true → s.Turns (.div l u) l (out fun i => div (a i) (b i))) ∧
    (x.holds u 0x0A = true → s.Turns (.recip l u) l (out fun i => div 1 (a i))) ∧
    (x.holds u 0x0B = true → s.Turns (.sqrt l u) l (out fun i => if a i < 0 then Elem.bad 0 else .num (sqrtEncl (a i)))) ∧
    (x.holds u 0x0C = true → s.Turns (.dot l u) l (single ((List.range n).map fun i => a i * b i).sum)) ∧
    (x.holds u 0x0D = true → s.Turns (.sum l u) l (single ((List.range n).map a).sum)) ∧
    (x.holds u 0x0E = true → n ≤ c.len →
      s.Turns (.pack l u) l (out fun i => Elem.of (if i < n then a i else b (i - n)))) ∧
    (x.holds u 0x0F = true → s.Turns (.select l u) l (out fun i => Elem.of (if 0 ≤ d i then a i else b i))))

/-- CLARKE, PARK, IPARK, SVM, LUT, MIN, MAX, DEADZONE, SINCOS, ATAN2 and MAG complete. Each of CLARKE, PARK, IPARK,
SVM, LUT, MIN, MAX, DEADZONE, SINCOS, ATAN2 and MAG completes: when a unit holds an unexecuted node of the operation
in its completion cycle, the node's stage gets, as the exact value or, where a root or an angle function enters, an
enclosure of it: for CLARKE the two-phase vector of three (with option bit 0, of two) phase values; for PARK and IPARK
the rotation by minus and plus the angle of B; for SVM the three duties, with a span above 1 scaled back to 1 where
option bit 0 asks for it, and each duty held between 0 and 1; for LUT the table of N points looked up at each element,
its end value with SAT where the element lies outside a table without WRAP, and an undefined point where N or the
table is out of range; for MIN and MAX the lesser and the greater; for DEADZONE 0 inside the width and outside it the
element, or with option bit 0 clear the element less the width, a negative width being an undefined point; for SINCOS
sine and cosine; for ATAN2 the angle of two elements, 0 / 0 being an undefined point; for MAG the root of the sum of n
squares. Nothing but the node's stage, its unit and the note of the flags set in this dispatch cycle changes. (R174,
R184, R185, R189, R192, R193, R198, R199, R200) -/
def Obligations.TransformAndTableOperations : Prop :=
  ∀ (s : State) (l : LaneId) (x : Lane) (u : Fin 4) (j : UnitJob), s.lane l = x → x.unit u = some j →
    let c := x.nodeCtx j
    let a := c.elem (nodeDesc c.word 0)
    let b := c.elem (nodeDesc c.word 1)
    let out (xs : List Elem) : Lane := x.nodeWrite u j { out := xs, st := [], flags := 0 }
    let each1 (f : Nat → Elem) : Lane := out ((List.range c.len).map f)
    let root3 (q : Rat) : Elem := .num ({ a := 0, b := q } : Root3).encl
    let t := trig (b 0)
    (x.holds u 0x20 = true →
      (c.opt 0 = false → s.Turns (.clarke l u) l
        (out [Elem.of ((2 * a 0 - a 1 - a 2) / 3), root3 ((a 1 - a 2) / 3)])) ∧
      (c.opt 0 = true → s.Turns (.clarke l u) l (out [Elem.of (a 0), root3 ((a 0 + 2 * a 1) / 3)]))) ∧
    (x.holds u 0x21 = true → s.Turns (.park l u) l (out [.num (t.dot (a 0) (a 1)), .num (t.dot (a 1) (-a 0))])) ∧
    (x.holds u 0x22 = true → s.Turns (.ipark l u) l (out [.num (t.dot (a 0) (-a 1)), .num (t.dot (a 1) (a 0))])) ∧
    (x.holds u 0x23 = true →
      let va : Root3 := Root3.of (a 0)
      let vb : Root3 := { a := -(a 0) / 2, b := a 1 / 2 }
      let vc : Root3 := { a := -(a 0) / 2, b := -(a 1) / 2 }
      let hi := (va.max vb).max vc
      let lo := (va.min vb).min vc
      let w := hi.add lo.neg
      let k := if c.opt 0 = true ∧ w.le (Root3.of 1) = false then w.inv else Root3.of 1
      let off := ((hi.add lo).mul k).mul (Root3.of (-1 / 2))
      let duty (v : Root3) : Elem := .num ((((v.mul k).add off).add (Root3.of (1 / 2))).unit).encl
      s.Turns (.svm l u) l (out [duty va, duty vb, duty vc])) ∧
    (x.holds u 0x50 = true →
      let d := nodeDesc c.word 1
      let word (i : Nat) : Rat := bfpValue (c.coefWord d i)
      let n := (c.coefWord d 2).toNat
      let bad := n < 2 ∨ 1024 < n ∨ c.tableEnd d < d.index + n + 3
      let pos (i : Nat) : Rat := (a i - word 0) * word 1
      let up (i : Nat) (next : Nat → Nat) : Elem :=
        let k := ((pos i).floor % (n : Int)).toNat
        Elem.of (word (k + 3) + (pos i - (pos i).floor) * (word (next k + 3) - word (k + 3)))
      (bad → s.Turns (.lut l u) l (each1 fun _ => Elem.bad 0)) ∧
      (¬bad → c.opt 0 = true → s.Turns (.lut l u) l (each1 fun i => up i fun k => (k + 1) % n)) ∧
      (¬bad → c.opt 0 = false →
        let low (i : Nat) : Bool := pos i < 0
        let high (i : Nat) : Bool := ((n - 1 : Nat) : Rat) < pos i
        s.Turns (.lut l u) l (x.nodeWrite u j {
          out := (List.range c.len).map fun i =>
            if low i then Elem.of (word 3)
            else if high i then Elem.of (word (n - 1 + 3))
            else if pos i = (pos i).floor then Elem.of (word ((pos i).floor.toNat + 3))
            else up i fun k => k + 1
          st := []
          flags := if (List.range c.len).any (fun i => low i || high i) then 1 else 0 }))) ∧
    (x.holds u 0x51 = true → s.Turns (.min l u) l (each1 fun i => Elem.of (if a i ≤ b i then a i else b i))) ∧
    (x.holds u 0x52 = true → s.Turns (.max l u) l (each1 fun i => Elem.of (if a i ≤ b i then b i else a i))) ∧
    (x.holds u 0x53 = true → s.Turns (.deadzone l u) l (each1 fun i =>
      if b i < 0 then Elem.bad (a i)
      else if b i < a i then Elem.of (if c.opt 0 then a i else a i - b i)
      else if a i < -b i then Elem.of (if c.opt 0 then a i else a i + b i)
      else Elem.of 0)) ∧
    (x.holds u 0x60 = true → s.Turns (.sincos l u) l (out [.num (trig (a 0)).sin, .num (trig (a 0)).cos])) ∧
    (x.holds u 0x61 = true →
      (a 0 = 0 → a 1 = 0 → s.Turns (.atan2 l u) l (out [Elem.bad 0])) ∧
      (a 0 ≠ 0 ∨ a 1 ≠ 0 → s.Turns (.atan2 l u) l (out [.num (angleOf (a 0) (a 1))]))) ∧
    (x.holds u 0x62 = true → s.Turns (.mag l u) l
      (out [.num (sqrtEncl ((List.range (c.imm % 16)).map fun i => a i * a i).sum)]))

/-- PI, PID, LIMIT, RATE, FO, BIQUAD and NOTCH complete. Each of these operations completes: when a unit holds an
unexecuted node of it in its completion cycle, every element k goes through the steps of its operation with its own
parameters and its own operation state words: PI and PID with conditional integration and clamping, LIMIT between its
bounds, RATE by at most its rise and fall, FO by its coefficient of the difference, and the second-order sections in
transposed direct form II. Reversed bounds are undefined points that store no state. The stage gets the results, the
operation state words the new states, and nothing else but the unit and the note of the flags set in this dispatch
cycle changes. (R187, R194, R195, R196, R197) -/
def Obligations.ControlAndFilterOperations : Prop :=
  ∀ (s : State) (l : LaneId) (x : Lane) (u : Fin 4) (j : UnitJob), s.lane l = x → x.unit u = some j →
    let c := x.nodeCtx j
    let a := c.elem (nodeDesc c.word 0)
    let st := c.opState
    let one (size : Nat) (k i : Nat) : Rat := c.par size k i
    let elems (f : Nat → Elem × List (Nat × Encl)) : Lane := x.nodeWrite u j
      { out := (List.range c.len).map fun k => (f k).1, st := (List.range c.len).flatMap fun k => (f k).2, flags := 0 }
    let sum (i kit e : Rat) : Rat := i + kit * e
    let integ (p kit umax umin i e : Rat) : Rat :=
      if (umax < p + sum i kit e ∧ 0 < e) ∨ (p + sum i kit e < umin ∧ e < 0) then i else clamp (sum i kit e) umin umax
    let section2 (b0 b1 b2 a1 a2 : Rat) (k : Nat) : Elem × List (Nat × Encl) :=
      let y := b0 * a k + st k
      (Elem.of y, [(k, Encl.of (b1 * a k - a1 * y + st (c.len + k))), (c.len + k, Encl.of (b2 * a k - a2 * y))])
    (x.holds u 0x30 = true → s.Turns (.pi l u) l (elems fun k =>
      let q := one 4 k
      let i := integ (q 0 * a k) (q 1) (q 2) (q 3) (st k) (a k)
      if q 2 < q 3 then (Elem.bad 0, []) else (Elem.of (clamp (q 0 * a k + i) (q 3) (q 2)), [(k, Encl.of i)]))) ∧
    (x.holds u 0x31 = true → s.Turns (.pid l u) l (elems fun k =>
      let q := one 6 k
      let d := st (c.len + k) + q 3 * (q 2 * (a k - st (2 * c.len + k)) - st (c.len + k))
      let i := integ (q 0 * a k + d) (q 1) (q 4) (q 5) (st k) (a k)
      if q 4 < q 5 then (Elem.bad 0, [])
      else (Elem.of (clamp (q 0 * a k + d + i) (q 5) (q 4)),
        [(k, Encl.of i), (c.len + k, Encl.of d), (2 * c.len + k, Encl.of (a k))]))) ∧
    (x.holds u 0x32 = true → s.Turns (.limit l u) l (elems fun k =>
      let q := one 2 k
      if q 0 < q 1 then (Elem.bad 0, []) else (Elem.of (clamp (a k) (q 1) (q 0)), []))) ∧
    (x.holds u 0x33 = true → s.Turns (.rate l u) l (elems fun k =>
      let q := one 2 k
      let z := st k + clamp (a k - st k) (-(q 1)) (q 0)
      if q 0 < 0 ∨ q 1 < 0 then (Elem.bad (st k), []) else (Elem.of z, [(k, Encl.of z)]))) ∧
    (x.holds u 0x40 = true → s.Turns (.fo l u) l (elems fun k =>
      let z := st k + c.par1 0 * (a k - st k)
      (Elem.of z, [(k, Encl.of z)]))) ∧
    (x.holds u 0x41 = true → s.Turns (.biquad l u) l (elems
      (section2 (c.par1 0) (c.par1 1) (c.par1 2) (c.par1 3) (c.par1 4)))) ∧
    (x.holds u 0x42 = true →
      let r := c.par1 1
      let g := 1 + r * r
      s.Turns (.notch l u) l (elems (section2 (g / 2) (-(g * c.par1 0)) (g / 2) (-(2 * r * c.par1 0)) (r * r))))

/-- PLL, BEMF, HFI and SATP complete. Each of these operations completes: when a unit holds an unexecuted node of it
in its completion cycle, its stage and its operation state get: for PLL the angle advanced by the speed and the
weighted error, and the speed over the period; for BEMF the negated and swapped back-EMF estimates, currents and
estimates corrected by the error of the current; for HFI the carrier voltage and the demodulated error; for SATP the
decision and the margin of the two current peaks, the margin being an undefined point while both peaks are 0 (the
model's choice before both signs are seen, notes/assumptions/17.md). A period or an inductance that is not positive is
an undefined point that stores no state. Nothing else but the unit and the note of the flags set in this dispatch
cycle changes. (R174, R187, R205, R206, R207, R208, R209) -/
def Obligations.ObserverOperations : Prop :=
  ∀ (s : State) (l : LaneId) (x : Lane) (u : Fin 4) (j : UnitJob), s.lane l = x → x.unit u = some j →
    let c := x.nodeCtx j
    let a := c.elem (nodeDesc c.word 0)
    let b := c.elem (nodeDesc c.word 1)
    let st := c.opState
    let write (out : List Elem) (w : List (Nat × Encl)) : Lane := x.nodeWrite u j { out := out, st := w, flags := 0 }
    (x.holds u 0x80 = true →
      let t := c.par1 2
      let e := pllError c (st 0)
      let w := (Encl.of (st 1)).add (e.scale (c.par1 1))
      let th := (((Encl.of (st 0)).add w).add (e.scale (c.par1 0))).wrap
      (0 < t → s.Turns (.pll l u) l (write [.num th, .num (w.scale (1 / t))] [(0, th), (1, w)])) ∧
      (t ≤ 0 → s.Turns (.pll l u) l (write [Elem.bad (st 0), Elem.bad 0] []))) ∧
    (x.holds u 0x81 = true →
      let r := c.par2 0
      let ind := c.par2 1
      let t := c.par2 2
      let cur (k : Nat) : Rat := st k + t / ind * (a k - r * st k - st (2 + k)) + c.par2 3 * (b k - st k)
      let emf (k : Nat) : Rat := st (2 + k) - c.par2 4 * (b k - st k)
      (0 < ind → 0 < t → s.Turns (.bemf l u) l (write [Elem.of (emf 1), Elem.of (-(emf 0))]
        [(0, Encl.of (cur 0)), (1, Encl.of (cur 1)), (2, Encl.of (emf 0)), (3, Encl.of (emf 1))])) ∧
      (ind ≤ 0 ∨ t ≤ 0 → s.Turns (.bemf l u) l (write [Elem.bad 0, Elem.bad 0] []))) ∧
    (x.holds u 0x82 = true →
      let ph := wrapTurn (st 0 + c.par1 0)
      let raw := (trig (st 0 + c.par1 1)).sin.scale (a 1)
      let z := (Encl.of (st 1)).add ((raw.sub (Encl.of (st 1))).scale (c.par1 2))
      s.Turns (.hfi l u) l (write [.num ((trig ph).cos.scale (c.par1 3)), .num z] [(0, Encl.of ph), (1, z)])) ∧
    (x.holds u 0x83 = true →
      let old (k : Nat) : Rat := if c.opt 1 then 0 else st k
      let v := rabs (a 0)
      let p := if c.opt 0 then old 0 else rmax (old 0) v
      let m := if c.opt 0 then rmax (old 1) v else old 1
      let seen := (old 2).floor.toNat ||| (if c.opt 0 then 2 else 1)
      let w := [(0, Encl.of p), (1, Encl.of m), (2, Encl.of seen)]
      let g := (p - m) / (p + m)
      (p + m ≠ 0 → seen ≠ 3 → s.Turns (.satp l u) l (write [Elem.of 0, Elem.of g] w)) ∧
      (p + m ≠ 0 → seen = 3 → s.Turns (.satp l u) l
        (write [Elem.of (if c.par1 0 ≤ g then 1 else if g ≤ -(c.par1 0) then -1 else 0), Elem.of g] w)) ∧
      (p + m = 0 → s.Turns (.satp l u) l (write [if seen = 3 then Elem.bad 0 else Elem.of 0, Elem.bad 0] w)))

/-- RD_ADC, RD_POS, RD_PDU, RD_TRIG and RD_FLAGS complete with the snapshot of the issue cycle. Each of RD_ADC,
RD_POS, RD_PDU, RD_TRIG and RD_FLAGS completes: when a unit holds an unexecuted node of the operation in its
completion cycle, the node's stage gets the elements and flags that the unit took at the node's issue, and nothing but
the stage, the unit and the note of the flags set in this dispatch cycle changes. At its issue a node goes to its unit
with its cycle count, its run's bank sample and trigger, and with the snapshot of its source: the conversions of the
set that triggered the run, else of the newest set, as fractions of full scale with SAT where one is overrange, zeros
before the first set; position, speed and status of the axis in the chosen unit; the elements of the endpoint's
payload times its factor, and its status where asked for; event, context, LATE and age in microseconds of the trigger;
the flags as GRAPH_STATUS shows them. A conversion that the set does not hold uses up a free value at the issue (log
43). (R189, R202, R210, R211, R212, R213, R214, R286) -/
def Obligations.InputNodes : Prop :=
  (∀ (s : State) (l : LaneId) (x : Lane) (u : Fin 4) (j : UnitJob), s.lane l = x → x.unit u = some j →
    let y := x.nodeWrite u j { out := j.snap.map Elem.of, st := [], flags := j.snapFlags }
    (x.holds u 0x90 = true → s.Turns (.rdAdc l u) l y) ∧
    (x.holds u 0x91 = true → s.Turns (.rdPos l u) l y) ∧
    (x.holds u 0x92 = true → s.Turns (.rdPdu l u) l y) ∧
    (x.holds u 0x93 = true → s.Turns (.rdTrig l u) l y) ∧
    (x.holds u 0x94 = true → s.Turns (.rdFlags l u) l y)) ∧
  (∀ (x : Lane) (u : Fin 4) (k : Fin 64) (p n : Nat) (r : Run), (x.slot k).run = some r →
    let w := (x.slot k).node n
    let v := x.snapshot { slot := x.slot k, word := w, node := n, bank := r.bank } r.trig
    x.issueTo u (p, k, n) = (if v.2.2 then x.useFree else x).setUnit u (some {
      slot := k, node := n, left := nodeCycles w - 1, executed := false, orphan := false, bank := r.bank, trig := r.trig,
      snap := v.1, snapFlags := v.2.1 })) ∧
  (∀ (x : Lane) (c : NodeCtx) (t : Event),
    let nn := c.axis
    let acc := (x.axis nn).acc
    let opt := nodeOpt c.word % 4
    let newest := (x.axis nn).sense.done.head?
    let mine := (x.axis nn).sense.done.find? fun q => q.set = t.ctx.toNat
    let set := if t.num.toNat = 4 * nn.val + 2 then mine.or newest else newest
    (nodeOp c.word = 0x90 →
      (set = none → x.snapshot c t = ((contentInputs opt).map fun _ => 0, 0, false)) ∧
      (∀ v, set = some v → (∀ i ∈ contentInputs opt, i ∈ contentInputs v.content) →
        let codes := (contentInputs opt).map fun i => v.codes.getD ((contentInputs v.content).idxOf i) (0, false)
        x.snapshot c t = (codes.map fun k => mkRat k.1 8192, if codes.any (fun k => k.2) then 1 else 0, false))) ∧
    (nodeOp c.word = 0x91 →
      let mech := turnsOf acc.mech
      let v := x.angleSpeed nn
      (opt = 0 → x.snapshot c t = ([wrapTurn mech, v, x.angleStatus nn], 0, false)) ∧
      (opt = 1 → x.snapshot c t = ([wrapTurn (turnsOf ((x.axis nn).elec (x.axisRec nn))), v * polePairs (x.axisRec nn),
        x.angleStatus nn], 0, false)) ∧
      (2 ≤ opt → x.snapshot c t = ([mkRat (toSigned 64 acc.mech) 4294967296, v, x.angleStatus nn], 0, false))) ∧
    (nodeOp c.word = 0x92 →
      let d := x.delivered c.slot.gateAxis c.endpoint
      let data (n : Nat) := (List.range n).map fun i => payloadElem opt d.1 (c.imm + payloadSize opt * i) * d.2.1
      (c.opt 2 = false → x.snapshot c t = (data c.len, 0, false)) ∧
      (c.opt 2 = true → x.snapshot c t = (data (c.len - 1) ++ [d.2.2], 0, false))) ∧
    (nodeOp c.word = 0x93 → x.snapshot c t = ([(t.num.toNat : Rat), t.ctx.toNat, if t.late then 1 else 0,
      mkRat ((x.tm.loc.toNat : Int) - t.time.toNat) 1000], 0, false)) ∧
    (nodeOp c.word = 0x94 → x.snapshot c t = ([(c.slot.shown.toNat : Rat)], 0, false)))

/-- WR_DUTY, WR_MASK, COMMUT, WR_ANGLE, WR_PDU and EMIT complete. Each of WR_DUTY, WR_MASK, COMMUT, WR_ANGLE, WR_PDU
and EMIT completes: when a unit holds an unexecuted node of the operation in its completion cycle, WR_DUTY loads the
three duty shadows of its axis with its elements held between 0 and 1, SAT where one was outside, and marks the first
duty of a takeover that has its role; WR_MASK hands a mask of 0 to 63 to the PWM block, any other value being an
undefined point that leaves the mask; COMMUT raises the axis's commutation event and hands the PWM block a step of its
mask table, and in a debug halt neither; WR_ANGLE writes angle and speed: while the feedback channel or none is the
source they are kept and move no accumulator; under OBSERVER without a supervisor the electrical accumulator is set to
the written angle by the shortest way from what it holds, valid or not, the mechanical one advances by that over the
pole pairs, and the written speed becomes the estimate; WR_PDU stages its payload bytes at the offset of a producer
endpoint and with SEND completes it, and acts on no other endpoint (log 48); EMIT queues its context, held within 16
bits (log 49), for event 240 + k, the oldest of more than 16 dropped. Its stage gets the values it wrote. (R202, R204,
R215, R216, R217, R218, R219, R220, R240, R353) -/
def Obligations.OutputNodes : Prop :=
  (∀ (x : Lane) (nn : AxisId) (th om : Rat),
    let r := x.axisRec nn
    let a := x.axis nn
    let y := x.writeAngle nn th om
    (x.angleSrc nn ≠ 2 → y = x.onAxis nn fun q => { q with acc := { q.acc with written := some (th, om) } }) ∧
    (x.angleSrc nn = 2 → x.supRuns nn = false →
      let d := wrapTurn (th - mkRat (a.elec r % 4294967296 : Nat) 4294967296)
      let w := (y.axis nn).acc
      w.pos = a.acc.pos + d / polePairs r ∧ w.valid = true ∧ w.speed = om / polePairs r ∧ w.written = some (th, om) ∧
      ((y.axis nn).elec r : Int) = (a.elec r + roundEven (d * 4294967296)) % 2 ^ 64 ∧
      (a.acc.valid = true → y = x.onAxis nn fun q => { q with acc := w }))) ∧
  (∀ (s : State) (l : LaneId) (x : Lane) (u : Fin 4) (j : UnitJob), s.lane l = x → x.unit u = some j →
    let c := x.nodeCtx j
    let nn := c.axis
    let a := c.elem (nodeDesc c.word 0)
    (x.holds u 0xA0 = true →
      let d (p : Fin 3) : Rat := if a p.val < 0 then 0 else if 1 < a p.val then 1 else a p.val
      let z := x.onAxis nn fun q => { q with
        pwm := { q.pwm with shadow := Vector.ofFn d }
        red := { q.red with takeover := q.red.takeover.map fun (t : Takeover) => { t with duty := t.duty || t.role } } }
      s.Turns (.wrDuty l u) l (z.nodeWrite u j
        { out := [Elem.of (d 0), Elem.of (d 1), Elem.of (d 2)], st := [],
          flags := if d 0 = a 0 ∧ d 1 = a 1 ∧ d 2 = a 2 then 0 else 1 })) ∧
    (x.holds u 0xA1 = true →
      (∀ v : Fin 64, roundEven (a 0) = v.val → s.Turns (.wrMask l u) l
        ((x.onAxis nn fun q => { q with pwm := { q.pwm with maskReq := some (BitVec.ofNat 6 v.val) } }).nodeWrite u j
          { out := [Elem.of v.val], st := [], flags := 0 })) ∧
      (roundEven (a 0) < 0 ∨ 63 < roundEven (a 0) → s.Turns (.wrMask l u) l
        (x.nodeWrite u j { out := [Elem.bad (x.axis nn).pwm.mask.toNat], st := [], flags := 0 }))) ∧
    (x.holds u 0xA2 = true →
      (x.sys.halted = false → s.Turns (.commut l u) l
        (((x.event (4 * nn.val + 3) 0).onAxis nn fun q => { q with pwm := { q.pwm with stepReq := q.pwm.stepReq + 1 } }).nodeWrite
          u j { out := [Elem.of 0], st := [], flags := 0 })) ∧
      (x.sys.halted = true → s.Turns (.commut l u) l (x.nodeWrite u j { out := [Elem.of 0], st := [], flags := 0 }))) ∧
    (x.holds u 0xA3 = true → s.Turns (.wrAngle l u) l
      ((x.writeAngle nn (a 0) (a 1)).nodeWrite u j { out := [Elem.of (a 0), Elem.of (a 1)], st := [], flags := 0 })) ∧
    (x.holds u 0xA4 = true →
      let xs : List (Bytes × Rat × BitVec 3) := (List.range c.len).map fun i => payloadCode (nodeOpt c.word % 4) (a i)
      let codes : Calc :=
        { out := xs.map fun (v : Bytes × Rat × BitVec 3) => Elem.of v.2.1
          st := []
          flags := xs.foldl (fun f (v : Bytes × Rat × BitVec 3) => f ||| v.2.2) 0 }
      let put (e : Endpoint) : Bytes :=
        stagePayload (connLength (x.connRec c.endpoint)) e.staging c.imm (xs.flatMap fun v => v.1)
      let sent (e : Endpoint) : Endpoint := if c.opt 2
        then { e with
          staging := put e, complete := some (put e), stale := false
          st := if e.st = .waiting ∨ e.st = .stale then .running else e.st }
        else { e with staging := put e }
      (connRole (x.connRec c.endpoint) = 1 →
        s.Turns (.wrPdu l u) l (({ x with eps := vmod x.eps c.endpoint sent }).nodeWrite u j codes)) ∧
      (connRole (x.connRec c.endpoint) ≠ 1 → s.Turns (.wrPdu l u) l (x.nodeWrite u j codes))) ∧
    (x.holds u 0xA5 = true →
      let v := intWithin (a 0) 0 65535
      let q := x.dsp.emits ++ [(c.imm % 16, BitVec.ofInt 16 v.1)]
      s.Turns (.emit l u) l (({ x with dsp := { x.dsp with emits := q.drop (q.length - 16) } }).nodeWrite u j
        { out := [Elem.of v.1], st := [], flags := v.2 })))

/-- CKPT, COORD, FLAGCLR, CKPT_POST and EMIT_RAISE complete. Each of CKPT, COORD and FLAGCLR completes when a unit
holds an unexecuted node of the operation in its completion cycle: CKPT of a duplex-active axis, in a run that stands,
adds a request with the digest of its elements to the run, and elsewhere only passes its elements on; COORD posts the
own values to both partners' lanes, and delivers the median of three present values, the mean of two, or the own value
alone, which is also what a lane in single-lane mode delivers (log 50), counts the member that is out of band,
excludes it once the count is reached, and moves an observation on; FLAGCLR clears the sticky flags of every node of
the graph but those that nodes set in the same dispatch cycle (log 40). CKPT_POST completes: for each request of a
completed run in turn it gathers and sends the checkpoint with the next sequence to the standby's lane, unless the
member is not active, the lane is in SHUTDOWN or the standby's lane is lost (log 49). EMIT_RAISE completes: where
Gamar runs it takes the oldest EMIT request and raises event 240 + k where it is enabled. (R100, R176, R220, R221,
R222, R223, R224, R343, R344, R345, R347, R348) -/
def Obligations.ExchangeAndFlagNodes : Prop :=
  (∀ (s : State) (l : LaneId) (x : Lane) (u : Fin 4) (j : UnitJob), s.lane l = x → x.unit u = some j →
    let c := x.nodeCtx j
    let nn := c.axis
    let xs := (List.range c.len).map (c.elem (nodeDesc c.word 0))
    let pass : Calc := { out := xs.map Elem.of, st := [], flags := 0 }
    (x.holds u 0xA6 = true →
      ((x.axis nn).role = .duplexActive → j.orphan = false →
        let request := (nn, j.node, xs.map fun v => (stateWord 0 (Encl.of v)).1)
        s.Turns (.ckpt l u) l ((x.onSlot j.slot fun k => { k with
          run := k.run.map fun (r : Run) => { r with ckpt := r.ckpt ++ [request] } }).nodeWrite u j pass)) ∧
      ((x.axis nn).role ≠ .duplexActive ∨ j.orphan = true → s.Turns (.ckpt l u) l (x.nodeWrite u j pass))) ∧
    (x.holds u 0xA7 = true →
      let r := x.axisRec nn
      let d := (x.axis nn).red
      let own := d.observing.isSome || d.excluded
      let maxAge := (c.coefWord (nodeDesc c.word 1) 0).toNat
      let posted := x.sendPeers r 0 (.coord (x.dev nn) d.observing.isSome d.excluded xs)
      let got := (peersOf r).map fun a => if x.singleLane then none else posted.partnerPresent nn maxAge (axisLane a)
      let v := coordView xs.length (bfpValue (BitVec.ofNat 32 (triTol r))) xs (got.getD 0 none) (got.getD 1 none)
      let out := if v.out = some 0 ∧ own = true then none else v.out
      let counts := coordCounts d.counts (x.idx :: (peersOf r).map axisLane) ((!own) :: got.map Option.isSome) out
      let z := posted.onAxis nn fun a => { a with red := { a.red with disagree := v.disagree, counts := counts } }
      s.Turns (.coord l u) l (((z.coordExclude nn (peersOf r) out).observe nn v.inBand).nodeWrite u j
        { out := v.sel.map Elem.of, st := [], flags := 0 })) ∧
    (x.holds u 0xA8 = true →
      let kept (i : Nat) : BitVec 3 :=
        x.dsp.setNow.foldl (fun v q => if q.1 = j.slot ∧ q.2.1 = i then v ||| q.2.2 else v) 0
      s.Turns (.flagclr l u) l ((x.onSlot j.slot fun k => { k with
        state := (List.range k.nodes.length).foldl (fun w i =>
          let h := k.stateAt (nodeState (k.node i))
          w.set (nodeState (k.node i)) ((h &&& 0xFFF8FFFF) ||| BitVec.ofNat 32 ((hdrFlags h &&& kept i).toNat * 65536))) k.state
        }).nodeWrite u j { out := [Elem.of 0], st := [], flags := 0 }))) ∧
  (∀ (n : Nat) (tol : Rat) (own a b : List Rat), own.length = n →
    (coordView n tol own (some a) (some b)).sel =
      (List.range n).map (fun i => median3 (own.getD i 0) (a.getD i 0) (b.getD i 0)) ∧
    (coordView n tol own (some a) none).sel = (List.range n).map (fun i => (own.getD i 0 + a.getD i 0) / 2) ∧
    (coordView n tol own none (some b)).sel = (List.range n).map (fun i => (own.getD i 0 + b.getD i 0) / 2) ∧
    (coordView n tol own none none).sel = own) ∧
  (∀ (s : State) (l : LaneId) (x : Lane) (k : Fin 64), s.lane l = x →
    let post (q : AxisId × Nat × List W32) (z : Lane) : Lane :=
      let r := z.axisRec q.1
      let dst := axisLane (peer0 r)
      let final := (z.axis q.1).red.planned = .armed
      let seq := (z.axis q.1).red.ckptSeq + 1
      let values := (z.slot k).gather q.2.1
      if z.sys.mode = .shutdown ∨ (z.axis q.1).role ≠ .duplexActive ∨ (vget z.links dst).line = .r01 then z
      else (z.onAxis q.1 fun a => { a with red := { a.red with
          ckptSeq := seq
          planned := if final then .posted 0 else a.red.planned } }).sendLink dst 1 (.checkpoint (peer0 r)
            (ckptRecord (z.dev q.1) values.length q.2.2.length (b2n final) seq.toNat z.tm.glob.toNat q.2.2 values))
    s.Turns (.ckptPost l k) l (each (x.slot k).ckptDue post (x.onSlot k fun g => { g with ckptDue := [] }))) ∧
  (∀ (s : State) (l : LaneId) (x : Lane), s.lane l = x →
    ∀ e es, x.gamarRuns = true → x.dsp.emits = e :: es →
      let z := { x with dsp := { x.dsp with emits := es } }
      (natBit (emitEnable x.laneRec) e.1 = true → s.Turns (.emitRaise l) l (z.event (240 + e.1) e.2.toNat)) ∧
      (natBit (emitEnable x.laneRec) e.1 = false → s.Turns (.emitRaise l) l z))

/-- DL_INSERT, DL_CANCEL, CMP_ARM and CMP_DISARM complete. Each of DL_INSERT, DL_CANCEL, CMP_ARM and CMP_DISARM
completes: when a unit holds an unexecuted node of the operation in its completion cycle, the node sends one request
on its way to the list or unit that operand C names, in the order of completion cycle, slot and node among the
requests already under way, and its stage gets the outcome of its previous request, 0 or -1: an insert at an offset
from the present key (option 0), from the trigger's time stamp taken over to the key's time (option 1, time sources;
log 49) or from 0 (option 2, angle sources); a cancel of a tag; an arm in the same three ways; a disarm. Options 1 on
an angle and 2 on a time are undefined points that send nothing. (R128, R131, R202, R225, R226) -/
def Obligations.SchedulingNodes : Prop :=
  ∀ (s : State) (l : LaneId) (x : Lane) (u : Fin 4) (j : UnitJob), s.lane l = x → x.unit u = some j →
    let c := x.nodeCtx j
    let a := c.elem (nodeDesc c.word 0)
    let d : Fin 16 := fin (nodeResource c.word)
    let k : Fin 24 := fin (nodeResource c.word)
    let opt := nodeOpt c.word % 4
    let who := some (j.slot.val, j.node)
    let was := replyOf (x.slot j.slot) j.node
    let key : ReqKey := { cycle := x.dsp.cycle, slot := j.slot.val, node := j.node }
    let toList (q : DlReq) : Lane := { x with dls := vmod x.dls d fun z => { z with
      inflight := z.inflight.takeWhile (fun y => y.1.le key) ++ (key, q) :: z.inflight.dropWhile (fun y => y.1.le key) } }
    let toUnit (q : CmpReq) : Lane := { x with cus := vmod x.cus k fun z => { z with
      inflight := z.inflight.takeWhile (fun y => y.1.le key) ++ (key, q) :: z.inflight.dropWhile (fun y => y.1.le key) } }
    let answer (y : Lane) (f : BitVec 3) : Lane := y.nodeWrite u j { out := [Elem.of was], st := [], flags := f }
    let refused (f : BitVec 3) : Lane := x.nodeWrite u j { out := [Elem.bad was], st := [], flags := f }
    let stamp (src : Nat) : Int :=
      if src = 0 then (j.trig.time + (x.tm.glob - x.tm.loc)).toNat else j.trig.time.toNat
    (x.holds u 0xB0 = true →
      let src := x.dlSrc d
      let step : Int := roundEven (a 0 * if srcAngle src then 65536 else 1000)
      let tag := intWithin (a 1) 0 65535
      let t := BitVec.ofInt 16 tag.1
      (opt = 0 → s.Turns (.dlInsert l u) l (answer (toList (.insertRel step t who)) tag.2)) ∧
      (opt = 1 → srcAngle src = false →
        s.Turns (.dlInsert l u) l (answer (toList (.insertAbs (stamp src + step) t who)) tag.2)) ∧
      (2 ≤ opt → srcAngle src = true → s.Turns (.dlInsert l u) l (answer (toList (.insertAbs (0 + step) t who)) tag.2)) ∧
      ((opt = 1 ∧ srcAngle src = true) ∨ (2 ≤ opt ∧ srcAngle src = false) → s.Turns (.dlInsert l u) l (refused tag.2))) ∧
    (x.holds u 0xB1 = true → s.Turns (.dlCancel l u) l
      (answer (toList (.cancel (BitVec.ofInt 16 (intWithin (a 0) 0 65535).1) who)) (intWithin (a 0) 0 65535).2)) ∧
    (x.holds u 0xB2 = true →
      let src := cmpSource (x.cmpRec k)
      let step : Int := roundEven (a 0 * if srcAngle src then 65536 else 1000)
      (opt = 0 → s.Turns (.cmpArm l u) l (answer (toUnit (.armRel step who)) 0)) ∧
      (opt = 1 → srcAngle src = false →
        s.Turns (.cmpArm l u) l (answer (toUnit (.armAbs (stamp src + step) who)) 0)) ∧
      (2 ≤ opt → srcAngle src = true → s.Turns (.cmpArm l u) l (answer (toUnit (.armAbs (0 + step) who)) 0)) ∧
      ((opt = 1 ∧ srcAngle src = true) ∨ (2 ≤ opt ∧ srcAngle src = false) → s.Turns (.cmpArm l u) l (refused 0))) ∧
    (x.holds u 0xB3 = true → s.Turns (.cmpDisarm l u) l (answer (toUnit .disarm) 0))

/-- PERIOD_START, PERIOD_MID, COT_FIXED_END, COT_LIMIT_EXPIRE, THRESHOLD_CROSSING and DEAD_TIME_END complete. Each
completes where it is due, while the lane is not halted in debug and the carrier runs on its clock, not under test.
PERIOD_START of a CENTRE or EDGE carrier, at the end of the period before or at the first period's instant, does what
every period start does first, loads the shadows, takes brake_limit as threshold in a pulsed zero vector, places the
three intervals over the new length, on the 5 ns grid while the last calibration failed (log 44), moves the switch
commands and raises event 4 nn with its sets; elsewhere, and for COT and COFT, it changes nothing. PERIOD_MID in the
middle cycle raises event 4 nn + 1 with its sets and its SSI burst. COT_FIXED_END after the fixed time notes the cycle
and lets the variable interval begin, phase A with the mid's events. COT_LIMIT_EXPIRE after the limit, and
THRESHOLD_CROSSING no earlier than the minimum pulse, start the phase's next period: its shadow becomes duty and
threshold, it enters its fixed interval, phase A with the events; an earlier crossing changes nothing; a crossing in a
pulsed zero vector cuts the pulse. An auxiliary carrier does the same for its one switch: the command is sampled, the
level gives the width or the threshold, and an output released in this very PWM cycle waits for the next period. A
member that a planned drop makes standby at a period start is judged for a takeover (log 50). DEAD_TIME_END lets a
waiting turn-on proceed. (R134, R228, R229, R234, R235, R236, R237, R243, R247, R248, R289, R335) -/
def Obligations.CarrierRows : Prop :=
  ∀ (s : State) (l : LaneId) (x : Lane), s.lane l = x → x.sys.halted = false →
    let off (y : Lane) : Lane := each (idxs 12) (fun k z =>
      if (x.axis k).role = .duplexActive ∧ (z.axis k).role = .duplexStandby then z.takeoverCheck k false else z) y
    let grid : Option Nat := if x.afe.calGood then none else some x.freeNow
    (∀ nn : AxisId, (x.axis nn).pwm.running = true → x.clockOn 3 = true → x.inSlice 12 = false → ∀ p : Phase,
      let r := x.axisRec nn
      let w := (x.axis nn).pwm
      let enter (z : Lane) : Lane := (z.onAxis nn fun a => { a with pwm := { a.pwm with
        duty := vset a.pwm.duty p (vget a.pwm.shadow p), thr := vset a.pwm.thr p (vget a.pwm.shadow p)
        fixedInt := vset a.pwm.fixedInt p true, count := vset a.pwm.count p 0 } }).pwmDrive nn
      let next := off (if p = 0 then (enter (x.periodHead nn)).periodTail nn else enter x)
      let mid (z : Lane) : Lane := ((z.event (4 * nn.val + 1) 0).takeSets nn 2).ssiEvent nn 1
      (carrierVar (carrier r) = false →
        (x.periodDue nn = true →
          let free := (if x.afe.calGood then x else x.useFree).periodHead nn
          s.Turns (.periodStart l (.axis nn p)) l (off (((free.onAxis nn fun a =>
            ({ a with pwm := { a.pwm with
              duty := a.pwm.shadow
              thr := if zeroPulse r a.pwm then Vector.replicate 3 (mkRat (brakeLimit r) 8192) else a.pwm.thr } }).placeAll r
                (x.periodLength r) grid).pwmDrive nn).periodTail nn))) ∧
        (x.periodDue nn = false → s.Turns (.periodStart l (.axis nn p)) l x) ∧
        (w.firstWait = false → w.length ≠ 0 → w.since % w.length = w.length / 2 → s.Turns (.periodMid l nn) l (mid x)) ∧
        (zeroPulse r w = true → minPulseNs r ≤ 5 * w.since → s.Turns (.thresholdCrossing l (.axis nn p)) l
          (off ((x.onAxis nn fun a => { a with pwm := { a.pwm with pulseCut := true } }).pwmDrive nn)))) ∧
      (carrierVar (carrier r) = true → s.Turns (.periodStart l (.axis nn p)) l x) ∧
      (carrierVar (carrier r) = true → w.firstWait = false →
        (vget w.fixedInt p = true → tFixedNs r ≤ 5 * vget w.count p →
          let z := (x.onAxis nn fun a => { a with pwm := { a.pwm with
            fixedInt := vset a.pwm.fixedInt p false, varAt := vset a.pwm.varAt p (vget a.pwm.count p) } }).pwmDrive nn
          s.Turns (.cotFixedEnd l (.axis nn p)) l (if p = 0 then mid z else z)) ∧
        (vget w.fixedInt p = false →
          (tLimitNs r ≤ 5 * vget w.count p → s.Turns (.cotLimitExpire l (.axis nn p)) l next) ∧
          (minPulseNs r ≤ 5 * (vget w.count p - vget w.varAt p) → s.Turns (.thresholdCrossing l (.axis nn p)) l next) ∧
          (5 * (vget w.count p - vget w.varAt p) < minPulseNs r → s.Turns (.thresholdCrossing l (.axis nn p)) l x)))) ∧
    (∀ (nn : AxisId) (sw : Switch),
      let z := x.onAxis nn fun a => { a with pwm := { a.pwm with
        dead := bitPut a.pwm.dead sw.val false
        pendOn := bitPut a.pwm.pendOn sw.val false
        cmd := if bit a.pwm.pendOn sw.val then bitPut a.pwm.cmd sw.val true else a.pwm.cmd } }
      s.Turns (.deadTimeEnd l nn sw) l (if z.patternHeld nn then z.driveGates nn else z)) ∧
    (∀ u : Fin 8, (vget x.aux u).running = true →
      let r := x.auxRec u
      let v := vget x.aux u
      let var := carrierVar (auxCarrier r)
      let on := (x.auxCommand u).getD v.on && !x.auxOff
      let waiting := v.wait && decide (v.relAt = some x.tm.loc)
      let pulling := if on = true ∧ v.on = false then decide (pullMs r ≠ 0) else on && v.pulling
      let level := if pulling then levelPull r else levelHold r
      let follow := on && !v.latched && !waiting
      let w := placeWidth (if on then mkRat level 65536 else 0) (32 * auxPeriod r) (natBit (auxFlags r) 1 && follow) v.carry 0
        (auxMinPulseNs r)
      let start := ((if x.afe.calGood then x else x.useFree).onAux u fun a => { a with
        firstWait := false, wait := a.wait && decide (a.relAt = some x.tm.loc), since := 0, on := on, pulling := pulling, level := level, grid := grid
        start := if var then 0 else placeStart (auxCarrier r) (32 * auxPeriod r) w.width, width := if var then 0 else w.width
        carry := if follow then w.carry else a.carry, fixedInt := var, thr := mkRat level 65536 }).auxDrive u
      (x.auxDue u = true → s.Turns (.periodStart l (.aux u)) l (off start)) ∧
      (var = true → v.fixedInt = true → auxFixedNs r ≤ 5 * v.since → s.Turns (.cotFixedEnd l (.aux u)) l
        ((x.onAux u fun a => { a with fixedInt := false, varAt := a.since }).auxDrive u)) ∧
      (var = true → v.fixedInt = false →
        (auxLimitNs r ≤ 5 * v.since → s.Turns (.cotLimitExpire l (.aux u)) l (off start)) ∧
        (auxMinPulseNs r ≤ 5 * (v.since - v.varAt) → s.Turns (.thresholdCrossing l (.aux u)) l (off start))))

/-- DELAY_LINE_CALIBRATION, SHOOT_THROUGH, TRIP_INPUT_CHANGE, AUX_PULL_END, OVERCURRENT_COMPARATOR, BUS_OVERVOLTAGE,
DEBUG_HALT and DEBUG_RESUME complete. Each of these rows completes. A delay-line calibration notes its outcome; after
a good one the edges fall on their steps again, after a bad one, which reports source 23, every edge falls on a
neighbour on the 5 ns grid, which of them a free value says (log 44). SHOOT_THROUGH commands both switches of the pair
off, each with its dead time (log 45), holds and latches the pair and reports the axis's source. A trip input, an
overcurrent comparator and the bus comparator (the two only while conversions run) take their new level, and every
axis and auxiliary output is judged under it: an onset commands the switches off, latches in LATCHED mode and reports
source 117, an end releases in CYCLE mode. AUX_PULL_END ends the pull-in of an output that is not frozen. DEBUG_HALT
halts a lane in WORKSHOP, whose lockstep pair closes its window, and no other; DEBUG_RESUME ends the halt. (R65, R228,
R241, R242, R243, R247, R248, R288, R290) -/
def Obligations.PwmProtectionRows : Prop :=
  ∀ (s : State) (l : LaneId) (x : Lane), s.lane l = x →
    let judged (z : Lane) : Lane :=
      each (idxs 8) (fun u y => y.auxTrip u) (each (idxs 12) (fun nn y => y.tripUpdate (x.tripped nn) nn) z)
    let grids (y : Lane) (f : Nat → Option Nat → Option Nat) : Lane := { y with
      ax := Vector.ofFn fun nn => { x.axis nn with pwm := { (x.axis nn).pwm with grid := f nn.val (x.axis nn).pwm.grid } }
      aux := Vector.ofFn fun u => { vget x.aux u with grid := f (12 + u.val) (vget x.aux u).grid } }
    s.Turns (.delayLineCalibration l true) l (grids { x with afe := { x.afe with calGood := true } } fun _ _ => none) ∧
    s.Turns (.delayLineCalibration l false) l ((grids { x.useFree with afe := { x.afe with calGood := false } } fun k g =>
      some (g.getD (x.freeNow / 64 ^ k % 64))).fault 23 0xFF 0 0 0) ∧
    (∀ (n : Nat) (start width : Int),
      let e := gridInterval (some n) start width
      gridInterval none start width = (start, width) ∧ gridInterval (some n) start 0 = (start, 0) ∧
      (width ≠ 0 → 32 ∣ e.1 ∧ 32 ∣ e.1 + e.2 ∧ |e.1 - start| < 32 ∧ |e.1 + e.2 - (start + width)| < 32)) ∧
    (∀ (nn : AxisId) (p : Phase),
      let off (v : BitVec 6) : BitVec 6 := bitPut (bitPut v (2 * p.val) false) (2 * p.val + 1) false
      let wait := deadOf (x.axisRec nn) p ≠ 0
      s.Turns (.shootThrough l nn p) l (((x.onAxis nn fun a => { a with
        pwm := { a.pwm with
          dead := if wait then bitPut (bitPut a.pwm.dead (2 * p.val) true) (2 * p.val + 1) true else a.pwm.dead
          cmd := off a.pwm.cmd, pendOn := off a.pwm.pendOn, held := bitPut a.pwm.held p.val true }
        gate := { a.gate with cmd := off a.gate.cmd, shoot := bitPut a.gate.shoot p.val true } }).autoOpen nn).fault
          (34 + 4 * nn.val) (x.dev nn) p.val 0 0)) ∧
    (∀ (k : Fin 4) (active : Bool), s.Turns (.tripInputChange l k active) l
      (judged { x with afe := { x.afe with trips := bitPut x.afe.trips k.val active } })) ∧
    (∀ (nn : AxisId) (p : Phase) (active : Bool), x.afe.running = true → s.Turns (.overcurrentComparator l nn p active) l
      (judged (x.onAxis nn fun a => { a with sense := { a.sense with
        oc := bitPut a.sense.oc p.val active } }))) ∧
    (∀ active : Bool, x.afe.running = true →
      s.Turns (.busOvervoltage l active) l (judged { x with afe := { x.afe with busOv := active } })) ∧
    (∀ u : Fin 8, (vget x.aux u).pulling = true → x.sys.halted = false → s.Turns (.auxPullEnd l u) l
      { x with aux := vmod x.aux u fun a => { a with pulling := false, level := levelHold (x.auxRec u) } }) ∧
    (x.sys.mode = .workshop → s.Turns (.debugHalt l) l ({ x with sys := { x.sys with halted := true } }).pairHalt) ∧
    (x.sys.mode ≠ .workshop → s.Turns (.debugHalt l) l x) ∧
    s.Turns (.debugResume l) l { x with sys := { x.sys with halted := false } }

/-- GATE_COMMAND, readback, blanking, shorts and the ends of their turn-offs. Each of GATE_COMMAND, READBACK_MISMATCH,
BLANKING_END, SHORT_DETECTED, SENSE_CELL_FAST_TRIP, TLTO_PLATEAU_END and SOFT_TURN_OFF_END completes. A command off
reaches its gate and ends its blanking; a command on of an enabled axis that holds no pattern reaches its gate and
starts the blanking, or meets the interlock where the complement is commanded on (the model's reading, log 45); an
axis that is not enabled or holds its pattern ignores it; an auxiliary command drives its gate. A readback mismatch
with RB_EN latches the leg, opens it and is reported with its detail byte. A short of a switch that is on and not
blanked, and a fast trip even while blanked, latch the leg, start the turn-off of the axis's class and are reported;
otherwise they do nothing. The end of the plateau or of the soft turn-off passes to full sink, and changes nothing
where the gate is not in that stage. (R241, R257, R258, R259, R260, R262, R263, R275) -/
def Obligations.GateCommandAndFaultRows : Prop :=
  ∀ (s : State) (l : LaneId) (x : Lane) (nn : AxisId) (sw : Switch), s.lane l = x →
    let a := x.axis nn
    let leg := (phaseOf sw).val
    let detail (high : Bool) (detector : Nat) : Nat := 64 * b2n high + 16 * detector + 4 * b2n (isHigh sw) + leg
    let reported (k : Fin 4) (d : Nat) (z : Lane) : Lane :=
      z.fault (32 + 4 * nn.val + k.val) (z.dev nn) d 0 0
    let latched (detector : Nat) : Lane := reported 1 (detail false detector)
      ((x.onAxis nn fun q => { q with gate := { q.gate with
        short := bitPut q.gate.short leg true
        drive := vset q.gate.drive sw (if isHeavy nn.val then .plateau else .soft) } }).autoOpen nn)
    let lit := vget a.gate.drive sw = .on ∧ bit a.gate.short leg = false
    s.Turns (.gateCommand l (.axis nn sw) false) l ((x.onAxis nn fun q => { q with gate := { q.gate with
      cmd := bitPut q.gate.cmd sw.val false, blank := bitPut q.gate.blank sw.val false } }).driveGates nn) ∧
    (a.enabled = true → x.patternHeld nn = false →
      (bit a.gate.cmd (other sw).val = false → s.Turns (.gateCommand l (.axis nn sw) true) l
        ((x.onAxis nn fun q => { q with gate := { q.gate with
          cmd := bitPut q.gate.cmd sw.val true, blank := bitPut q.gate.blank sw.val true } }).driveGates nn)) ∧
      (bit a.gate.cmd (other sw).val = true → s.Turns (.gateCommand l (.axis nn sw) true) l (x.interlock nn (phaseOf sw)))) ∧
    (a.enabled = false ∨ x.patternHeld nn = true → s.Turns (.gateCommand l (.axis nn sw) true) l x) ∧
    (∀ (u : Fin 8) (on : Bool), s.Turns (.gateCommand l (.aux u) on) l
      ({ x with aux := vmod x.aux u fun q => { q with gcmd := on } }.driveAux)) ∧
    (∀ high : Bool,
      (rbEnabled (x.axisRec nn) = true → s.Turns (.readbackMismatch l nn sw high) l
        (reported 3 (detail high 0)
          ((x.onAxis nn fun q => { q with gate := { q.gate with readback := bitPut q.gate.readback leg true } }).autoOpen nn))) ∧
      (rbEnabled (x.axisRec nn) = false → s.Turns (.readbackMismatch l nn sw high) l x)) ∧
    s.Turns (.blankingEnd l nn sw) l
      (x.onAxis nn fun q => { q with gate := { q.gate with blank := bitPut q.gate.blank sw.val false } }) ∧
    (lit → bit a.gate.blank sw.val = false →
      (scEnabled (x.axisRec nn) = true → s.Turns (.shortDetected l nn sw false) l (latched 0)) ∧
      (scellEnabled (x.axisRec nn) nn = true → s.Turns (.shortDetected l nn sw true) l (latched 1))) ∧
    (lit → scellEnabled (x.axisRec nn) nn = true → s.Turns (.senseCellFastTrip l nn sw) l (latched 2)) ∧
    (¬ lit ∨ bit a.gate.blank sw.val = true ∨ scEnabled (x.axisRec nn) = false → s.Turns (.shortDetected l nn sw false) l x) ∧
    (¬ lit ∨ bit a.gate.blank sw.val = true ∨ scellEnabled (x.axisRec nn) nn = false →
      s.Turns (.shortDetected l nn sw true) l x) ∧
    (¬ lit ∨ scellEnabled (x.axisRec nn) nn = false → s.Turns (.senseCellFastTrip l nn sw) l x) ∧
    (vget a.gate.drive sw ≠ .plateau → s.Turns (.tltoPlateauEnd l nn sw) l x) ∧
    (vget a.gate.drive sw ≠ .soft → s.Turns (.softTurnOffEnd l nn sw) l x) ∧
    (vget a.gate.drive sw = .plateau → s.Turns (.tltoPlateauEnd l nn sw) l
      (x.onAxis nn fun q => { q with gate := { q.gate with drive := vset q.gate.drive sw .off } })) ∧
    (vget a.gate.drive sw = .soft → s.Turns (.softTurnOffEnd l nn sw) l
      (x.onAxis nn fun q => { q with gate := { q.gate with drive := vset q.gate.drive sw .off } }))

/-- VGD groups, floating supplies and x_GDEN. Each of VGD_UVLO, VGD_VALID, FLOAT_UVLO, GDEN_LOW and GDEN_RISE
completes. A valid VGD group that becomes invalid drives its gates low, latches its undervoltage, opens the legs of
its three axes and is reported once for each of them; an invalid one changes nothing. A group that becomes valid is
noted as having been valid. A floating supply that falls is noted, and latched, opened and reported where its axis is
enabled and its group valid; one that rises is noted. x_GDEN low drives every gate; its rise after a long low, which
the row says (log 36), clears the latches, latches again what the die still sees and drives every gate, and after a
short low only drives every gate; where x_GDEN is high already the rise changes nothing. (R265, R266, R272, R273) -/
def Obligations.GateSupplyRows : Prop :=
  ∀ (s : State) (l : LaneId) (x : Lane), s.lane l = x →
    (∀ g : Fin 4,
      (bit x.gd.valid g.val = true →
        let z := { x with gd := { x.gd with valid := bitPut x.gd.valid g.val false } }.driveAll
        let w := each [0, 1, 2] (fun i y => y.autoOpen (fin (3 * g.val + i)))
          { z with gd := { z.gd with uvlo := bitPut z.gd.uvlo g.val true } }
        s.Turns (.vgdUvlo l g) l (w.collect ([0, 1, 2].map fun i =>
          let nn : AxisId := fin (3 * g.val + i)
          report (32 + 4 * nn.val) (w.dev nn) 0x0B 0 0))) ∧
      (bit x.gd.valid g.val = false → s.Turns (.vgdUvlo l g) l x) ∧
      s.Turns (.vgdValid l g) l ({ x with gd := { x.gd with
        valid := bitPut x.gd.valid g.val true, everValid := bitPut x.gd.everValid g.val true } }.driveAll)) ∧
    (∀ (nn : AxisId) (p : Phase),
      let z (low : Bool) : Lane :=
        (x.onAxis nn fun a => { a with gate := { a.gate with floatLow := bitPut a.gate.floatLow p.val low } }).driveGates nn
      s.Turns (.floatUvlo l nn p false) l (z false) ∧
      s.Turns (.floatUvlo l nn p true) l
        (if ((z true).axis nn).enabled = true ∧ bit (z true).gd.valid (groupOf nn) = true then
          let w := ((z true).onAxis nn fun a => { a with gate := { a.gate with uvlo := bitPut a.gate.uvlo p.val true } }).autoOpen nn
          w.fault (32 + 4 * nn.val) (w.dev nn) (4 + p.val) 0 0
        else z true)) ∧
    s.Turns (.gdenLow l) l ({ x with gd := { x.gd with gden := false } }.driveAll) ∧
    (x.gd.gden = false →
      let z := { x with gd := { x.gd with gden := true } }
      s.Turns (.gdenRise l true) l ((z.clearGateLatches.relatch).driveAll) ∧ s.Turns (.gdenRise l false) l z.driveAll) ∧
    (x.gd.gden = true → ∀ long : Bool, s.Turns (.gdenRise l long) l x)

/-- Conversions, sensor supplies and encoder emulation. Each of ADC_CONVERSION_COMPLETE, BACKGROUND_SLOT_FORCE,
SENSOR_SUPPLY_FAULT, SENSOR_SUPPLY_SETTLE, SPEED_STOP and EMULATION_STEP completes. While conversions run and their
clock is good, the conversion that an ADC has under way ends: one of its queue leaves it, its calibrated code joins
its set, and the last of its set publishes the set, under the content it was held with (log 43), and raises event 4 nn
+ 2; any other is the next conversion of the background rotation. The ADC then takes a forced slot unless it is in the
middle of a set, else its queue, else its rotation. A background slot is forced where no whole rotation has completed
within aux_period_us and no slot has been forced for as long, and otherwise not. While conversions are stopped nothing
happens. A supply that is not on does not fail again; one that is on and fails is switched off, settling ends and the
channel has error 7. The end of the settling time and of the stop time are noted in the channel. EMULATION_STEP of a
running output with a valid accumulator, a good clock, a count off its target and no step in the last 100 ns moves the
emitted count by one towards the target and sets the levels of that count; an output at its target or too soon after
its last step, or one that does not run, has no valid accumulator or no good clock, changes nothing. (R281, R283,
R284, R285, R286, R287, R293, R296, R311, R316) -/
def Obligations.ConversionAndSensorSupplyRows : Prop :=
  (∀ (s : State) (l : LaneId) (x : Lane) (a : Fin 6), s.lane l = x →
     let next (y : Lane) (mid : Bool) : Lane :=
       if vget y.afe.forced a = true ∧ mid = false then
         { y with afe := { y.afe with now := vset y.afe.now a .forced, forced := vset y.afe.forced a false } }
       else { y with afe := { y.afe with
         now := vset y.afe.now a (if (vget y.afe.queues a).isEmpty then .background else .conv) } }
     (x.afe.running = true → x.afeOk = true → ∀ raw : Int,
       (vget x.afe.now a ≠ .conv ∨ vget x.afe.queues a = [] →
         s.Turns (.adcConversionComplete l a raw) l (next (x.background a raw) false)) ∧
       (∀ c cs, vget x.afe.now a = .conv → vget x.afe.queues a = c :: cs →
         let mid := match cs with | d :: _ => decide (d.nn = c.nn ∧ d.set = c.set ∧ d.heldAt = c.heldAt) | [] => false
         let y := { x with afe := { x.afe with queues := vset x.afe.queues a cs } }
         let k := vget (y.axis c.nn).sense.sets c.set
         let codes := k.codes ++ [y.calibrate c.nn c.input raw]
         (2 ≤ k.left → s.Turns (.adcConversionComplete l a raw) l
           (next (y.onAxis c.nn fun q => { q with sense := { q.sense with
             sets := vset q.sense.sets c.set { k with left := k.left - 1, codes := codes } } }) mid)) ∧
         (k.left ≤ 1 → s.Turns (.adcConversionComplete l a raw) l
           (next ((y.onAxis c.nn fun q => { q with sense := { q.sense with
             sets := vset q.sense.sets c.set ConvSet.cold,
             done := { set := c.set.val, content := k.content, codes := codes } ::
               q.sense.done.filter fun d => d.set ≠ c.set.val } }).event (4 * c.nn.val + 2) c.set.val) mid)))) ∧
     (let now := x.tm.loc.toNat
      let p := 1000 * auxPeriodUs x.laneRec
      let due := x.afe.running = true ∧ vget x.afe.rotAt a + p ≤ now ∧ ∀ t, vget x.afe.forceAt a = some t → t + p ≤ now
      (due → s.Turns (.backgroundSlotForce l a) l { x with afe := { x.afe with
         forced := vset x.afe.forced a true, forceAt := vset x.afe.forceAt a (some now) } }) ∧
      (¬ due → s.Turns (.backgroundSlotForce l a) l x)) ∧
     (x.afe.running = false ∨ x.afeOk = false → ∀ raw, s.Turns (.adcConversionComplete l a raw) l x)) ∧
  (∀ (s : State) (l : LaneId) (x : Lane), s.lane l = x →
     (∀ nn : AxisId,
       let set (g : Feedback → Feedback) : Lane := x.onAxis nn fun a => { a with fb := g a.fb }
       ((x.axis nn).fb.supply = .on → s.Turns (.sensorSupplyFault l nn) l
         ((set fun q => { q with supply := .tripped, settling := false }).fbError nn 7)) ∧
       ((x.axis nn).fb.supply ≠ .on → s.Turns (.sensorSupplyFault l nn) l x) ∧
       s.Turns (.sensorSupplySettle l nn) l (set fun q => { q with settling := false }) ∧
       s.Turns (.speedStop l nn) l (set fun q => { q with stopped := true })) ∧
     (∀ e : Fin 2, (vget x.emu e).running = true → (x.axis (x.emulNn e)).acc.valid = true → x.fbClock = true →
       let n := (vget x.emu e).count
       let t := x.emulTarget e
       let now := x.tm.loc.toNat
       let rested := ∀ m, (vget x.emu e).stepAt = some m → m + 100 ≤ now
       let move (k : Int) : Lane :=
         { x with emu := vmod x.emu e fun u => { u with count := k, stepAt := some now }.levels (x.emulRec e) }
       (rested → n < t → s.Turns (.emulationStep l e) l (move (n + 1))) ∧
       (rested → t < n → s.Turns (.emulationStep l e) l (move (n - 1))) ∧
       (n = t ∨ ¬ rested → s.Turns (.emulationStep l e) l x)) ∧
     (∀ e : Fin 2, (vget x.emu e).running = false ∨ (x.axis (x.emulNn e)).acc.valid = false ∨ x.fbClock = false →
       s.Turns (.emulationStep l e) l x))

/-- ENCODER_TRANSITION, HALL_CHANGE, the SSI and SENT words and the channel's errors. Each of ENCODER_TRANSITION,
HALL_CHANGE, SSI_BURST_START, SSI_WORD_RECEIVE, SENT_FRAME_RECEIVE and FEEDBACK_TIMEOUT completes. The levels of a
transition stand at the three inputs; the PWM cycle samples them once, through the filters, and the accepted levels
are decoded under the channel's protocol. Encoder: the first accepted sample sets the levels, a transition after it
counts one step forward or back, an illegal one is error 5, one beyond the highest count rate may count or not (log
65). Hall: the neighbouring sector steps, the same changes nothing, one that skips a sector is a skip, an illegal one
error 5 once, the first one takes its sector's centre (log 46). An SSI burst starts on its trigger, or at any time
under FREE, when none runs and the recovery time has passed, and its word is decoded, Gray where set, and taken or
rejected with its cause, a line low at the start or not high again within the recovery time being error 4. A SENT
frame is timed and checked (by SAE J2716 where the spec names it, logs 18 and 66), a low pulse under 4 ticks, that of
the sync pulse included, being error 4, its message bits are collected, and it is taken or rejected. A timeout of an
SSI or SENT channel is error 3. On a channel that does not decode the protocol the words, bursts and timeouts change
nothing. (R295, R296, R299, R300, R302, R303, R304, R305, R306, R307, R308, R309) -/
def Obligations.PositionSensorRows : Prop :=
  ∀ (s : State) (l : LaneId) (x : Lane) (nn : AxisId), s.lane l = x →
    let r := x.axisRec nn
    let f := (x.axis nn).fb
    let set (g : Feedback → Feedback) : Lane := x.onAxis nn fun a => { a with fb := g a.fb }
    (∀ (i : Instr) (a b c : Bool),
      i = .encoderTransition l nn a b c ∨ (∃ h, i = .hallChange l nn h ∧ a = bit h 0 ∧ b = bit h 1 ∧ c = bit h 2) →
      let pins (g : InFilter → InFilter) : Vector InFilter 3 := Vector.ofFn fun k : Fin 3 =>
        g { vget f.ins k with pin := if k = 0 then a else if k = 1 then b else c }
      let ins := pins fun u => u.sample (filterCycles r)
      let level (k : Fin 3) := (vget ins k).level
      (f.sampled = true ∨ x.fbClock = false → s.Turns i l (set fun q => { q with ins := pins fun u => u })) ∧
      (f.sampled = false → x.fbClock = true →
        (level 0 = none ∨ level 1 = none ∨ level 2 = none ∨ (x.decodes nn 1 = false ∧ x.decodes nn 2 = false) →
          s.Turns i l (set fun q => { q with sampled := true, ins := ins })) ∧
        (∀ u v w, level 0 = some u → level 1 = some v → level 2 = some w →
          (x.decodes nn 1 = true →
            let z := set fun q => { q with sampled := true, ins := ins, a := u, b := v, z := w }
            (f.first = false →
              s.Turns i l ((set fun q => { q with sampled := true, ins := ins }).abzFirst nn u v w)) ∧
            (f.first = true →
              (quadStep r f.a f.b u v = none → s.Turns i l (z.fbError nn 5)) ∧
              (quadStep r f.a f.b u v = some 0 → s.Turns i l z) ∧
              (∀ d, d ≠ 0 → quadStep r f.a f.b u v = some d →
                (x.tooFast nn = false → s.Turns i l (z.abzStep nn d)) ∧
                (x.tooFast nn = true → s.Turns i l z.useFree ∨ s.Turns i l (z.useFree.abzStep nn d))))) ∧
          (x.decodes nn 2 = true →
            let h := BitVec.ofNat 3 (b2n u + 2 * b2n v + 4 * b2n w)
            let z := set fun q => { q with sampled := true, ins := ins, hall := some h, a := u, b := v, z := w }
            (hallSector r h = none → f.hall = some h → s.Turns i l z) ∧
            (hallSector r h = none → f.hall ≠ some h → s.Turns i l (z.fbError nn 5)) ∧
            (∀ k, hallSector r h = some k → f.sector = none → s.Turns i l (z.hallFirst nn k)) ∧
            (∀ k j, hallSector r h = some k → f.sector = some j → j < 6 →
              (k = j → s.Turns i l z) ∧
              (k = (j + 1) % 6 → s.Turns i l (z.hallStep nn k 1)) ∧
              (j = (k + 1) % 6 → s.Turns i l (z.hallStep nn k (-1))) ∧
              (∀ d, 2 ≤ d → d ≤ 4 → k = (j + d) % 6 → s.Turns i l (z.hallSkip nn k d))))))) ∧
    (let may := x.decodes nn 3 = true ∧ f.burst = false ∧ f.readyAt ≤ x.tm.loc.toNat ∧ (f.ssiDue = true ∨ ssiTrigger r = 2)
     (may → s.Turns (.ssiBurstStart l nn) l
       (set fun q => { q with burst := true, burstAt := x.tm.loc.toNat, ssiDue := false })) ∧
     (¬ may → s.Turns (.ssiBurstStart l nn) l x)) ∧
    (∀ (w : SsiWord) (first : Bool) (mt : Nat) (turn : Int),
      w.startHigh = false ∨ w.highAfter = none ∨ (∃ t, w.highAfter = some t ∧ 1000 * monoUs r < t) →
        ssiCause r w first mt turn = some 4) ∧
    (∀ w : SentFrame, 56 * w.syncLow < 4 * w.sync ∨ (∃ p ∈ w.pulses, 56 * p.low < 4 * w.sync) → sentCause r w = some 4) ∧
    (∀ w : SsiWord, x.decodes nn 3 = false ∨ f.burst = false → s.Turns (.ssiWordReceive l nn w) l x) ∧
    (x.decodes nn 3 = true → f.burst = true → ∀ w : SsiWord,
      let y := set fun q => { q with burst := false, readyAt := x.tm.loc.toNat + 1000 * monoUs r }
      let v := w.bits.toNat / 2 ^ (ssiStatus r + 6 * ssiCrc r)
      let group (u n : Nat) : Nat := if ssiGray r then grayDecode (u % 2 ^ n) n else u % 2 ^ n
      let frac : Rat := mkRat (group v (stBits r)) (2 ^ stBits r)
      let mt := group (v / 2 ^ stBits r) (mtBits r)
      let cause := ssiCause r w f.first mt (f.pos + wrapTurn (frac - f.pos)).floor
      (∀ c, cause = some c → s.Turns (.ssiWordReceive l nn w) l (y.fbError nn c)) ∧
      (cause = none → s.Turns (.ssiWordReceive l nn w) l (y.wordGood nn f.burstAt frac (mt + frac)))) ∧
    (∀ w : SentFrame,
      let lost := sentCause r w = some 4 ∨ sentCause r w = some 2
      let e := if lost then ({ f with esm := [] }, false) else f.esmStep r w
      let y := set fun _ => e.1
      let code := ((sentData w).take (stBits r / 4)).foldl (fun (v : Nat) n => 16 * v + n.toNat) 0
      let frac : Rat := mkRat code (2 ^ stBits r)
      (x.decodes nn 4 = false → s.Turns (.sentFrameReceive l nn w) l x) ∧
      (x.decodes nn 4 = true →
        (∀ c, sentCause r w = some c →
          (e.2 = false ∨ (y.axis nn).fb.deaf 8 = true → s.Turns (.sentFrameReceive l nn w) l (y.fbError nn c)) ∧
          (e.2 = true → (y.axis nn).fb.deaf 8 = false →
            s.Turns (.sentFrameReceive l nn w) l ((y.event (89 + 2 * nn.val) 8).fbError nn c))) ∧
        (sentCause r w = none → e.2 = true → s.Turns (.sentFrameReceive l nn w) l (y.fbError nn 8)) ∧
        (sentCause r w = none → e.2 = false →
          s.Turns (.sentFrameReceive l nn w) l (y.wordGood nn w.sample.toNat frac (e.1.pos.floor + frac))))) ∧
    (x.decodes nn 3 = true ∨ x.decodes nn 4 = true → s.Turns (.feedbackTimeout l nn) l (x.fbError nn 3)) ∧
    (x.decodes nn 3 = false → x.decodes nn 4 = false → s.Turns (.feedbackTimeout l nn) l x)

/-- The sensorless supervisor's timers and transitions. Each of LOCK_WRITE_TIMEOUT, HFI_ACQ_TIMEOUT, POLARITY_END,
CATCH_WINDOW_END, COAST_END, CATCH_COUNT_CLEAR and ANNOUNCE_REPEAT completes. A write timeout makes a locked judge of
a judged state lose lock; the end of a time limit is noted where the supervisor is in the state it limits; the count
clears while locked; an announcement repeats the drive state where the supervisor runs and the repeat time is not
zero. What follows is judged at the end of the PWM cycle (log 42), at most one transition in a cycle and a lock first:
POLARITY passes to HFI; HFI locked from the exit speed up to OBSERVER, lost or not locked in time to CATCH; OBSERVER
below the entry speed to HFI, lost to COAST from the coast speed up and else to CATCH; COAST locked to OBSERVER, else
to CATCH; CATCH locked to the state of its speed, and an unlocked window that ends counts: below three it starts anew,
at three the supervisor has FAILED, source 121 is reported and the axis is in its safe state. A passage that no lock
causes restarts the judge; every passage but to COAST, and but one that a lock causes other than to POLARITY, leaves
the accumulator INVALID; CATCH loads mask_init and holds the switches off. An axis that is enabled starts the
supervisor as start_mode says, and a FALLBACK switch from IDLE leads to the state it names, each in the next cycle
where this one has had its passage; a safe-state entry leads to IDLE, the count kept, from every state but FAILED, and
wins over a passage of the same cycle, which is then not announced. The passage that a cycle has had is announced at
its end, in the mode list, with the tag of the state. (R326, R327, R328, R329, R330, R331, R332, R333, R339) -/
def Obligations.SupervisorTimers : Prop :=
  (∀ (s : State) (l : LaneId) (x : Lane) (nn : AxisId), s.lane l = x →
    let u := (x.axis nn).sup
    let timeUp (d : Drive) : Lane :=
      if u.drive = d then x.onAxis nn fun a => { a with sup := { a.sup with due := true } } else x
    s.Turns (.lockWriteTimeout l nn) l
      (if u.drive ∈ [Drive.hfi, .catching, .observer, .coast] ∧ u.locked = true then
        x.onAxis nn fun a => { a with sup := { a.sup with lost := true } } else x) ∧
    s.Turns (.hfiAcqTimeout l nn) l (timeUp .hfi) ∧
    s.Turns (.polarityEnd l nn) l (timeUp .polarity) ∧
    s.Turns (.catchWindowEnd l nn) l (timeUp .catching) ∧
    s.Turns (.coastEnd l nn) l (timeUp .coast) ∧
    s.Turns (.catchCountClear l nn) l
      (if u.locked = true then x.onAxis nn fun a => { a with sup := { a.sup with fails := 0 } } else x) ∧
    s.Turns (.announceRepeat l nn) l
      (if x.supRuns nn = true ∧ announceUs (x.axisRec nn) ≠ 0 then x.announce nn u.drive else x)) ∧
  (∀ (x : Lane) (nn : AxisId),
    let r := x.axisRec nn
    let u := (x.axis nn).sup
    let pass (z : Lane) (d : Drive) (keep : Bool) : Lane :=
      z.onAxis nn fun a => { a with
        sup :=
          if keep then { a.sup with drive := d, off := a.sup.off || decide (d = .catching), due := false, lost := false,
                                    movedAt := some z.tm.loc, start := false, fall := none, say := true }
          else { a.sup with drive := d, off := a.sup.off || decide (d = .catching), due := false, lost := false,
                            locked := false, good := 0, bad := 0, ref := none, last := none, movedAt := some z.tm.loc,
                            start := false, fall := none, say := true },
        acc := { a.acc with valid := a.acc.valid && (decide (d = .coast) || (keep && decide (d ≠ .polarity))) },
        pwm := if d = .catching then { a.pwm with mask := BitVec.ofNat 6 (maskInit r) } else a.pwm }
    let first : Drive := if startMode r = 1 then .hfi else if startMode r = 2 then .polarity else .catching
    let y := x.onAxis nn fun a => { a with sup := { a.sup with start := false, fall := none } }
    let held := u.locked = true ∧ u.lost = false
    let free := u.start = false ∧ (u.drive = .idle → u.fall = none)
    (u.movedAt = some x.tm.loc → x.supEval nn = x) ∧
    (u.movedAt ≠ some x.tm.loc → u.drive = .idle ∨ u.drive = .failed → u.start = true →
      x.supEval nn = pass x first false) ∧
    (u.movedAt ≠ some x.tm.loc → u.drive = .idle → u.start = false → ∀ d, u.fall = some d →
      x.supEval nn = pass x d false) ∧
    (u.movedAt ≠ some x.tm.loc → u.drive = .idle ∨ u.drive = .failed → free → x.supEval nn = y) ∧
    (u.movedAt ≠ some x.tm.loc →
      (u.drive = .polarity → x.supEval nn = if u.due = true then pass y .hfi false else y) ∧
      (u.drive = .hfi → x.supEval nn =
        if held ∧ hfiExitDhz r ≤ u.speed then pass y .observer true
        else if u.lost = true ∨ (u.due = true ∧ u.locked = false) then pass y .catching false else y) ∧
      (u.drive = .observer → x.supEval nn =
        if u.speed < hfiEnterDhz r then pass y .hfi false
        else if u.lost = false then y
        else if coastMinDhz r ≤ u.speed then pass y .coast false else pass y .catching false) ∧
      (u.drive = .coast → x.supEval nn =
        if held then pass y .observer true else if u.due = true then pass y .catching false else y) ∧
      (u.drive = .catching → held → x.supEval nn =
        pass y (if hfiExitDhz r ≤ u.speed then .observer
          else if u.speed < catchMinDhz r ∧ startMode r = 2 then .polarity else .hfi) true) ∧
      (u.drive = .catching → ¬ held → x.supEval nn =
        if u.due = false then y
        else
          let z := y.onAxis nn fun a => { a with sup := { a.sup with fails := a.sup.fails + 1 } }
          if u.fails < 2 then pass z .catching false
          else ((pass z .failed false).fault 121 (z.dev nn) 0 0 0).enterSafe nn)) ∧
    (let e := x.onAxis nn fun a => { a with sup := { a.sup with fails := 0 } }
     (x.supRuns nn = true → u.drive = .idle ∨ u.drive = .failed →
       (u.movedAt ≠ some x.tm.loc → x.supStart nn = pass e first false) ∧
       (u.movedAt = some x.tm.loc → x.supStart nn = e.onAxis nn fun a => { a with sup := { a.sup with start := true } }))) ∧
    (u.drive ≠ .idle → u.drive ≠ .failed →
      let g := (x.supIdle nn).axis nn
      g.sup.drive = .idle ∧ g.sup.locked = false ∧ g.sup.fails = u.fails ∧ g.sup.movedAt = some x.tm.loc ∧
      (g.sup.say = true ↔ u.shown ≠ .idle) ∧ (x.supRuns nn = true → g.acc.valid = false)) ∧
    (u.drive = .failed → ((x.supIdle nn).axis nn).sup.drive = .failed) ∧
    (let g := x.onAxis nn fun a => { a with sup := { a.sup with shown := a.sup.drive, say := false } }
     (u.say = false → x.supSay nn = g) ∧
     (u.say = true → natBit (commFlags r) 2 = true → x.keeperStopped = false →
       let d : Fin 16 := fin (modeList r)
       x.supSay nn = g.dlInsert d (g.dlPresent d) (BitVec.ofNat 16 (modeTag r + driveCode u.drive)) none) ∧
     (u.say = true → natBit (commFlags r) 2 = false ∨ x.keeperStopped = true → x.supSay nn = g)))

/-- A checkpoint's commit completes in the Granary. GRANARY_COMMIT_DONE completes. With a commit in progress and the
Granary controller not under test (slice 8), it writes the record's bytes into the slot chosen, ends the commit, marks
the slot torn or not by the record's own check and raises event 201. A torn record has no other effect; a valid one is
compared by the monitor, whose mismatch counter rises or restarts, and then the causes of a takeover are judged.
Otherwise nothing changes (log 3). (R349, R350, R351, R352) -/
def Obligations.CheckpointCommit : Prop :=
  ∀ (s : State) (l : LaneId) (x : Lane) (nn : AxisId), s.lane l = x →
    let u := (x.axis nn).red
    (u.commit = none ∨ x.inSlice 8 = true → s.Turns (.granaryCommitDone l nn) l x) ∧
    (∀ (k : Nat) (b : Bytes), u.commit = some (k, b) → x.inSlice 8 = false →
      let ok := ckptValid (peer0 (x.axisRec nn)) b
      let z := (({ x with mem := { x.mem with granary := memWriteN x.mem.granary (granaryAt nn k) b } }).onAxis nn fun a =>
        { a with red := { a.red with commit := none, torn := !ok } }).event 201 (x.dev nn)
      (ok = false → s.Turns (.granaryCommitDone l nn) l z) ∧
      (ok = true → monMode (z.axisRec nn) = 0 ∨ (z.axis nn).acc.valid = false ∨ z.tm.sync = .none →
        s.Turns (.granaryCommitDone l nn) l (z.takeoverCheck nn (ckptFinal b))) ∧
      (ok = true → monMode (z.axisRec nn) ≠ 0 → (z.axis nn).acc.valid = true → z.tm.sync ≠ .none →
        s.Turns (.granaryCommitDone l nn) l ((z.onAxis nn fun a => { a with
          red := { a.red with mismatch := if z.monBad nn b = true then a.red.mismatch + 1 else 0 } }).takeoverCheck nn (ckptFinal b))))

/-- Waiting for RELEASED, takeovers and test rotations. Each of TAKE_SEND, TAKE_WAIT_TIMEOUT and STANDBY_TEST_ROTATION
completes. While a MISMATCH takeover waits, TAKE goes to the active member's lane as a class 2 frame (log 50), and the
end of the wait stands the member by again, ends the takeover and reports source 119; without such a wait neither does
anything. A rotation of a duplex-standby member in LANE_ACTIVE, be it in its safe state, outside a takeover is counted
and its parts are kept, a failed gate pulse also being latched as a readback mismatch; in any other state it changes
nothing. A takeover begins with event 198 and the stop of a commit; with a usable record it writes the record's values
into the gather-list words, without one it goes on (COLD) or fails (SAFE), and with the enable conditions met it goes
on at once: the current role becomes DUPLEX_ACTIVE, a held profile ends, the outputs are enabled, those of a MISMATCH
waiting for RELEASED, and the supervisor starts. An axis whose conditions are not met fails with source 119, an ABORT
being sent first where the cause is PLANNED. (R338, R352, R353, R354, R360, R399) -/
def Obligations.TakeoverWaitAndRotations : Prop :=
  (∀ (s : State) (l : LaneId) (x : Lane) (nn : AxisId), s.lane l = x →
    let r := x.axisRec nn
    let u := (x.axis nn).red
    let waits := ∃ t : Takeover, u.takeover = some t ∧ t.cause = .mismatch ∧ t.released = false
    (waits → s.Turns (.takeSend l nn) l (x.sendLink (axisLane (peer0 r)) 2 (.take (peer0 r)))) ∧
    (¬waits → s.Turns (.takeSend l nn) l x) ∧
    (waits →
      let z := x.dropMember nn
      s.Turns (.takeWaitTimeout l nn) l (z.fault 119 (x.dev nn) 0 0 0) ∧
        (z.axis nn).role = .duplexStandby ∧ (z.axis nn).red.takeover = none ∧ (z.axis nn).red.mismatch = 0) ∧
    (¬waits → s.Turns (.takeWaitTimeout l nn) l x) ∧
    (∀ t : StandbyResult,
      (x.sys.lstate = .active ∧ (x.axis nn).role = .duplexStandby ∧ u.takeover = none →
        let z := x.onAxis nn fun a => { a with red := { a.red with
          rotation := a.red.rotation + 1,
          gateFail := if gateTest r = true then decide (t.gateFail ≠ 0) else a.red.gateFail,
          cmpFail := if cmpTest r = true then decide (t.cmpFail ≠ 0) else a.red.cmpFail } }
        s.Turns (.standbyTestRotation l nn t) l
          (if gateTest r = true then
            each (idxs 6) (fun sw y => if bit t.gateFail sw.val = true then y.readback nn sw (bit t.gateHigh sw.val) else y) z
          else z)) ∧
      (¬(x.sys.lstate = .active ∧ (x.axis nn).role = .duplexStandby ∧ u.takeover = none) → s.Turns (.standbyTestRotation l nn t) l x))) ∧
  (∀ (x : Lane) (nn : AxisId) (cause : TakeCause),
    let z0 := x.onAxis nn fun a => { a with red := { a.red with
      takeover := some { cause := cause, role := false, duty := false, released := false }, planned := .none } }
    let z := (z0.event 198 (z0.dev nn)).stopCommit nn
    let aborted (y : Lane) : Lane :=
      let p := peer0 (y.axisRec nn)
      if cause = .planned then y.sendLink (axisLane p) 2 (.abort p) else y
    let goes (y : Lane) : Lane :=
      if y.canEnable nn = true then y.takeoverGo nn
      else let w := (aborted y).enterSafe nn; w.fault 119 (w.dev nn) 0 0 0
    (∀ (b : Bytes) (k : Fin 64) (j : Nat), z.usableRecord nn = some (b, k, j) →
      x.takeoverRun nn cause = goes ((z.onSlot k fun q => q.scatter j b).onAxis nn fun a =>
        { a with red := { a.red with ckptSeq := BitVec.ofNat 32 (ckptSeqOf b) } })) ∧
    (z.usableRecord nn = none → staleAction (z.axisRec nn) ≠ 1 →
      x.takeoverRun nn cause = goes (z.onAxis nn fun a => { a with red := { a.red with ckptSeq := 0 } })) ∧
    (z.usableRecord nn = none → staleAction (z.axisRec nn) = 1 → x.takeoverRun nn cause = (aborted z).enterSafe nn) ∧
    (∀ y : Lane,
      let w := y.setRole nn .duplexActive
      y.takeoverGo nn = (((w.onAxis nn fun a => { a with
        red := { a.red with takeover := a.red.takeover.map fun t => { t with
          role := true, released := decide (t.cause ≠ .mismatch) } } }).endProfile nn).enableOutputs nn).supStart nn))

/-- Reports that reach the collector and lines that return to HEALTHY. Each of FAULT_REPORT, FAULT_LINE_INVALID,
COMPLEMENT_MISMATCH and FAULT_LINE_HEALTHY completes; reports of reserved sources count for nothing. The condition
that a report tells of stands from it on, of a clock, a rail, a home port or a die temperature, be the lane held in
reset or parked (log 24). While the lane works, each report then acts in the block it comes from: a memory source
halts the slot named and frees the units of the nodes concerned, a dispatcher source halts every slot, a lockstep
source holds the pair and discards the windows not yet clean, and masked or other sources do nothing further (the
model's reading, log 36); and the collector takes them as one monitor cycle. An invalid line counts as a report of its
source with WIRE set, which tells of no condition. A register that differs from its complement copy reports source 0
with COMPLEMENT and its offset; with a record held and the register part of it, source 0 replaces the record, OVERFLOW
is set and events 208 and, where the bit rose, 209 are raised. FAULT_LINE_HEALTHY ends the condition and the line's
invalid code; unless the block still holds its condition (log 35), it clears the present bit and the report that the
line holds too. Without power or in reset the conditions and invalid codes alone change (log 3). (R26, R163, R362,
R363, R364, R365, R370, R372, R380, R384, R389) -/
def Obligations.FaultReportRows : Prop :=
  let cond (y : Lane) (src index : Nat) (on : Bool) : Lane := { y with sys :=
    if 16 ≤ src ∧ src ≤ 22 then { y.sys with badClocks := bitPut y.sys.badClocks (src - 16) on }
    else if src = 25 then { y.sys with railBad := on }
    else if src = 26 then { y.sys with portLost := if on then bitPut y.sys.portLost (index / 16) true else 0 }
    else if 113 ≤ src ∧ src ≤ 116 ∧ on then { y.sys with hot := bitPut y.sys.hot (src - 113) true }
    else y.sys }
  (∀ (s : State) (l : LaneId) (x : Lane), s.lane l = x →
    let real (fs : List Flagged) : List Flagged := fs.filter fun f => !srcReserved f.rep.src.val
    let told (fs : List Flagged) : Lane :=
      each (real fs) (fun f y => if f.wire then y else cond y f.rep.src.val f.rep.index.toNat true) x
    let fed (fs : List Flagged) : Lane := (each (real fs) (fun f y => y.reportBlock f) (told fs)).collect (real fs)
    let flags (rs : List Report) : List Flagged := rs.map fun r => { rep := r, wire := false, complement := false }
    let invalid (src : Fin 128) : Flagged :=
      { rep := { src := src, axis := 0xFF, detail := 0, index := 0, data := 0, units := [] }, wire := true, complement := false }
    let ended (src : Fin 128) : Lane :=
      let v := cond x src.val 0 false
      { v with fc := { v.fc with invalid := bitPut v.fc.invalid src.val false } }
    (x.awake = true →
      (∀ rs, s.Turns (.faultReport l rs) l (fed (flags rs))) ∧
      (∀ (src : Fin 128) (code : Bool), s.Turns (.faultLineInvalid l src code) l (fed [invalid src])) ∧
      (∀ off, storedReg off = true → bit x.fc.mask 0 = false →
        let f : Flagged := { rep := { src := 0, axis := 0xFF, detail := 0, index := BitVec.ofNat 16 off, data := 0, units := [] },
                             wire := false, complement := true }
        let z := x.collect [f]
        (x.fc.first ≠ none → off < 0x1C →
          let w := ({ z with fc := { z.fc with first := some (z.record f 3), overflow := true } }.event 208 0).irq 0x40
          s.Turns (.complementMismatch l off) l (if z.fc.overflow = true then w else w.event 209 0)) ∧
        (x.fc.first = none ∨ 0x1C ≤ off → s.Turns (.complementMismatch l off) l z)) ∧
      (∀ off, storedReg off = false ∨ bit x.fc.mask 0 = true → s.Turns (.complementMismatch l off) l x) ∧
      (∀ src : Fin 128,
        let v := ended src
        (v.lineHeld src.val = true → s.Turns (.faultLineHealthy l src) l v) ∧
        (v.lineHeld src.val = false → s.Turns (.faultLineHealthy l src) l
          { v with fc := { v.fc with present := bitPut v.fc.present src.val false,
                                     lines := v.fc.lines.filter fun r => r.src.val ≠ src.val } }))) ∧
    (x.awake = false →
      (∀ rs, s.Turns (.faultReport l rs) l (told (flags rs))) ∧
      (∀ src code, s.Turns (.faultLineInvalid l src code) l (if srcReserved src.val then x
        else { x with fc := { x.fc with invalid := bitPut x.fc.invalid src.val true } })) ∧
      (∀ off, s.Turns (.complementMismatch l off) l x) ∧ (∀ src, s.Turns (.faultLineHealthy l src) l (ended src)))) ∧
  (∀ (x : Lane) (f : Flagged),
    let src := f.rep.src.val
    (bit x.fc.mask src = true → x.reportBlock f = x) ∧
    (bit x.fc.mask src = false →
      (src = 6 ∨ src = 7 → f.wire = false → ∀ k : Fin 64, f.rep.index.toNat = k.val →
        x.reportBlock f = each f.rep.units (fun u y => match y.unit u with
          | some j => if j.slot = k then y.setUnit u none else y
          | none => y) (x.haltSlot k)) ∧
      (src = 6 ∨ src = 7 → f.wire = true ∨ 64 ≤ f.rep.index.toNat → x.reportBlock f = x) ∧
      (src = 9 → f.wire = false → x.reportBlock f = each (idxs 64) (fun k y => y.haltSlot k) x) ∧
      (src = 9 → f.wire = true → x.reportBlock f = x) ∧
      (src ∈ [1, 2, 3, 12] → x.reportBlock f = { x with lk := { x.lk with
        failed := true, stall := false, buffer := x.lk.buffer.filter (fun h => h.clean), closed := []
        disagree := x.lk.disagree || decide (src = 2), delay := x.lk.delay || (decide (src = 12) && !f.wire) } }) ∧
      (src ∉ [1, 2, 3, 6, 7, 9, 12] → x.reportBlock f = x)))

/-- One report in a monitor cycle of the collector. In a working lane a report from an unmasked, existing source whose
line stood HEALTHY, or has now become invalid, sets its seen bit, which holds x_FAULT_N low; with no record held it
becomes the record, with the class it had, the local time and its context (log 35), and does not set OVERFLOW; with a
record of another source held the record stays and OVERFLOW is set; with a record of the same source held the record
and OVERFLOW stay. A source that is reserved, masked or already at FAULT without a new invalid code changes none of
these. (R365, R366, R368, R369, R370, R373) -/
def Obligations.CollectorRecord : Prop :=
  ∀ (x : Lane) (f : Flagged), x.awake = true →
    let src := f.rep.src.val
    let y := x.collect [f]
    (x.reportNew f = true →
      bit y.fc.seen src = true ∧ y.faultPin = true ∧
      (x.fc.first = none → ∃ r, y.fc.first = some r ∧ r.src = f.rep.src ∧ r.cls = x.reportClass f ∧ r.time = x.tm.loc ∧
        y.fc.overflow = x.fc.overflow) ∧
      (∀ r, x.fc.first = some r → y.fc.first = some r ∧
        y.fc.overflow = (x.fc.overflow || decide (src ≠ r.src.val)))) ∧
    (x.reportNew f = false → y.fc.first = x.fc.first ∧ y.fc.overflow = x.fc.overflow ∧ y.fc.seen = x.fc.seen)

/-- Signature windows, the delayed word and the commit buffer of the supervisor pair. Each of SIGNATURE_COMPARE,
DELAY_FAULT and COMMIT_BUFFER_FULL completes. The supervisor cycles of either row pass one after the other while the
pair runs: the lane's port works, the pair is not held and slices 20 to 22 are not under test. In a cycle the input
register samples the inputs, the delay register passes them on through two stages to the shadow core with marker and
parity, each signature register steps with its core's output vector from the seed of its window's first cycle, the
primary core's window closes with its 64th cycle, the oldest request leaves the buffer where its window was clean and
the interconnect takes it, a store or a side-effecting load joins it with its window's number, a load from a held
address takes its data from there, and a full buffer stalls both cores; a core halted in debug runs no cycle. A word
whose marker or parity differs at the shadow side, and DELAY_FAULT, latch the delay fault and report source 12. When a
window is due, both comparators judge its two signatures: clean on both frees its requests; a difference that both
find reports source 1, one that only one finds latches the disagreement and reports source 2, and an invalid code on
the release signal reports source 2; in the injection test a difference is no report. The places of the outputs in the
signature are the model's choice (log 69). Each report carries a window number, discards the requests not yet clean
and the windows not yet judged, and holds the pair; while the pair is held or does not run, none of the rows changes
anything. (R379, R380, R381, R382, R383, R384, R385, R386, R387, R389, R390) -/
def Obligations.LockstepRows : Prop :=
  (∀ (s : State) (l : LaneId) (x : Lane), s.lane l = x →
    (x.pairRuns = true ↔ x.portOn = true ∧ x.lk.failed = false ∧
      x.inSlice 20 = false ∧ x.inSlice 21 = false ∧ x.inSlice 22 = false) ∧
    (∀ (cs : List PairCycle) (m d : Comparator),
      s.Turns (.signatureCompare l cs m d) l (each cs (fun c y => y.pairCycle m d c) x)) ∧
    (∀ b : StoreBurst, b.lane = l →
      s.Turns (.commitBufferFull b) l (each b.cycles (fun c y => y.pairCycle .sound .sound c) x)) ∧
    (x.pairRuns = false → (∀ cs m d, s.Turns (.signatureCompare l cs m d) l x) ∧ s.Turns (.delayFault l) l x) ∧
    (x.pairRuns = true →
      s.Turns (.delayFault l) l ({ x with lk := { x.lk with delay := true } }.pairFault 12 x.lk.shadowWindow))) ∧
  (∀ (x : Lane) (m d : Comparator) (c : PairCycle),
    let y := { x with lk := x.lk.cycle x.sys.halted x.pairTesting c }
    let z := if x.lk.delayFails c = true
      then { y with lk := { y.lk with delay := true } }.pairFault 12 y.lk.shadowWindow else y
    let go := x.pairCycle m d c
    (x.pairRuns = false → go = x) ∧
    (x.pairRuns = true →
      (z.lk.failed = true → go = z) ∧
      (z.lk.failed = false → z.lk.due = none →
        go = if c.releaseInvalid = true then z.pairFault 2 z.lk.shadowWindow else z) ∧
      (∀ (w : PairWindow) (b : W64), z.lk.failed = false → z.lk.due = some (w, b) →
        let v := { z with lk := { z.lk with closed := z.lk.closed.tail } }
        let a := finds m w.sigPrimary b
        let e := finds d w.sigPrimary b
        (c.releaseInvalid = true → go = v.pairFault 2 w.num) ∧
        (c.releaseInvalid = false →
          (a = true → e = true → go = { v with lk := { v.lk with
            buffer := v.lk.buffer.map fun h => if h.window = w.num then { h with clean := true } else h } }) ∧
          (a = false ∨ e = false → v.pairTesting = true → go = v) ∧
          (a = false → e = false → v.pairTesting = false → go = v.pairFault 1 w.num) ∧
          (a ≠ e → v.pairTesting = false → go = { v with lk := { v.lk with disagree := true } }.pairFault 2 w.num))))) ∧
  (∀ (x : Lane) (src : Nat) (w : W64),
    let z := x.fault src 0xFF 0 0 w.toNat
    x.pairFault src w = { z with lk := { z.lk with
      failed := true, buffer := z.lk.buffer.filter (fun h => h.clean), closed := [], stall := false } }) ∧
  (∀ (k : Lockstep) (halted quiet : Bool) (c : PairCycle),
    let i : PairInput := { readData := k.forward.getD c.readData, irq := c.irq, stall := k.stall, debug := c.debug,
                           release := c.release }
    let kept := match k.buffer with
      | h :: hs => if h.clean = true ∧ c.accept = true then hs else h :: hs
      | [] => []
    let out (stall : Bool) (o : CoreOut) : CoreOut :=
      let p := if stall = true then { req := none, reg := none, pc := none, ack := false } else o
      if quiet = true ∧ (∃ r, p.req = some r ∧ r.kind = .store) then { p with req := none } else p
    let o := out k.stall c.primary
    let step (n : Nat) (sig : W64) (q : CoreOut) (damage : W64) : W64 :=
      misrStep (if n = 0 then 0xFFFFFFFFFFFFFFFF else sig) (coreBits q) ^^^ damage
    let y := k.cycle halted quiet c
    y.input = some i ∧ y.stage2 = k.stage1 ∧ y.cycles = k.cycles + 1 ∧ y.marker = grayNext k.marker ∧
      (k.stage2 = none → y.shadowIn = none ∧ y.sigShadow = k.sigShadow ∧ y.doneShadow = k.doneShadow) ∧
      (∀ w, k.stage2 = some w → y.shadowIn = some (w.upset c.upset).input ∧
        y.sigShadow = step k.doneShadow k.sigShadow (out (w.upset c.upset).input.stall c.shadow) c.damageShadow) ∧
      (halted = true → y.stage1 = none ∧ y.sigPrimary = k.sigPrimary ∧ y.window = k.window ∧ y.done = k.done ∧
        y.buffer = kept ∧ y.forward = none) ∧
      (halted = false →
        y.stage1 = some { input := i, marker := k.marker, parity := i.parity } ∧
        y.sigPrimary = step k.done k.sigPrimary o c.damagePrimary ∧
        (k.done ≠ 63 → y.window = k.window ∧ y.done = k.done + 1) ∧
        (k.done = 63 → y.window = k.window + 1 ∧ y.done = 0 ∧ ∃ ws, y.closed = ws ++
          [{ num := k.window, length := 64, sigPrimary := y.sigPrimary, sigShadow := none, wait := 2 }]) ∧
        (o.req = none → y.buffer = kept ∧ y.forward = none) ∧
        (∀ r, o.req = some r →
          (r.kind = .load → y.buffer = kept ∧ y.forward =
            (kept.reverse.find? fun h => decide (h.req.kind = .store ∧ h.req.addr = r.addr)).map fun h => h.req.data) ∧
          (r.kind ≠ .load → y.buffer = kept ++ [{ req := r, window := k.window, clean := false }] ∧ y.forward = none))) ∧
      y.stall = decide (128 ≤ y.buffer.length)) ∧
  (∀ (k : Lockstep) (w : PairWindow) (b : W64),
    (k.due = some (w, b) ↔ ∃ ws, k.closed = w :: ws ∧ w.sigShadow = some b ∧ w.wait = 0)) ∧
  (∀ (w : DelayWord) (m : BitVec 2),
    (w.sound m = true ↔ w.parity = w.input.parity ∧ grayNext (grayNext w.marker) = m))

/-- Slices of a self-test run. Each of SELFTEST_SLICE_START, SELFTEST_SLICE_END and SLICE_TIMEOUT completes. With a
run in progress, no slice running and no wake request, SELFTEST_SLICE_START takes the first slice left in order, first
quieting the lane where it is the first of a run that is not a start-up test, which waits with its slots stopped until
the dispatcher is idle; it masks the slice's sources, holds every gate command low for a VGD group's slice and raises
event 224. The end of a slice with the expected signature, and its timeout or another signature, both re-initialise
its block and lift the mask, then record the slice as passed with event 225 or as failed with event 226. A lifted mask
reports each of the slice's lines that still reads FAULT, with the report that the line holds, and each that is
invalid; a line still reads FAULT while its block holds its condition, while a bad clock stands, or, after the
collector's own slice, where its present bit stood; every other line of the slice is HEALTHY (log 26). With no slice
running the ends change nothing, and a start has no effect while one runs or after a wake request, nor, where it does
not wait, with none left (log 3). The expected signature is a free value of the configuration (log 5). (R276, R377,
R391, R392, R393) -/
def Obligations.SelfTestSlices : Prop :=
  (∀ (s : State) (l : LaneId) (x : Lane), s.lane l = x →
    (∀ q : TestRun, x.awake = true → x.tst.run = some q → q.now = none → q.wake = false →
      let first := q.kind ≠ RunKind.startup ∧ q.passed = 0 ∧ q.failed = 0
      let idle := (∀ i : Fin 64, (x.slot i).run = none) ∧ ∀ u : UnitId, x.unit u = none
      let z := if first then x.quiesce q.kind else x
      let starts (k : Nat) (ks : List Nat) : Lane := { z with
        tst := { z.tst with run := some { q with now := some k, todo := ks } },
        fc := { z.fc with mask := (sliceSources k).foldl (fun v i => bitPut v i true) z.fc.mask } }
      (first → ¬ idle → s.Turns (.selftestSliceStart l) l (x.stopSlots true)) ∧
      (¬ first ∨ idle → q.todo = [] → s.Turns (.selftestSliceStart l) l x) ∧
      (¬ first ∨ idle → ∀ k ks, q.todo = k :: ks →
        let w := starts k ks
        s.Turns (.selftestSliceStart l) l
          ((if 14 ≤ k ∧ k ≤ 17 then { w with gd := { w.gd with heldLow := true } }.driveAll else w).event 224 k))) ∧
    (x.awake = false ∨ x.tst.run = none ∨ (∃ q, x.tst.run = some q ∧ (q.now ≠ none ∨ q.wake = true)) →
      s.Turns (.selftestSliceStart l) l x) ∧
    (∀ (q : TestRun) (k : Nat), x.tst.run = some q → q.now = some k →
      let z := (x.reinit k).unmask k
      let passes := { z with tst := { z.tst with run := some { q with now := none, passed := bitPut q.passed k true } } }.event 225 k
      let fails := { z with tst := { z.tst with run := some { q with now := none, failed := bitPut q.failed k true } } }.event 226 k
      s.Turns (.selftestSliceEnd l (Config.sliceSignature x.idx k)) l passes ∧
      (∀ sig, sig ≠ Config.sliceSignature x.idx k → s.Turns (.selftestSliceEnd l sig) l fails) ∧
      s.Turns (.sliceTimeout l) l fails) ∧
    (x.tst.run = none ∨ (∃ q, x.tst.run = some q ∧ q.now = none) →
      s.Turns (.sliceTimeout l) l x ∧ ∀ sig, s.Turns (.selftestSliceEnd l sig) l x)) ∧
  (∀ (x : Lane) (k : Nat),
    let ks := sliceSources k
    let still := ks.filter fun i => x.lineHeld i || (decide (16 ≤ i ∧ i ≤ 22) && bit x.sys.badClocks (i - 16)) || (decide (k = 23) && bit x.fc.present i)
    let again (i : Nat) : Flagged := match x.fc.lines.find? fun r => r.src.val = i with
      | some r => { rep := r, wire := false, complement := false }
      | none => report i (match srcAxis i with | some nn => x.dev nn | none => 0xFF) 0 0 0
    let bad := (idxs 128).filter fun i => ks.contains i.val && bit x.fc.invalid i.val
    let z := each ks (fun i (y : Lane) => { y with fc := { y.fc with
        present := bitPut y.fc.present i false, lines := y.fc.lines.filter fun r => r.src.val ≠ i } })
      { x with fc := { x.fc with mask := ks.foldl (fun v i => bitPut v i false) x.fc.mask } }
    let w := { z with fc := { z.fc with invalid := bad.foldl (fun v i => bitPut v i.val false) z.fc.invalid } }
    x.unmask k = if still = [] ∧ bad = [] then w else w.collect (still.map again ++
      bad.map fun i => { rep := { src := i, axis := 0xFF, detail := 0, index := 0, data := 0, units := [] }, wire := true, complement := false }))

/-- The seal of a self-test run. SEAL_WRITE completes. SEAL_WRITE of a run with no slice running and none left, or
woken, writes a 32-byte seal that carries the power-cycle count, the state, and the passed, untested and carried
masks: FAILED where a slice failed, else PARTIAL where one is untested, else PASS; a shutdown or service run leaves
untested every slice that it did not pass and carries those that were also untested before, a start-up run leaves
those of the earlier untested ones that it did not pass and carries none. The lane then parks after a shutdown run
that nothing woke and leaves lane reset after every other run. The seal reads back in the state it was written in
until a start consumes it, and then as NONE. While the run goes on, or without one, nothing is written (log 3). (R393,
R394, R395, R396, R397, R398, R506) -/
def Obligations.SelfTestSeal : Prop :=
  (∀ (s : State) (l : LaneId) (x : Lane), s.lane l = x →
    (∀ q : TestRun, x.awake = true → x.tst.run = some q → q.now = none → q.todo = [] ∨ q.wake = true →
      let untested : BitVec 32 := if q.kind = RunKind.startup then x.tst.untested &&& 0x00FFFFFF &&& ~~~q.passed else 0x00FFFFFF &&& ~~~q.passed
      let carried : BitVec 32 := if q.kind = RunKind.startup then 0 else untested &&& x.tst.untested
      let st : Seal := if q.failed ≠ 0 then .failed else if untested ≠ 0 then .partialRun else .pass
      let z := { x with
        fl := { x.fl with sealRec := some (sealRecord x.fl.powerCycles.toNat st q.passed.toNat untested.toNat carried.toNat) },
        tst := { x.tst with tested := x.tst.tested || decide (q.kind = RunKind.startup) } }
      (q.kind = RunKind.shutdown → q.wake = false → s.Turns (.sealWrite l) l z.park) ∧
      (¬(q.kind = RunKind.shutdown ∧ q.wake = false) → s.Turns (.sealWrite l) l z.leaveReset)) ∧
    (x.awake = false ∨ x.tst.run = none ∨
        (∃ q, x.tst.run = some q ∧ (q.now ≠ none ∨ (q.todo ≠ [] ∧ q.wake = false))) →
      s.Turns (.sealWrite l) l x)) ∧
  (∀ (cycles : Nat) (st : Seal) (passed untested carried : BitVec 32),
    let b := sealRecord cycles st passed.toNat untested.toNat carried.toNat
    b.length = 32 ∧ sealStateOf (some b) = st ∧ sealStateOf (some (putAt b 0x18 [0])) = .none)

/-- Watchdogs, stale producers, lost trunks, and the PDUs that endpoints consume and produce. Each of
CONN_WATCHDOG_EXPIRE, PRODUCER_STALE, TRUNK_LOST and TRUNK_HOLD_END completes. The watchdog of a watched consumer (a
WAITING one only while some Green is not absent) takes it to HELD while a hold covers it, and else to FAILED with its
translations leaving the TLB; it ends the run of accepted PDUs and reports source 104 with the endpoint, once until
the next acceptance while HELD; any other endpoint stays (logs 53, 54). The newest complete payload of an open
producer with a refresh time that has aged is marked so, and a RUNNING one becomes STALE. A trunk that has delivered a
frame, is not lost and has been silent for trunk_loss_cycles becomes lost, and its hold begins: its RUNNING consumers
become HELD, and those that deliver are marked in their status. When that hold ends, exactly the HELD consumers of
slots that the trunk owns enter FAILED, with no event, and the mark goes from its others unless another hold covers
them. A container is read PDU by PDU to its end. A consumer checks a PDU's place and length, its CRC over identities,
header and payload, its version with the length, flag and reserved bits it allows, its sequence (O10) and, only while
SYNCED, its age, in that order. An accepted PDU counts, gives sequence, version, offer and PRODUCER_HELD, and starts
the watchdog; while FAILED it is not delivered unless it completes the recovery of AUTO; delivered, it is the
endpoint's payload, makes it RUNNING and raises its group's event. Each open producer whose peer has then an offer
below its ver_min fails and reports source 104 once, and a failed one works again with an offer that is not: WAITING
without a complete payload, STALE with an old one, else RUNNING. A RUNNING producer of the slot packs its newest
complete payload under the version agreed: RESTART and sequence 0 first, then one more each time, the advertised
version, the time, PRODUCER_HELD in version 2 while a hold runs, the CRC, padding to 4 bytes; any other endpoint packs
nothing. (R104, R446, R447, R449, R452, R453, R455, R456, R457, R459, R460, R476) -/
def Obligations.ConnectionTimersAndTrunks : Prop :=
  (∀ (s : State) (l : LaneId) (x : Lane), s.lane l = x →
    (∀ e : Fin 512,
      let u := x.ep e
      let watched := connRole (x.connRec e) = 2 ∧ u.watch = true ∧
        (u.st = .running ∨ u.st = .held ∨ (u.st = .waiting ∧ ∃ g : GreenId, (vget x.net.chan g).view ≠ .absent))
      (watched → x.heldFor e = true → s.Turns (.connWatchdogExpire l e) l
        ((x.onEp e fun v => { v with st := .held, watch := false, okRun := 0 }).fault 104 0xFF 0 e.val 0)) ∧
      (watched → x.heldFor e = false → s.Turns (.connWatchdogExpire l e) l
        (((x.tlbForget e).onEp e fun v => { v with st := .failed, okRun := 0 }).fault 104 0xFF 0 e.val 0)) ∧
      (¬watched → s.Turns (.connWatchdogExpire l e) l x) ∧
      let ages := connRole (x.connRec e) = 1 ∧ refreshUs (x.connRec e) ≠ 0 ∧ u.st ≠ .closed ∧ u.complete ≠ none
      (ages → s.Turns (.producerStale l e) l
        (x.onEp e fun v => { v with stale := true, st := if v.st = .running then .stale else v.st })) ∧
      (¬ages → s.Turns (.producerStale l e) l x)) ∧
    (∀ j : Fin 4,
      let live := x.awake = true ∧ bit x.net.trunkSeen j.val = true ∧ bit x.net.trunkLost j.val = false ∧
        trunkLossCycles x.cascadeRec ≤ vget x.net.trunkMissed j
      let holds := x.awake = true ∧ bit x.net.trunkLost j.val = true ∧ bit x.net.trunkEnded j.val = false
      (live → s.Turns (.trunkLost l j) l
        (let z := { x with net := { x.net with
          trunkLost := bitPut x.net.trunkLost j.val true, trunkEnded := bitPut x.net.trunkEnded j.val false } }
         let mine (e : Fin 512) : Bool := decide (connRole (z.connRec e) = 2) && z.trunkOwns j (connSlot (z.connRec e))
         let w := { z with eps := Vector.ofFn fun e : Fin 512 =>
           { z.ep e with inHold := (z.ep e).inHold || ((z.ep e).delivers && z.heldFor e) } }
         { w with eps := Vector.ofFn fun e : Fin 512 =>
           { w.ep e with st := if (w.ep e).st = .running ∧ mine e = true then .held else (w.ep e).st } })) ∧
      (¬live → s.Turns (.trunkLost l j) l x) ∧
      (holds → s.Turns (.trunkHoldEnd l j) l
        (let z := { x with net := { x.net with trunkEnded := bitPut x.net.trunkEnded j.val true } }
         let mine (e : Fin 512) : Bool := z.trunkOwns j (connSlot (z.connRec e))
         let w := each (idxs 512) (fun e y => if mine e && decide ((y.ep e).st = .held) then y.tlbForget e else y) z
         { w with eps := Vector.ofFn fun e : Fin 512 =>
           if mine e = false then z.ep e
           else if (z.ep e).st = .held then { z.ep e with st := .failed, okRun := 0, inHold := false }
           else { z.ep e with inHold := (z.ep e).inHold && z.heldFor e } })) ∧
      (¬holds → s.Turns (.trunkHoldEnd l j) l x))) ∧
  (∀ (c : Bytes) (o n : Nat), pduOffsets c o 0 = [] ∧
    (c.length < o + 20 ∨ fieldAt c o 2 = 0 → pduOffsets c o (n + 1) = []) ∧
    (o + 20 ≤ c.length → fieldAt c o 2 ≠ 0 →
      pduOffsets c o (n + 1) = o :: pduOffsets c (o + (16 + fieldAt c (o + 8) 1 + 3) / 4 * 4) n)) ∧
  (∀ (x : Lane) (slot : Nat) (c : Bytes) (t : Int),
    x.readContainer slot c t = ((pduOffsets c 0 75).foldl (fun a o => a.1.pduOffer slot c t a.2 o) (x, [])).1) ∧
  (∀ (x : Lane) (e : Fin 512) (c : Bytes) (o : Nat) (t : Int),
    let r := x.connRec e
    let q := x.ep e
    let n := fieldAt c (o + 8) 1
    let flags := fieldAt c (o + 9) 1
    let ver := fieldAt c (o + 10) 1 % 16
    let inside := o + 16 + n ≤ c.length ∧ n = connLength r
    let sound := fieldAt c (o + 12 + n) 4 =
      crc32c (leBytes 4 (producerId r) ++ leBytes 4 (consumerId r) ++ slice c o 12 ++ slice c (o + 12) n)
    let allowed := verMin r ≤ ver ∧ ver ≤ verMax r ∧ (ver = 1 → n ≤ 64 ∧ natBit flags 1 = false) ∧ flags < 4 ∧
      fieldAt c (o + 11) 1 = 0
    let age := toSigned 32 (ofSigned 32 (t / 1000 - fieldAt c (o + 4) 4))
    let order := seqCheck q.seq (natBit flags 0) (fieldAt c (o + 2) 2)
    (pduForm r c o =
      if ¬inside then some 5 else if ¬sound then some 1 else if ¬allowed then some 5 else none) ∧
    (∀ k, pduForm r c o = some k → x.pduCheck e c o t = (.discard k, 0)) ∧
    (pduForm r c o = none →
      (order.1 = false → x.pduCheck e c o t = (.discard 2, 0)) ∧
      (order.1 = true → x.pduCheck e c o t = (if x.tm.sync = .synced ∧ -10 ≤ age ∧ age ≤ maxAgeUs r then .accept else .discard 4, order.2))) ∧
    (let y : Endpoint := { q.count 0 1 with
        seq := some (BitVec.ofNat 16 (fieldAt c (o + 2) 2)), version := BitVec.ofNat 8 ver, watch := true,
        offer := some (fieldAt c (o + 10) 1 / 16), heldFlag := natBit flags 1 }
     let back := recoverMode r = 0 ∧ recoverCount r ≤ q.okRun + 1
     let z := x.onEp e fun _ => { y with
        st := .running, okRun := 0, payload := some (slice c (o + 12) (connLength r)), inHold := false, kept := false }
     (q.st = .failed → ¬back → x.pduAccept e c o =
       x.onEp e fun _ => { y with okRun := if recoverMode r = 0 then q.okRun + 1 else 0 }) ∧
     (q.st ≠ .failed ∨ back → x.pduAccept e c o = if connGroup r < 16 then z.arrive (connGroup r) e.val else z))) ∧
  (∀ (x : Lane) (e : Fin 512), (x.ep e).offer = none → x.judgeOffers e = x) ∧
  (∀ (x : Lane) (e : Fin 512) (v : Nat), (x.ep e).offer = some v →
    x.judgeOffers e = each (idxs 512) (fun p y =>
      let u := y.ep p
      if connRole (y.connRec p) = 1 ∧ peerEndpoint (y.connRec p) = e.val ∧ u.st ≠ .closed then
        if v < verMin (y.connRec p) then
          if u.st = .failed then y else (y.onEp p fun q => { q with st := .failed }).fault 104 0xFF 0 p.val 0
        else if u.st = .failed then y.onEp p fun q => { q with
          st := if q.complete = none then .waiting else if q.stale = true then .stale else .running }
        else y
      else y) x) ∧
  (∀ (x : Lane) (slot : Nat) (c : Bytes) (e : Fin 512),
    let r := x.connRec e
    let q := x.ep e
    let num : W16 := match q.seq with
      | some v => v + 1
      | none => 0
    let peer : Fin 512 := fin (peerEndpoint r)
    let offer := if peerEndpoint r < 512 ∧ connRole (x.connRec peer) = 2 then (x.ep peer).offer else none
    let ver := match offer with
      | some v => min (verMax r) v
      | none => verMin r
    let shown := if peerEndpoint r < 512 then verMax (x.connRec peer) else verMax r
    let held := x.net.hold = .holding ∨ ∃ j : Fin 4, x.trunkHolds j = true
    let head := leBytes 2 (connId r) ++ leBytes 2 num.toNat ++ leBytes 4 (x.tm.glob.toNat / 1000) ++ leBytes 1 (connLength r) ++
      leBytes 1 ((if q.seq = none then 1 else 0) + if ver = 2 ∧ held then 2 else 0) ++ leBytes 1 (ver + 16 * shown) ++ [0]
    let sends := connRole r = 1 ∧ connSlot r = slot ∧ q.st = .running
    (∀ p : Bytes, q.complete = some p → sends → x.packOne slot c e =
      (x.onEp e fun y => { y.count 0 1 with seq := some num, version := BitVec.ofNat 8 ver },
       c ++ slice (head ++ p ++ leBytes 4 (crc32c (leBytes 4 (producerId r) ++ leBytes 4 (consumerId r) ++ head ++ p)))
         0 ((16 + connLength r + 3) / 4 * 4))) ∧
    (q.complete = none ∨ ¬sends → x.packOne slot c e = (x, c))) ∧
  (∀ (x : Lane) (slot : Nat), x.packSlot slot = (idxs 512).foldl (fun a e => a.1.packOne slot a.2 e) (x, []))

/-- Contact samples, test pulses and the timers of an input pair. Each of INPUT_SAMPLE, TEST_PULSE_START,
TEST_PULSE_CHECK, TEST_PULSE_END, DISCREPANCY_TIMEOUT and PAIR_RESTART_END completes. In a working, unparked lane
whose inputs have their clock and no slice, INPUT_SAMPLE gives every pair its two contacts in pair order, every 10 us
outside the exclusion (log 78). TEST_PULSE_START takes test output k low while pulses run and none is low, where local
time modulo 16 ms is 4 ms times k; its check, 200 us later, compares every pair's contacts in pair order; its end, 300
us after its start, takes the output high and excludes samples for 100 us. A pair in use whose discrepancy runs gets
cause 3 when its time has passed; one whose restart time runs is marked as past it and leaves its forced state if its
other conditions hold. A cause forces the pair's value to its safe value, clears the marks for leaving, raises event
112 + k where the value word changed and reports source 112 with the pair. Of two causes at one instant the higher
stays (log 58). A pair is consistent with equal contacts in one mode, unequal ones in the other. A sample of a pair in
use filters each contact: a level that differs for filter_us becomes the filtered one, one that goes back before is a
rejected change; with chatter_count rejected changes inside the window the cause is 4. Else the discrepancy timer runs
from where consistency ends until it comes back, an inconsistent pair reads its safe value, a consistent unforced one
its contacts' value, the restart timing runs while it is consistent without a rejected change, and a changed word
raises the event. During a pulse a contact that read closed before gives cause 1 where the pulsed output feeds it and
it stays closed, cause 2 where that output does not feed it and it opens, and else counts as tested. The forced state
ends once the pair is consistent, restart_ms is past, a FAULT_CLEAR has come where the pair latches, and every pulsed
contact is tested. Anywhere else the rows change nothing (log 3). (R462, R463, R464, R465, R466, R467, R468, R469) -/
def Obligations.InputAndTestPulseRows : Prop :=
  (∀ (s : State) (l : LaneId) (x : Lane), s.lane l = x →
    let works := x.awake = true ∧ x.sys.parked = false ∧ x.clockOn 1 = true ∧ x.inSlice 7 = false
    let clear := x.inp.low = none ∧ x.inp.exclTo ≤ x.tm.loc.toNat ∧ x.tm.loc.toNat % 10000 = 0
    let due (t : Fin 4) (ns : Nat) := x.tm.loc.toNat % 16000000 = 4000000 * t.val + ns
    (∀ c1 c2 : BitVec 16,
      (works ∧ clear → s.Turns (.inputSample l c1 c2) l
        (each (idxs 16) (fun k y => y.pairSample k (bit c1 k.val) (bit c2 k.val)) x)) ∧
      (¬(works ∧ clear) → s.Turns (.inputSample l c1 c2) l x)) ∧
    (∀ t : Fin 4,
      let idle := works ∧ x.inp.pulsing = true ∧ x.inp.low = none
      let down := works ∧ x.inp.pulsing = true ∧ x.inp.low = some t
      (idle ∧ due t 0 → s.Turns (.testPulseStart l t) l { x with inp := { x.inp with low := some t } }) ∧
      (¬(idle ∧ due t 0) → s.Turns (.testPulseStart l t) l x) ∧
      (∀ c1 c2,
        (down ∧ due t 200000 → s.Turns (.testPulseCheck l t c1 c2) l
          (each (idxs 16) (fun k y => y.pairTest k t (bit c1 k.val) (bit c2 k.val)) x)) ∧
        (¬(down ∧ due t 200000) → s.Turns (.testPulseCheck l t c1 c2) l x)) ∧
      (down ∧ due t 300000 →
        s.Turns (.testPulseEnd l t) l { x with inp := { x.inp with low := none, exclTo := x.tm.loc.toNat + 100000 } }) ∧
      (¬(down ∧ due t 300000) → s.Turns (.testPulseEnd l t) l x)) ∧
    (∀ k : Fin 16,
      let used := works ∧ pairMode (x.pairRec k) ≠ 0
      (used ∧ (x.pair k).discr = true → s.Turns (.discrepancyTimeout l k) l (x.pairCause k 3)) ∧
      (¬(used ∧ (x.pair k).discr = true) → s.Turns (.discrepancyTimeout l k) l x) ∧
      (used ∧ (x.pair k).restart = true → s.Turns (.pairRestartEnd l k) l
        ((x.onPair k fun p => { p with restartDone := true }).pairLeave k)) ∧
      (¬(used ∧ (x.pair k).restart = true) → s.Turns (.pairRestartEnd l k) l x))) ∧
  (∀ (x : Lane) (k : Fin 16) (c : Nat),
    let r := x.pairRec k
    let p := x.pair k
    let q : Pair := { p with
      cause := if p.causeAt = some x.tm.loc then min p.cause c else c, causeAt := some x.tm.loc
      forced := true, value := decide (safeValue r = 1), cleared := false, restartDone := false,
      restart := (p.agreed (pairMode r)).isSome, discr := p.discr && decide (c ≠ 3) }
    let z := x.onPair k fun _ => q
    x.pairCause k c = (if q.word = p.word then z else z.event (112 + k.val) q.word).fault 112 0xFF 0 k.val 0) ∧
  (∀ (p : Pair) (mode : Nat), p.word = 4 * p.cause + (if p.forced = true then 2 else 0) + (if p.value = true then 1 else 0) ∧
    p.agreed mode = if (mode = 1 ∧ p.f1 = p.f2) ∨ (mode ≠ 1 ∧ p.f1 ≠ p.f2) then some p.f1 else none) ∧
  (∀ (x : Lane) (k : Fin 16) (c1 c2 : Bool),
    let r := x.pairRec k
    let p := x.pair k
    let n := filterUs r / 10
    let now := x.tm.loc.toNat
    let step (f : Bool) (cnt : Nat) (raw : Bool) : Bool × Nat :=
      if raw = f then (f, 0) else if n ≤ cnt + 1 then (raw, 0) else (f, cnt + 1)
    let rej1 := c1 = p.f1 ∧ p.n1 ≠ 0
    let rej2 := c2 = p.f2 ∧ p.n2 ≠ 0
    let q : Pair := { p with
      f1 := (step p.f1 p.n1 c1).1, f2 := (step p.f2 p.n2 c2).1, r1 := c1, r2 := c2
      n1 := (step p.f1 p.n1 c1).2, n2 := (step p.f2 p.n2 c2).2
      rejects := (List.replicate ((if rej1 then 1 else 0) + if rej2 then 1 else 0) now ++ p.rejects).filter fun t =>
        now ≤ t + 1000000 * chatterWindowMs r }
    let was := (p.agreed (pairMode r)).isSome
    let w : Pair := match q.agreed (pairMode r) with
      | some v => { q with
          discr := false, value := if p.forced = true then decide (safeValue r = 1) else v, restart := true
          restartDone := p.restartDone && was && !decide (rej1 ∨ rej2) }
      | none => { q with
          discr := p.discr || was, value := decide (safeValue r = 1), restart := false, restartDone := false }
    let chatters := (rej1 ∨ rej2) ∧ chatterCount r ≤ q.rejects.length
    let z := x.onPair k fun _ => w
    (pairMode r = 0 → x.pairSample k c1 c2 = x) ∧
    (pairMode r ≠ 0 → chatters →
      x.pairSample k c1 c2 = (x.onPair k fun _ => { w with value := p.value }).pairCause k 4) ∧
    (pairMode r ≠ 0 → ¬chatters →
      x.pairSample k c1 c2 = (if w.word = p.word then z else z.event (112 + k.val) w.word).pairLeave k)) ∧
  (∀ (x : Lane) (k : Fin 16) (t : Fin 4) (c1 c2 : Bool),
    let r := x.pairRec k
    let p := x.pair k
    let cause (last now : Bool) (out : Nat) : Nat :=
      if last = true ∧ out = t.val ∧ now = true then 1 else if last = true ∧ out ≠ t.val ∧ now = false then 2 else 0
    let a := cause p.r1 c1 (tp1 r)
    let b := cause p.r2 c2 (tp2 r)
    let passed : Nat := (if p.r1 = true ∧ a = 0 then 1 else 0) + if p.r2 = true ∧ b = 0 then 2 else 0
    let z := x.onPair k fun q => { q with tested := q.tested ||| BitVec.ofNat 2 passed }
    (pairMode r = 0 → x.pairTest k t c1 c2 = x) ∧
    (pairMode r ≠ 0 →
      (a = 0 → b = 0 → x.pairTest k t c1 c2 = z) ∧
      (a = 1 ∨ b = 1 → x.pairTest k t c1 c2 = z.pairCause k 1) ∧
      (a ≠ 1 → b ≠ 1 → a = 2 ∨ b = 2 → x.pairTest k t c1 c2 = z.pairCause k 2))) ∧
  (∀ (x : Lane) (k : Fin 16),
    let r := x.pairRec k
    let p := x.pair k
    let may := p.forced = true ∧ p.restartDone = true ∧ (natBit (pairFlags r) 0 = true → p.cleared = true) ∧
      (tp1 r < 4 → bit p.tested 0 = true) ∧ (tp2 r < 4 → bit p.tested 1 = true)
    (∀ v, p.agreed (pairMode r) = some v → may →
      let q : Pair := { p with cause := 0, forced := false, value := v }
      let z := x.onPair k fun _ => q
      x.pairLeave k = if q.word = p.word then z else z.event (112 + k.val) q.word) ∧
    (p.agreed (pairMode r) = none ∨ ¬may → x.pairLeave k = x))

/-- A beat of the stream engine, its halts and the end of a pass. STREAM_BEAT completes. A beat of a channel that is
RUNNING or STOPPING, waits for no walk, has its turn, with power and clock and outside the engine's slice, first
latches the payload it reads. If a read that it still needs faults, the channel halts with that cause and address;
else if the TLB lacks an address, its walk begins; else an error response to such a read is a bus error; else the
source units pass into the holding register. Then a fault of the destination halts the channel (this order is the
model's, log 52); an error response to the write is a bus error; else the destination is written from the holding
register, word by word in a coefficient area and else as a whole; when the beat is whole its bytes leave the register,
the beat number rises by 1, the retries start anew and the turn passes on, and after the last byte the pass ends. A
bus error costs a retry or, with none left, halts the channel with BUS_ERROR; one that is an uncorrectable memory
error also reports the memory's source, 7 with the slot, 8 for the Granary, else 5 (log 76). A halt leaves the channel
HALTED, or STOPPED where it was STOPPING, records cause, beat and address, raises event 176 + c with the cause and
queues a notice. A pass that ends completes a producer's payload where it wrote one, raises event 176 + c with
COMPLETE where EVENT is set, empties the holding register and moves the offset on where a side wraps; a STOPPING
channel then stops, one without REPEAT stops, one that WAITs waits for its trigger unless one is pending, and else the
next pass runs. Of a channel that is not served a beat changes nothing (log 3). (R23, R478, R481, R483, R484, R485,
R486, R487, R489, R490, R491, R493) -/
def Obligations.StreamBeats : Prop :=
  (∀ (s : State) (l : LaneId) (x : Lane) (c : Fin 16) (err : Option BeatError), s.lane l = x →
    let ready (d : Fin 16) := ((x.chan d).st = .running ∨ (x.chan d).st = .stopping) ∧ (x.chan d).walking = none
    let served := ready c ∧ (∀ d, ready d → c - x.str.last - 1 ≤ d - x.str.last - 1) ∧ x.portOn = true ∧ x.supClock = true ∧
      x.inSlice 6 = false
    let z := x.streamLatch c
    let y := z.streamFill c
    let h := z.chan c
    let needs := h.nextSrc < z.readEnd c (z.beatTo c h.beat)
    let w := srcWidth (z.streamRec c)
    let bus (e : BeatError) (v : Lane) (a : Nat) : Lane :=
      let u := if e.memory = true then v.memoryReport a else v
      if (u.chan c).retries < retryMax (u.streamRec c) then u.onStream c fun q => { q with retries := q.retries + 1 }
      else u.streamHalt c .busError a false
    (served →
      (∀ cause a, z.srcFault c = some (cause, a) → s.Turns (.streamBeat l c err) l (z.streamHalt c cause a false)) ∧
      (z.srcFault c = none →
        (∀ a, z.beatMiss c = some a → s.Turns (.streamBeat l c err) l (z.onStream c fun q => { q with walking := some a })) ∧
        (z.beatMiss c = none →
          (∀ e, err = some e → e.write = false → needs →
            s.Turns (.streamBeat l c err) l (bus e z (z.srcAddr c h.nextSrc / w * w))) ∧
          ((∀ e, err = some e → e.write = false → ¬needs) →
            (∀ cause a, y.dstFault c = some (cause, a) → s.Turns (.streamBeat l c err) l (y.streamHalt c cause a false)) ∧
            (y.dstFault c = none →
              (∀ e, err = some e → e.write = true → s.Turns (.streamBeat l c err) l (bus e y (y.beatAddr c (y.chan c).beat))) ∧
              ((∀ e, err = some e → e.write = false) → s.Turns (.streamBeat l c err) l (y.beatWrite c))))))) ∧
    (¬served → s.Turns (.streamBeat l c err) l x)) ∧
  (∀ (x : Lane) (a : Nat),
    (∀ (s : Fin 64) (o : Nat), streamPlace a = .coef s o ∨ streamPlace a = .node s o →
      x.memoryReport a = x.fault 7 (x.slot s).gateAxis 0 s.val 0) ∧
    (∀ o, streamPlace a = .granary o → x.memoryReport a = x.fault 8 0xFF 0 0 0) ∧
    (∀ o, streamPlace a = .trace o ∨ streamPlace a = .memory o → x.memoryReport a = x.fault 5 0xFF 0 0 0) ∧
    (∀ e o, streamPlace a = .endpoint e o → x.memoryReport a = x.fault 5 0xFF 0 0 0) ∧
    (streamPlace a = .none → x.memoryReport a = x)) ∧
  (∀ (x : Lane) (c : Fin 16) (cause : StCause) (a : Nat) (final : Bool),
    x.streamHalt c cause a final = ((x.onStream c fun q => { q with
      st := if q.st = .stopping then .stopped else .halted, cause := cause, haltBeat := q.beat, haltAddr := a,
      noResume := final, walking := none }).event (176 + c.val) (stcauseCode cause)).notify (.stream c.val)) ∧
  (∀ (x : Lane) (c : Fin 16),
    let h := x.chan c
    let hi := x.readEnd c (x.beatTo c h.beat)
    let bs := (List.range (hi - h.nextSrc)).map fun i => x.streamByte (h.latch.getD []) (x.srcAddr c (h.nextSrc + i))
    (hi ≤ h.nextSrc → x.streamFill c = x) ∧
    (h.nextSrc < hi → x.streamFill c = x.onStream c fun q => { q with
      holding := (q.holding ++ q.incoming ++ bs).take 8, incoming := (q.holding ++ q.incoming ++ bs).drop 8, nextSrc := hi })) ∧
  (∀ (x : Lane) (c : Fin 16),
    let h := x.chan c
    let first := x.beatFrom c h.beat
    let last := x.beatTo c h.beat
    let j := first + (if h.half = true then 4 else 0)
    let n := (match streamPlace (dstVa (x.streamRec c)) with | .coef _ _ => min last (j + 4) | _ => last) - j
    let whole := last ≤ j + n
    let y := x.streamPutN c j (((h.holding ++ h.incoming).drop (j - first)).take n)
    let z := { y with str := { y.str with last := if whole then c else c - 1 } }.onStream c fun q =>
      if whole then { q with
        holding := ((q.holding ++ q.incoming).drop (j + n - first)).take 8
        incoming := ((q.holding ++ q.incoming).drop (j + n - first)).drop 8
        beat := q.beat + 1, retries := 0, half := false }
      else { q with half := true }
    let w := z.traceMove c j n
    x.beatWrite c = if passCount (w.streamRec c) ≤ j + n then w.passEnd c else w) ∧
  (∀ (x : Lane) (c : Fin 16),
    let r := x.streamRec c
    let moved (wrap off : Nat) : Nat := if wrap = 0 then 0 else (off + passCount r) % wrap
    let y := match streamPlace (dstVa r) with
      | .endpoint e _ => x.writePdu e 0 [] true
      | _ => x
    let w := (if natBit (streamFlags r) 2 = true then y.event (176 + c.val) 1 else y).onStream c fun q => { q with
      cause := .complete, beat := 0, retries := 0, nextSrc := 0, holding := [], incoming := [], latch := none, half := false
      srcAt := moved (srcWrap r) q.srcAt, dstAt := moved (dstWrap r) q.dstAt }
    ((w.chan c).st = .stopping → x.passEnd c = w.streamStopped c) ∧
    ((w.chan c).st ≠ .stopping → x.passEnd c = w.onStream c fun q =>
      if natBit (streamFlags r) 1 = false then { q with st := .stopped, pendTrig := false }
      else if natBit (streamFlags r) 0 = true ∧ q.pendTrig = false then { q with st := .waiting }
      else { q with pendTrig := false }))

/-- Triggers, TLB walks and the stream address map. STREAM_TRIGGER and TLB_WALK_COMPLETE complete. A channel's own
trigger event starts the pass of a WAITING channel and is kept by a RUNNING one; any other event, and any event of a
channel without WAIT, changes nothing, nor does any in the engine's slice. A completed walk puts the page into the
TLB, at its end while fewer than 256 entries are in use and else in the place of one that the configuration's free
victim function names (log 5), and the channel waits no more. Every address outside the six windows of the stream map
is NOT_MAPPED for a read and for a write; the Granary and consumer payloads are never written, the trace memory is
never read, and what is written to the stream memory at an address is read back there while every other address keeps
its byte. (R478, R481, R482, R486) -/
def Obligations.StreamTriggersWalksAndMap : Prop :=
  (∀ (s : State) (l : LaneId) (x : Lane) (c : Fin 16) (ev : Byte), s.lane l = x →
    let h := x.chan c
    let own := streamWait (x.streamRec c) = true ∧ streamTrigger (x.streamRec c) = ev.toNat ∧ x.inSlice 6 = false
    (own → h.st = .waiting → s.Turns (.streamTrigger l c ev) l (x.onStream c fun q => { q with st := .running })) ∧
    (own → h.st = .running → s.Turns (.streamTrigger l c ev) l (x.onStream c fun q => { q with pendTrig := true })) ∧
    (¬own ∨ (h.st ≠ .waiting ∧ h.st ≠ .running) → s.Turns (.streamTrigger l c ev) l x) ∧
    (h.walking = none ∨ x.inSlice 6 = true → s.Turns (.tlbWalkComplete l c) l x) ∧
    (∀ a, h.walking = some a → x.inSlice 6 = false →
      let e := (c.val, Config.tlbPage a)
      let next (t : List (Nat × Nat)) : Lane :=
        { x with free := x.free + 1, str := { x.str with tlb := t, chans := vmod x.str.chans c fun q => { q with walking := none } } }
      (x.str.tlb.length < 256 → s.Turns (.tlbWalkComplete l c) l (next (x.str.tlb ++ [e]))) ∧
      (256 ≤ x.str.tlb.length →
        s.Turns (.tlbWalkComplete l c) l (next (x.str.tlb.set (Config.tlbVictim x.free % 256) e))))) ∧
  (∀ (x : Lane) (a : Nat),
    let inside := (0x10000000 ≤ a ∧ a < 0x11000000) ∨ (0x14000000 ≤ a ∧ a < 0x15000000) ∨ (0x20000000 ≤ a ∧ a < 0x20010000) ∨
      (0x30000000 ≤ a ∧ a < 0x30010000) ∨ (0x40000000 ≤ a ∧ a < 0x40100000) ∨ (0x50000000 ≤ a ∧ a < 0x50100000)
    (¬inside → x.readFault a = some .notMapped ∧ x.writeFault a = some .notMapped) ∧
    (0x30000000 ≤ a ∧ a < 0x30010000 → x.readFault a = none ∧ x.writeFault a = some .notPermitted) ∧
    (0x40000000 ≤ a ∧ a < 0x40100000 → x.readFault a = some .notPermitted ∧ x.writeFault a = none) ∧
    (0x20000000 ≤ a ∧ a < 0x20010000 → connRole (x.connRec (fin ((a - 0x20000000) / 0x80))) ≠ 1 → x.writeFault a ≠ none) ∧
    (0x50000000 ≤ a ∧ a < 0x50100000 → x.readFault a = none ∧ x.writeFault a = none ∧
      ∀ (b : Byte) (latch : Bytes), memOk x.mem.stream = true →
        (x.streamPut a b).streamByte latch a = b ∧
        ∀ k, 0x50000000 ≤ k ∧ k < 0x50100000 → k ≠ a → (x.streamPut a b).streamByte latch k = x.streamByte latch k))

/-- A frame that starts at a port of a Green. GREEN_FRAME_INGRESS completes. At a working Green and a port whose link
is up, a frame with a bad FCS counts FCS_ERROR, and the uncorrectable RS-FEC blocks of an external port's frame count.
A SCHEDULE frame on a lane port is taken as a part of a download, which is installed once two lane ports have sent
every part within 10 s. A trunk port measures its delay at a good SYNC frame with stamps. At a synchronised Green an
open port's frame inside the acceptance window of a slot occurrence that the port owns is forwarded in it; one outside
every window of the slots it owns this cycle is a VIOLATION; one of a port that owns none is BLOCKED and a VIOLATION;
a closed port's frame is BLOCKED and only marks its cycle clean or not. At an unsynchronised Green an open port's
COLDSTART frame, or SYNC frame with MASTER, is forwarded in a used slot of its own of that kind unless another port
holds the forwarding, which counts BLOCKED; a closed port's frame counts BLOCKED and any other has no effect. Of two
frames that an unsynchronised Green might forward and that start within 8 ns, the one at the lower port is forwarded
as if the other had not come, and the other counts BLOCKED (log 55). Forwarding adds 1 to FORWARDED and copies the
frame to every other port whose link is up; a SYNC copy carries its egress time, within the free forwarding delay, and
the port's deviation, or 0 and none while unsynchronised. In its slot a forwarded frame keeps the port's first
deviation of the cycle, is held as arriving where it ends after its slot, and, in good form, keeps the Green
synchronised or is followed where its rank is the lowest. An unsynchronised Green that forwards aligns its time and
cycle to a good frame and is synchronised where one forwarded from the port started one cycle before. A VIOLATION
counts, and the viol_limit-th within viol_cycles closes an open port and counts CLOSINGS. A Green that does not work,
or a port whose link is down, takes nothing (log 3). (R409, R410, R411, R421, R422, R430, R432, R436, R440, R441,
R473, R474) -/
def Obligations.GreenFrameIngressRow : Prop :=
  (∀ (s : State) (g : GreenId) (x : Green) (p : Fin 19) (f : CttFrame) (t : Int), s.green g = x →
    let c := Instr.greenFrameIngress g p f t
    let works := x.powered = true ∧ x.clockOk = true ∧ x.testPin = false ∧ x.hot = false
    let open' := (x.port p).st = .opened
    let shut := (x.port p).st = .closed
    let z0 := if f.fcsOk = true then x else x.onPort p fun q => q.count 4
    let z := if p.val < 16 then z0.onPort p fun q => q.countFec f.fec else z0
    let rival := fun a : Arbitration => x.arb = some a ∧ p ≠ a.port ∧ (t - a.start).natAbs ≤ 8 ∧
      (x.port p).st ≠ .closed ∧ x.coldSlot p f ≠ none
    let sched := 16 ≤ p.val ∧ f.kind = 5
    let now := x.timeAt t
    let w := z.measure g p f now
    let v := w.judge g p (now - w.cycleAt)
    (works → open' ∨ shut →
      (sched → s.TurnsGreen c g (z.schedule g p f t)) ∧
      (¬sched → ∀ a, rival a →
        (p < a.port → s.TurnsGreen c g ((w.yield a).coldIngress g p f t)) ∧
        (a.port < p → s.TurnsGreen c g (w.onPort p fun q => q.count 2))) ∧
      (¬sched → (∀ a, ¬ rival a) → x.synced = true →
        (open' → (∀ e, v = .inside e → s.TurnsGreen c g (w.forward g p f now e)) ∧
          (v = .outside → s.TurnsGreen c g ((w.onPort p fun q => { q with miss := true }).violate p)) ∧
          (v = .stranger → s.TurnsGreen c g ((w.onPort p fun q => { q.count 2 with miss := true }).violate p))) ∧
        (shut → (∀ e, v = .inside e → s.TurnsGreen c g (w.onPort p fun q => { q.count 2 with hit := true })) ∧
          ((∀ e, v ≠ .inside e) → s.TurnsGreen c g (w.onPort p fun q => { q.count 2 with miss := true })))) ∧
      (¬sched → (∀ a, ¬ rival a) → x.synced = false →
        (shut → s.TurnsGreen c g (w.onPort p fun q => q.count 2)) ∧
        (open' → w.coldSlot p f = none → s.TurnsGreen c g w) ∧
        (open' → ∀ e, w.coldSlot p f = some e →
          (w.block = none ∨ w.block = some p → s.TurnsGreen c g (w.coldForward g p f t e)) ∧
          (∀ q, w.block = some q → q ≠ p → s.TurnsGreen c g (w.onPort p fun q => q.count 2))))) ∧
    (¬works ∨ (¬open' ∧ ¬shut) → s.TurnsGreen c g x)) ∧
  (∀ (y : Green) (g : GreenId) (p : Fin 19) (f : CttFrame) (u : Rat),
    let measures := y.trunk g p = true ∧ f.kind = 4 ∧ f.fcsOk = true ∧ fieldAt f.payload 0x10 8 ≠ 0 ∧ fieldAt f.payload 0x18 4 ≠ 0x80000000
    let d : Rat := (u - fieldAt f.payload 0x10 8 + toSigned 32 (fieldAt f.payload 0x18 4)) / 2
    y.measure g p f u = if measures then y.onPort p fun q => { q with delays := (0, d) :: q.delays } else y) ∧
  (∀ (y : Green) (g : GreenId) (p : Fin 19) (f : CttFrame) (u : Rat),
    let qs := (idxs 19).filter fun q => q ≠ p && (y.port q).up
    let copy (n : Nat) (q : Fin 19) : CttFrame :=
      if f.kind = 4 then
        let at' : Nat := if y.synced = true then ((u + ((400 + Config.forwardNs g n % 121 : Nat) : Rat)).floor % (2 ^ 64 : Int)).toNat else 0
        let dev : Nat := match (if y.synced = true then (y.port q).devPrev else none) with
          | some d => ofSigned 32 (roundEven d)
          | none => 0x80000000
        { f with fec := 0, payload := putAt (putAt (slice f.payload 0 (max f.payload.length 32)) 0x10 (leBytes 8 at')) 0x18 (leBytes 4 dev) }
      else { f with fec := 0 }
    y.send g p f u = { y with
      egress := (qs.zip (List.range qs.length)).map fun c => (c.1.val, copy (y.free + c.2) c.1), free := y.free + qs.length }) ∧
  (∀ (y : Green) (g : GreenId) (p : Fin 19) (f : CttFrame) (u : Rat) (e : SlotEntry),
    let o := u - y.cycleAt
    let a := y.onPort p fun q => { q.count 0 with
      hit := true, devNow := match q.devNow with | some d => some d | none => some (o - e.startNs) }
    let size := 32 + max f.payload.length 32 + 4 * (if f.vlan = true then 1 else 0)
    let late := (e.startNs + e.lengthNs : Rat) < o + 8 * size
    let b := ({ a with arriving := if late then p :: a.arriving else a.arriving }).send g p f u
    let off : Rat := if b.trunk g p = true then u - fieldAt f.payload 0x10 8 - meanDelay (b.port p).delays
      else u - fieldAt f.payload 8 8 - syncDelay f.payload
    let lower : Bool := match b.follow with
      | none => true
      | some k => decide (fieldAt f.payload 0 1 < k.1)
    y.forward g p f u e =
      if f.fcsOk = true ∧ f.kind = 3 then { b with coldNow := true }
      else if f.fcsOk = true ∧ f.kind = 4 ∧ syncMaster f.payload = true ∧ lower = true then { b with follow := some (fieldAt f.payload 0 1, off) }
      else b) ∧
  (∀ (y : Green) (p : Fin 19),
    let vs := y.cycles :: (y.port p).viols.filter fun k => y.cycles < k + fieldAt y.section8 6 1
    let closes := (y.port p).st = .opened ∧ fieldAt y.section8 5 1 ≤ vs.length
    y.violate p = y.onPort p fun q =>
      if closes then { (q.count 1).count 5 with viols := vs, st := .closed, shut := true, clean := 0 }
      else { q.count 1 with viols := vs }) ∧
  (∀ (y : Green) (g : GreenId) (p : Fin 19) (f : CttFrame) (t : Int) (e : SlotEntry),
    let a : Arbitration := {
      port := p, start := t, was := y.port p, refT := y.refT, refG := y.refG, slew := y.slew, cycle := y.cycle, cycleAt := y.cycleAt,
      lastFwd := y.lastFwd, follow := y.follow, coldNow := y.coldNow, quiet := y.quiet }
    let pairs := ∃ k ∈ y.lastFwd, k.1 = p ∧ (t - k.2.2 - y.cycleNs).natAbs ≤ e.acceptNs
    let b := ({ y.send g p f 0 with arb := some a }).onPort p fun q => q.count 0
    let z := { b with block := some p, lastFwd := (p, e.startNs, t) ::
      y.lastFwd.filter fun k => decide (t - k.2.2 ≤ 2 * (y.cycleNs : Int)) && !(decide (k.1 = p) && decide (k.2.1 = e.startNs)) }
    let base : Rat := fieldAt f.payload 8 8 + syncDelay f.payload
    let now := if z.follower = true ∧ z.trunk g p = true ∧ f.kind = 3 then base + 460 + meanDelay (z.port p).delays else base
    let start : Rat := (fieldAt f.payload 8 8 : Rat) - e.startNs
    let k := ({ z with
      refT := t, refG := now, slew := 0, cycle := f.cycle.toNat % 64, cycleAt := start
      coldNow := z.coldNow || decide (f.kind = 3)
      follow := if f.kind = 3 then z.follow else some (fieldAt f.payload 0 1, 0) }).onPort p fun q => { q with devNow := some (now - start - e.startNs) }
    (f.fcsOk = false → y.coldForward g p f t e = z) ∧
    (f.fcsOk = true → ¬pairs → y.coldForward g p f t e = k) ∧
    (f.fcsOk = true → pairs → y.coldForward g p f t e = { k with
      synced := true, block := none, quiet := 0,
      ports := Vector.ofFn fun i : Fin 19 => { k.port i with
        hit := decide (i = p), miss := false, clean := 0, devPrev := none, devNow := if i = p then (k.port i).devNow else none } })) ∧
  (∀ (y : Green) (g : GreenId) (p : Fin 19) (f : CttFrame) (t : Int),
    (f.fcsOk = false ∨ f.sched = none → y.schedule g p f t = y) ∧
    (∀ c, f.fcsOk = true → f.sched = some c →
      let z := { y with chunks := y.chunks.filter (fun d => !(decide (d.1 = p.val) && decide (d.2.2.cascade = c.cascade) &&
        (decide (d.2.2.dlCrc ≠ c.dlCrc) || decide (d.2.2.part = c.part)))) ++ [(p.val, t, c)] }
      (twoCopies z.chunks p.val c = none → y.schedule g p f t = z) ∧
      (∀ parts, twoCopies z.chunks p.val c = some parts →
        (c.cascade = true → y.schedule g p f t = { z with cascade := some (parts.headD []) }.setRoles g) ∧
        (c.cascade = false → z.sched ≠ none → z.dlCrc = c.dlCrc → y.schedule g p f t = z) ∧
        (c.cascade = false → z.sched = none ∨ z.dlCrc ≠ c.dlCrc → y.schedule g p f t = { z with
          sched := some ({ rtype := 9, inst := 0, parts := parts } : Rec).entries, section8 := slice c.netSection 0 8, dlCrc := c.dlCrc,
          chunks := z.chunks.filter (fun d => d.2.2.cascade), synced := false, block := none, lastFwd := [], follow := none,
          coldNow := false, quiet := 0, arriving := [] }))))

/-- A Green's slot ends, cycle ends, STATUS frames, links and loss of synchronisation. Each of SLOT_END_TRUNCATE,
GREEN_CYCLE_END, GREEN_STATUS_SEND, PORT_LINK_CHANGE, GREEN_BLOCK_END and GREEN_SYNC_LOSS completes. A forwarded frame
still arriving at its slot's end is truncated: its copies lose their good FCS, the port counts TRUNCATED and has a
VIOLATION. The end of a synchronised cycle corrects the time by the offset from the master that it followed, in a step
beyond 1,000 ns and else with a rate limit of 500 ppm, with no correction where it followed none; it passes to the
next of 64 cycle numbers, keeps the delays measured in the last 8 cycles, counts the cycle clean for a closed port
that sent inside its windows and nowhere else, opens it again after the stored number of clean cycles, and counts the
cycles without a master. STATUS goes to the three lane ports and the port index passes to the next of 16 (log 57). A
link that goes down leaves the port DOWN, with LINK_DOWN counted where it was up; training begins from DOWN (log 55);
a link that comes up leaves the port CLOSED where it was closed before, else OPEN. Eight cycles without a master or a
COLDSTART frame end synchronisation. The block of an unsynchronised Green ends with its slot. Elsewhere, and at a
Green that does not work, nothing changes (log 3). (R410, R411, R413, R414, R415, R430, R433, R436, R440, R441) -/
def Obligations.GreenCycleAndLinkRows : Prop :=
  ∀ (s : State) (g : GreenId) (x : Green), s.green g = x →
    (∀ p : Fin 19,
      (x.on = true → p ∈ x.arriving → s.TurnsGreen (.slotEndTruncate g p) g
        ((({ x with arriving := x.arriving.filter fun q => q ≠ p,
                    egress := x.egress.map fun (b : Nat × CttFrame) => (b.1, { b.2 with fcsOk := false }) }).onPort p fun q =>
          q.count 3).violate p)) ∧
      (x.on = false ∨ p ∉ x.arriving → s.TurnsGreen (.slotEndTruncate g p) g x)) ∧
    (x.on = true → x.synced = true →
      let fin' := x.cycleAt + x.cycleNs
      let t := x.refT + (fin' - x.refG) / (1 + x.rate + x.slew)
      let c := match x.follow with
        | none => { x with refT := t, refG := fin', slew := 0 }
        | some (_, off) =>
          if off < -1000 ∨ 1000 < off then { x with refT := t, refG := fin' - off, slew := 0 }
          else { x with
            refT := t, refG := fin', slew := -off / x.cycleNs
            rate := clamp (x.rate - off / (2 * x.cycleNs)) (-(mkRat 500 1000000)) (mkRat 500 1000000) }
      s.TurnsGreen (.greenCycleEnd g) g { c with
        cycleAt := x.cycleAt + x.cycleNs, cycle := (x.cycle + 1) % 64, cycles := x.cycles + 1
        ports := x.ports.map fun q =>
          let clean := if q.st = .closed ∧ q.hit = true ∧ q.miss = false then q.clean + 1 else 0
          let back := q.st = .closed ∧ x.reopenCycles ≤ clean
          { q with
            st := if back then .opened else q.st, shut := q.shut && !decide back, clean := if back then 0 else clean
            hit := false, miss := false, devPrev := q.devNow, devNow := none
            viols := q.viols.filter fun v => x.cycles + 1 < v + x.violCycles
            delays := (q.delays.map fun d => (d.1 + 1, d.2)).filter fun d => decide (d.1 < 8) }
        quiet := if x.follow = none ∧ x.coldNow = false then x.quiet + 1 else 0
        follow := none, coldNow := false, arriving := [] }) ∧
    (x.on = false ∨ x.synced = false → s.TurnsGreen (.greenCycleEnd g) g x) ∧
    (x.on = true → s.TurnsGreen (.greenStatusSend g) g { x with
      egress := [(16, x.statusFrame g), (17, x.statusFrame g), (18, x.statusFrame g)], statusPort := (x.statusPort + 1) % 16 }) ∧
    (x.on = false → s.TurnsGreen (.greenStatusSend g) g x ∧ ∀ p c, s.TurnsGreen (.portLinkChange g p c) g x) ∧
    (∀ p : Fin 16, x.on = true →
      let q := x.port (fin p.val)
      s.TurnsGreen (.portLinkChange g p .down) g (x.onPort (fin p.val) fun _ =>
        { (if q.up = true then q.count 6 else q) with st := .down, viols := [], clean := 0 }) ∧
      s.TurnsGreen (.portLinkChange g p .training) g (x.onPort (fin p.val) fun _ =>
        if q.st = .down then { q with st := .training } else q) ∧
      s.TurnsGreen (.portLinkChange g p .up) g (x.onPort (fin p.val) fun _ =>
        { q with st := if q.shut = true then .closed else .opened })) ∧
    s.TurnsGreen (.greenBlockEnd g) g { x with block := none } ∧
    (x.on = true → x.synced = true → 8 ≤ x.quiet → s.TurnsGreen (.greenSyncLoss g) g { x with
      synced := false, block := none, lastFwd := [], follow := none, coldNow := false, quiet := 0, arriving := [] }) ∧
    (x.on = false ∨ x.synced = false ∨ x.quiet < 8 → s.TurnsGreen (.greenSyncLoss g) g x)

/-- A frame that arrives at a lane port. LANE_FRAME_RECEIVE completes. In a working lane a STATUS frame in good form
is taken and one in bad form counts as discarded. A frame of a kind and slot that the lane may adopt in its present
state is adopted, whose time then stands at the frame's, and counts as valid. Every other frame in good form with the
lane's schedule, inside its slot's window and of its kind, is valid; what fails any check counts as discarded and has
no other effect. A valid frame marks its Green as heard, which an absent one so becomes present with and a lost one is
restored by with the second cycle in a row, and its trunk and its sender; a COLDSTART frame, and a SYNC frame with
MASTER, stop the count of quiet cycles; a SYNC frame of lower rank marks the cycle and, with MASTER, takes MASTER from
the lane; with a Green's stamp it gives the channel its delay, where dev_ns is present, and, with MASTER and the
lowest rank, its offset. It is delivered once for each slot and cycle: the first copy reaches the safety layer or the
service connection, an equal later copy nothing, a different one the mismatch counter. That an adopted frame counts as
valid is the model's reading (log 56). A lane without power or in reset takes nothing. (R92, R413, R416, R417, R418,
R419, R432, R435, R438, R441, R449, R453) -/
def Obligations.LaneFrameRow : Prop :=
  (∀ (s : State) (l : LaneId) (x : Lane) (g : GreenId) (f : CttFrame) (t : Int), s.lane l = x →
    let c := Instr.laneFrameReceive l g f t
    let form := f.fcsOk = true ∧ f.ethertype = 0x88B5 ∧ f.vlan = false ∧ f.version.toNat / 256 = 1 ∧ f.flags.toNat / 2 = 0 ∧
      f.flags.toNat % 2 = g.val
    let own := f.scheduleId.toNat = scheduleId x.laneRec
    let dropped := x.onChan g fun q => { q with discards := q.discards + 1 }
    (x.awake = true →
      (f.kind = 6 → form → s.Turns c l (x.statusHeard g f.payload)) ∧
      (f.kind = 6 → ¬form → s.Turns c l dropped) ∧
      (f.kind ≠ 6 →
        (∀ e, x.adoptable g f = some e → x.adopts f = true →
          let z := x.adopt g f e
          s.Turns c l (z.frameValid g f z.tm.glob.toNat e)) ∧
        (x.adoptable g f = none ∨ x.adopts f = false →
          (¬(form ∧ own) → s.Turns c l dropped) ∧
          (form → own → x.frameSlot g f t = none → s.Turns c l dropped) ∧
          (form → own → ∀ e, x.frameSlot g f t = some e → s.Turns c l (x.frameValid g f t e))))) ∧
    (x.awake = false → s.Turns c l x)) ∧
  (∀ (x : Lane) (g : GreenId) (f : CttFrame) (t : Int) (e : SlotEntry),
    let start : Int := x.net.cycleAt + ((((f.cycle.toNat + 96 - x.net.cycle) % 64 : Nat) : Int) - 32) * x.cyc + e.startNs
    (x.frameSlot g f t = some e ↔
      x.slotOf g f.slot.toNat = some e ∧ e.occurs f.cycle.toNat = true ∧ f.cycle.toNat < 64 ∧ f.kind.toNat = e.kind ∧
      f.length.toNat ≤ f.payload.length ∧ start - e.acceptNs ≤ t ∧ t ≤ start + e.lengthNs + 520)) ∧
  (∀ (x : Lane) (g : GreenId) (f : CttFrame) (t : Int) (e : SlotEntry),
    let heard := x.onChan g fun q => { q with gotNow := true, missed := 0 }
    let seen := match (vget x.net.chan g).view with
      | .present => heard
      | .absent => heard.greenThere g
      | .lost => if (vget x.net.chan g).gotPrev = true then heard.greenRestored g else heard
    let lead := (each (idxs 4) (fun j y =>
      if e.owner < 16 ∧ trunkPort seen.cascadeRec g j.val = e.owner then { y with net := { y.net with
        trunkSeen := bitPut y.net.trunkSeen j.val true, trunkNow := bitPut y.net.trunkNow j.val true
        trunkMissed := vset y.net.trunkMissed j 0, trunkLost := bitPut y.net.trunkLost j.val false
        trunkEnded := bitPut y.net.trunkEnded j.val false } } else y) seen).onChan g fun q => { q with
      lanesNow := if 16 ≤ e.owner then bitPut q.lanesNow (e.owner - 16) true else q.lanesNow }
    (f.kind = 4 → x.frameValid g f t e = (lead.syncHeard g f t).deliver f t) ∧
    (f.kind = 3 → x.frameValid g f t e = ({ lead with net := { lead.net with quiet := 0 } } : Lane).deliver f t) ∧
    (f.kind ≠ 3 → f.kind ≠ 4 → x.frameValid g f t e = lead.deliver f t)) ∧
  (∀ (x : Lane) (g : GreenId) (f : CttFrame) (t : Int),
    let master := syncMaster f.payload = true
    let lower := f.rank.toNat < rank x.laneRec
    let z := { x with net := { x.net with
      lowerHeard := x.net.lowerHeard || decide lower, master := x.net.master && !decide (lower ∧ master)
      quiet := if master then 0 else x.net.quiet } }
    let a : Rat := (t : Rat) - fieldAt f.payload 0x10 8
    let raw := fieldAt f.payload 0x18 4
    let dev : Rat := toSigned 32 raw
    let off : Rat := if raw = 0x80000000 then a - (vget x.net.chan g).latest.getD 0 else (a - dev) / 2
    (fieldAt f.payload 0x10 8 = 0 → x.syncHeard g f t = z) ∧
    (fieldAt f.payload 0x10 8 ≠ 0 → x.syncHeard g f t = z.onChan g fun q => { q with
      delays := if raw = 0x80000000 then q.delays else (0, (a + dev) / 2) :: q.delays
      latest := if raw = 0x80000000 then q.latest else some ((a + dev) / 2)
      off := if master ∧ (∀ o, q.off = some o → f.rank.toNat < o.2.2) then some (off, decide (raw ≠ 0x80000000), f.rank.toNat)
        else q.off })) ∧
  (∀ (x : Lane) (f : CttFrame) (t : Int),
    let found := x.net.copies.find? fun c => c.1 = f.slot.toNat && c.2.1 = f.cycle.toNat
    let data := f.payload.take f.length.toNat
    (∀ c, found = some c → c.2.2 = data → x.deliver f t = x) ∧
    (∀ c, found = some c → c.2.2 ≠ data →
      x.deliver f t = { x with net := { x.net with copyMismatch := x.net.copyMismatch + 1 } }) ∧
    (found = none →
      let z := { x with net := { x.net with copies := x.net.copies ++ [(f.slot.toNat, f.cycle.toNat, data)] } }
      x.deliver f t = if f.kind = 1 then z.readContainer f.slot.toNat data t else if f.kind = 2 then z.serviceHeard data else z))

/-- What a lane sends: slots, containers, downloads, and a lost service connection. Each of SLOT_TRANSMIT, PDU_PACK,
SCHEDULE_DOWNLOAD_SEND and SERVICE_CONN_LOST completes. In an occurrence of a slot of its own, a lane whose ports send
puts out one frame with the slot's kind and number and its present cycle: in COLDSTART a COLDSTART frame where it may;
in INTEGRATING empty DATA, but not in LANE_SAFE, and empty SERVICE; in ACTIVE the container packed for the slot, but
not in LANE_SAFE, a SERVICE frame, a COLDSTART frame and a SYNC frame where it may, the SYNC frame with MASTER as it
stands; in LISTEN and PASSIVE nothing. PDU_PACK replaces the container of an own DATA slot in ACTIVE outside
LANE_SAFE. A SERVICE frame carries what this slot's occurrence has sent already, on the other channel (log 34), else
the response of the lowest network mailbox that is DONE, which so becomes IDLE, else nothing. A download goes out
once, the schedule's parts each with the network section and then the cascade record, while either is left to send,
and one repeat fewer is left of each (log 21). A service connection seen and then lost has the command in its mailbox
run on with its response discarded, and otherwise ends its negotiation and session as BYE does. Everywhere else the
rows change nothing (log 3). (R398, R407, R418, R419, R421, R425, R435, R437, R449, R452, R469) -/
def Obligations.LaneSendRows : Prop :=
  ∀ (s : State) (l : LaneId) (x : Lane), s.lane l = x →
    let sends := x.awake = true ∧ x.keeperStopped = false
    let safe := x.sys.lstate = .safe
    (∀ (g : GreenId) (slot : Fin 1024),
      let c := Instr.slotTransmit l g slot
      let out (y : Lane) (kind : Nat) (p : Bytes) : Lane :=
        { y with net := { y.net with sent := [(g, x.frameOf g kind slot.val p)] } }
      (∀ e, x.slotOf g slot.val = some e → sends → e.owner = 16 + x.idx.val → e.occurs x.net.cycle = true →
        (x.net.integ = .coldstart → s.Turns c l
          (if e.kind = 3 ∧ coldstartEn x.laneRec = true then out x 3 (x.timePayload g e false) else x)) ∧
        (x.net.integ = .integrating → s.Turns c l
          (if e.kind = 2 ∨ (e.kind = 1 ∧ ¬safe) then out x e.kind [] else x)) ∧
        (x.net.integ = .active →
          (e.kind = 1 → s.Turns c l (if safe then x else out x 1 (x.net.packedFor slot.val))) ∧
          (e.kind = 2 → s.Turns c l (out (x.servicePayload slot.val).1 2 (x.servicePayload slot.val).2)) ∧
          (e.kind = 4 → s.Turns c l (if syncEn x.laneRec = true then out x 4 (x.timePayload g e x.net.master) else x)) ∧
          (e.kind = 3 → s.Turns c l (if coldstartEn x.laneRec = true then out x 3 (x.timePayload g e false) else x)) ∧
          (e.kind ∉ [1, 2, 3, 4] → s.Turns c l x)) ∧
        (x.net.integ = .listen ∨ x.net.integ = .passive → s.Turns c l x)) ∧
      (x.slotOf g slot.val = none ∨ ¬sends ∨
          (∃ e, x.slotOf g slot.val = some e ∧ (e.owner ≠ 16 + x.idx.val ∨ e.occurs x.net.cycle = false)) → s.Turns c l x)) ∧
    (∀ slot : Nat,
      let found := x.net.svcOut.find? fun y => decide (y.1 = x.net.cycle) && decide (y.2.1 = slot)
      (∀ y, found = some y → x.servicePayload slot = (x, y.2.2)) ∧
      (found = none → (∀ k : Fin 4, (x.mb (fin (4 + k.val))).st ≠ .done) → x.servicePayload slot = (x, [])) ∧
      (found = none → ∀ k : Fin 4, (x.mb (fin (4 + k.val))).st = .done → (∀ j : Fin 4, j < k → (x.mb (fin (4 + j.val))).st ≠ .done) →
        let b := (x.mb (fin (4 + k.val))).outBuf
        let p := leBytes 2 (serviceConn x.laneRec k.val) ++ [1, 0] ++ memReadN b 0 (16 + ofLe (memReadN b 6 2))
        let z := x.onMb (fin (4 + k.val)) fun b => { b with st := .idle }
        x.servicePayload slot = ({ z with net := { z.net with svcOut := (x.net.cycle, slot, p) :: z.net.svcOut } }, p))) ∧
    (∀ slot : Fin 1024,
      let packs := sends ∧ x.net.integ = .active ∧ ¬safe ∧ x.ownsData slot.val = true
      let z := x.packSlot slot.val
      (packs → s.Turns (.pduPack l slot) l { z.1 with net := { z.1.net with
        packed := (slot.val, z.2) :: z.1.net.packed.filter fun y => y.1 ≠ slot.val } }) ∧
      (¬packs → s.Turns (.pduPack l slot) l x)) ∧
    (∀ g : GreenId,
      let c := vget x.net.chan g
      let due := c.download ≠ none ∨ c.cascade ≠ none
      let fewer (n : Option Nat) : Option Nat := match n with
        | some k => if k ≤ 1 then none else some (k - 1)
        | none => none
      let parts := match findRec x.inForce 9 g.val with
        | some r => r.parts
        | none => []
      let sched : List SchedChunk := (List.range parts.length).map fun k =>
        { dlCrc := BitVec.ofNat 32 (x.downloadCrc g), cascade := false, netSection := slice x.laneRec 0x10 0x20, part := k,
          parts := parts.length, record := parts.getD k [] }
      let casc : List SchedChunk := match findRec x.inForce 13 0 with
        | some r => [{ dlCrc := BitVec.ofNat 32 r.crc, cascade := true, netSection := [], part := 0, parts := 1, record := r.parts.headD [] }]
        | none => []
      let chunks := (if c.download = none then [] else sched) ++ if c.cascade = none then [] else casc
      (due → sends → ¬safe → s.Turns (.scheduleDownloadSend l g) l (({ x with net := { x.net with
        sent := chunks.map fun (q : SchedChunk) => (g, { x.frameOf g 5 0 (leBytes 4 q.dlCrc.toNat ++ q.netSection ++ q.record) with sched := some q }) } }).onChan g
          fun q => { q with download := fewer q.download, cascade := fewer q.cascade })) ∧
      (¬due ∨ ¬sends ∨ safe → s.Turns (.scheduleDownloadSend l g) l x)) ∧
    (∀ k : Fin 4,
      let m : MbId := fin (4 + k.val)
      let z := { x with net := { x.net with svcSeen := bitPut x.net.svcSeen k.val false } }
      (x.awake = true → bit x.net.svcSeen k.val = true →
        ((x.mb m).st = .posted ∨ (x.mb m).st = .busy →
          s.Turns (.serviceConnLost l k) l (z.onMb m fun b => { b with discard := true })) ∧
        ((x.mb m).st = .idle ∨ (x.mb m).st = .done → s.Turns (.serviceConnLost l k) l (z.bye m))) ∧
      (x.awake = false ∨ bit x.net.svcSeen k.val = false → s.Turns (.serviceConnLost l k) l x))

/-- Cluster cycles, start-up of the network and the master. Each of CLUSTER_CYCLE_START, LISTEN_TIMEOUT,
COLDSTART_MASTER, INTEGRATION_TIMEOUT, PASSIVE_TIMEOUT and MASTER_SUCCESSION completes. At a cluster cycle start a
lane that follows a master corrects its rate and slew by the offset it measured and judges its integration state by
it, a master and a lane that follows none correct nothing; then the next of 64 cycles begins, the cycle's counts roll
on and event 144 is raised with the cycle that begins. The cycle's offset is the mean of the two channels' offsets,
channel A's where they differ by more than twice passive_limit_ns, which counts as a skew, or that of the one channel
that has one, with dev_ns present where one of the two had it. INTEGRATING becomes ACTIVE with the second offset in a
row within passive_limit_ns and with dev_ns; ACTIVE becomes PASSIVE, and master no longer (log 81), with an offset
beyond the limit or the eighth cycle in a row at the rate limit; PASSIVE becomes ACTIVE again with the second offset
in a row within half the limit and not at the rate limit. LISTEN ends in cycle 0 of COLDSTART, with event 144, after
listen_cycles where the lane may cold-start and has a schedule; COLDSTART in ACTIVE as master after coldstart_cycles,
SYNCED; INTEGRATING in LISTEN and HOLDOVER after 8 quiet cycles; PASSIVE in INTEGRATING after 8 cycles with global
time stepped by the last offset; an ACTIVE lane that may send SYNC becomes master after master_loss_cycles of its own
SYNC slot without a lower rank (log 56). A lane that becomes SYNCED as master may now rejoin. Each entry restarts the
counts of the state. Elsewhere the timers change nothing (log 3). (R113, R430, R434, R435, R437, R438, R439, R441,
R443) -/
def Obligations.IntegrationStateRows : Prop :=
  (∀ (s : State) (l : LaneId) (x : Lane), s.lane l = x →
    let r := x.laneRec
    let sends := x.awake = true ∧ x.keeperStopped = false
    let enter (n : Net) (v : Integ) : Net := { n with integ := v, inState := 0, goodRun := 0, limitRun := 0 }
    let listens := sends ∧ x.net.integ = .listen ∧ coldstartEn r = true ∧ listenCycles r ≤ x.net.inState ∧ x.hasSchedule = true
    let starts := sends ∧ x.net.integ = .coldstart ∧ coldstartCycles r ≤ x.net.inState
    let fails := x.awake = true ∧ x.net.integ = .integrating ∧ 8 ≤ x.net.quiet
    let idles := x.awake = true ∧ x.net.integ = .passive ∧ 8 ≤ x.net.inState
    let succeeds := sends ∧ x.net.integ = .active ∧ syncEn r = true ∧ x.net.lowerHeard = false ∧ masterLossCycles r ≤ x.net.lowerAge
    (x.awake = true →
      let m := x.cycleOffset
      let off := if x.net.follows = true then m.1 else none
      let z := { x with
        tm := x.tm.correct (rateLimitPpm r) x.cyc (off.map fun (y : Rat × Bool) => y.1),
        net := { x.net with
          inState := x.net.inState + 1
          skews := if x.net.follows = true ∧ m.2 = true then x.net.skews + 1 else x.net.skews,
          lastOff := match off with | some y => y.1 | none => x.net.lastOff } }
      let w := z.integrate off
      let v := { w with net := w.net.roll (w.syncSlotIn w.net.cycle) w.cyc }
      s.Turns (.clusterCycleStart l) l (v.event 144 v.net.cycle) ∧ v.net.cycle = (x.net.cycle + 1) % 64 ∧
        v.net.cycleAt = x.net.cycleAt + x.cyc) ∧
    (x.awake = false → s.Turns (.clusterCycleStart l) l x) ∧
    (listens → s.Turns (.listenTimeout l) l ({ x with net :=
      { enter x.net .coldstart with cycle := 0, cycleAt := x.tm.glob.toNat } }.event 144 0)) ∧
    (¬listens → s.Turns (.listenTimeout l) l x) ∧
    (starts → s.Turns (.coldstartMaster l) l
      ({ x with net := { enter x.net .active with master := true } }.setSync .synced).rejoinTry) ∧
    (¬starts → s.Turns (.coldstartMaster l) l x) ∧
    (fails → s.Turns (.integrationTimeout l) l ({ x with net := enter x.net .listen }.setSync .holdover)) ∧
    (¬fails → s.Turns (.integrationTimeout l) l x) ∧
    (idles →
      let z := x.stepGlobal ((x.tm.glob.toNat : Int) - roundEven x.net.lastOff)
      s.Turns (.passiveTimeout l) l { z with
        tm := { z.tm with slew := 0 }, net := { enter z.net .integrating with quiet := 0 } }) ∧
    (¬idles → s.Turns (.passiveTimeout l) l x) ∧
    (succeeds → s.Turns (.masterSuccession l) l ({ x with net := { x.net with master := true } }.setSync .synced).rejoinTry) ∧
    (¬succeeds → s.Turns (.masterSuccession l) l x) ∧
    (∀ (t : Timebase) (ppm cyc : Nat) (e : Rat), 0 < ppm →
      (t.correct ppm cyc none).slew = 0 ∧ (t.correct ppm cyc none).rate = t.rate ∧
      (t.correct ppm cyc (some e)).slew = -e / cyc ∧
      -(mkRat ppm 1000000) ≤ (t.correct ppm cyc (some e)).rate ∧ (t.correct ppm cyc (some e)).rate ≤ mkRat ppm 1000000)) ∧
  (∀ x : Lane,
    let lim : Rat := 2 * passiveLimitNs x.laneRec
    let a := (vget x.net.chan 0).off
    let b := (vget x.net.chan 1).off
    (a = none → b = none → x.cycleOffset = (none, false)) ∧
    (∀ u, a = some u → b = none → x.cycleOffset = (some (u.1, u.2.1), false)) ∧
    (∀ v, a = none → b = some v → x.cycleOffset = (some (v.1, v.2.1), false)) ∧
    (∀ u v, a = some u → b = some v →
      (lim < |u.1 - v.1| → x.cycleOffset = (some (u.1, u.2.1 || v.2.1), true)) ∧
      (|u.1 - v.1| ≤ lim → x.cycleOffset = (some ((u.1 + v.1) / 2, u.2.1 || v.2.1), false)))) ∧
  (∀ (x : Lane) (off : Option (Rat × Bool)),
    let lim : Rat := passiveLimitNs x.laneRec
    let top := x.tm.rate = mkRat (rateLimitPpm x.laneRec) 1000000 ∨ x.tm.rate = -(mkRat (rateLimitPpm x.laneRec) 1000000)
    let good := ∃ e, off = some (e, true) ∧ |e| ≤ lim
    let fine := ∃ e d, off = some (e, d) ∧ |e| ≤ lim / 2 ∧ ¬top
    let bad := ∃ e d, off = some (e, d) ∧ lim < |e|
    let into (v : Integ) : Lane := { x with net := { x.net with integ := v, inState := 0, goodRun := 0, limitRun := 0 } }
    let run (k : Nat) : Lane := { x with net := { x.net with goodRun := k } }
    (x.net.integ = .integrating →
      (good → 1 ≤ x.net.goodRun → x.integrate off = into .active) ∧
      (good → x.net.goodRun = 0 → x.integrate off = run 1) ∧
      (¬good → x.integrate off = run 0)) ∧
    (x.net.integ = .active →
      (bad ∨ (top ∧ 7 ≤ x.net.limitRun) → x.integrate off =
        { x with net := { x.net with integ := .passive, inState := 0, goodRun := 0, limitRun := 0, master := false } }) ∧
      (¬bad → top → x.net.limitRun < 7 → x.integrate off = { x with net := { x.net with limitRun := x.net.limitRun + 1 } }) ∧
      (¬bad → ¬top → x.integrate off = { x with net := { x.net with limitRun := 0 } })) ∧
    (x.net.integ = .passive →
      (fine → 1 ≤ x.net.goodRun → x.integrate off = into .active) ∧
      (fine → x.net.goodRun = 0 → x.integrate off = run 1) ∧
      (¬fine → x.integrate off = run 0)) ∧
    (x.net.integ = .listen ∨ x.net.integ = .coldstart → x.integrate off = x))

/-- Supplies, home ports, rails, clocks and die temperatures. Each of PD_CLASSIFICATION, HOME_PORT_LOSS, SUPPLY_VALID,
SUPPLY_LOST, RAIL_FAULT, CLOCK_START_TIMEOUT and TEMPERATURE_SAMPLE completes. A PD classification gives its external
port class 9. A lost home port loses its classification and reports source 26 with the port as index; a rail fault of
a powered lane reports source 25; each condition stands from then on, and only a working lane collects it at once. A
region is fed while one of its home ports is classified and its branch has not tripped. A fed lane whose supply
becomes valid passes through a power-on reset and leaves reset; one whose supply is lost is held in lane reset without
power, and the home ports that fed it lose their classification (the model's reading, log 7); a Green is reset in both
cases; what is already so, or not fed, changes nothing. A clock that has not started while a powered lane stands in
LANE_INIT before step 3, out of reset, is marked bad and reported. A temperature sample of a powered lane keeps for
each die and threshold whether it is exceeded, until 10 degrees below it (the thresholds are free, log 59); in a
working lane sources not exceeded read HEALTHY and the others are reported together. (R12, R362, R376, R495, R496,
R497, R500, R501, R503, R541) -/
def Obligations.SuppliesClocksAndHomePorts : Prop :=
  ∀ (s : State),
    let turns (c : Instr) (l : LaneId) (y : Lane) (pd : Vector (Option Nat) 32) : Prop :=
      ∃ t, exec c s = .next t ∧ { t.lane l with alm := y.alm } = y.noticeSync ∧ (∀ k, k ≠ l → t.lane k = s.lane k) ∧
        t.greens = s.greens ∧ t.homes = s.homes ∧ t.pd = pd ∧ t.pending = s.pending
    let feeds (g : GreenId) (k : Nat) (star : Bool) : Prop :=
      vget s.pd (fin (16 * g.val + k)) ≠ none ∧
        (if star = true then (vget s.homes (fin (3 * g.val + k))).starTrip else (vget s.homes (fin (3 * g.val + k))).laneTrip) = false
    (∀ (g : GreenId) (p : Fin 16),
      exec (.pdClassification g p) s = .next { s with pd := vset s.pd (fin (16 * g.val + p.val)) (some 9) }) ∧
    (∀ (l : LaneId) (x : Lane), s.lane l = x →
      let fed := ∃ g : GreenId, feeds g l.val false
      (∀ g : GreenId,
        let y := { x with sys := { x.sys with portLost := bitPut x.sys.portLost g.val true } }
        let pd := vset s.pd (fin (16 * g.val + l.val)) none
        (x.awake = true → turns (.homePortLoss l g) l (y.fault 26 0xFF 0 (16 * g.val + l.val) 0) pd) ∧
        (x.awake = false → turns (.homePortLoss l g) l y pd)) ∧
      (let y := { x with sys := { x.sys with railBad := true } }
       (x.awake = true → x.sys.powered = true → s.Turns (.railFault l) l (y.fault 25 0xFF 0 0 0)) ∧
       (x.awake = false → x.sys.powered = true → s.Turns (.railFault l) l y) ∧
       (x.sys.powered = false → s.Turns (.railFault l) l x)) ∧
      (¬fed ∨ x.sys.powered = true → s.Turns (.supplyValid (.lane l)) l x) ∧
      (fed → x.sys.powered = false → s.Turns (.supplyValid (.lane l)) l
        (({ x with sys := { x.sys with powered := true } }.laneReset true).leaveReset)) ∧
      (let pd : Vector (Option Nat) 32 := Vector.ofFn fun k : Fin 32 =>
        let h := vget s.homes (fin (3 * (k.val / 16) + l.val))
        if k.val % 16 = l.val ∧ h.laneTrip = false then none else vget s.pd k
       (x.sys.powered = true → turns (.supplyLost (.lane l)) l
         ({ x with sys := { x.sys with powered := false, run := false, parked := false } }.laneReset false) pd) ∧
       (x.sys.powered = false → turns (.supplyLost (.lane l)) l x pd)) ∧
      (∀ k : Fin 6,
        let waits := x.sys.lstate = .init ∧ x.sys.pwrHold = false ∧ x.sys.inReset = false ∧ x.sys.powered = true
        (waits → s.Turns (.clockStartTimeout l k) l
          ({ x with sys := { x.sys with badClocks := bitPut x.sys.badClocks k.val true } }.fault (16 + k.val) 0xFF 0 0 0)) ∧
        (¬waits → s.Turns (.clockStartTimeout l k) l x)) ∧
      (∀ logic gate : Int,
        let z := { x with sys := { x.sys with hot := x.hotNext logic gate } }
        let cold := each (List.range 4) (fun k y => if bit (x.hotNext logic gate) k = true then y else y.healthy (113 + k)) z
        let up := (List.range 4).filter fun k => bit (x.hotNext logic gate) k
        (x.sys.powered = true → x.awake = true → s.Turns (.temperatureSample l logic gate) l
          (if up = [] then cold else cold.collect (up.map fun k => report (113 + k) 0xFF 0 0 0))) ∧
        (x.sys.powered = true → x.awake = false → s.Turns (.temperatureSample l logic gate) l z) ∧
        (x.sys.powered = false → s.Turns (.temperatureSample l logic gate) l x) ∧
        (let above (was : Bool) (t lim : Int) : Prop := lim < t ∨ (was = true ∧ lim - 100 < t)
         (bit (x.hotNext logic gate) 0 = true ↔ above (bit x.sys.hot 0) logic (warnAt x.idx 0)) ∧
         (bit (x.hotNext logic gate) 1 = true ↔ above (bit x.sys.hot 1) logic (overAt x.idx 0)) ∧
         (bit (x.hotNext logic gate) 2 = true ↔ above (bit x.sys.hot 2) gate (warnAt x.idx 1)) ∧
         (bit (x.hotNext logic gate) 3 = true ↔ above (bit x.sys.hot 3) gate (overAt x.idx 1)) ∧
         1350 ≤ warnAt x.idx 0 ∧ warnAt x.idx 0 ≤ 1450 ∧ 1500 ≤ overAt x.idx 0 ∧ overAt x.idx 0 ≤ 1600))) ∧
    (∀ (g : GreenId) (x : Green), s.green g = x →
      let fed := ∃ k : Fin 3, feeds g k.val true
      (¬fed ∨ x.powered = true → s.TurnsGreen (.supplyValid (.green g)) g x) ∧
      (fed → x.powered = false → s.TurnsGreen (.supplyValid (.green g)) g ({ x with powered := true }.afterReset)) ∧
      ∃ t, exec (.supplyLost (.green g)) s = .next t ∧ t.green g = { x with powered := false }.afterReset ∧
        (∀ h, h ≠ g → t.green h = s.green h) ∧ t.lanes = s.lanes ∧ t.homes = s.homes ∧ t.pending = s.pending ∧
        t.pd = Vector.ofFn fun k : Fin 32 =>
          if k.val / 16 = g.val ∧ k.val % 16 < 3 ∧ (vget s.homes (fin (3 * g.val + k.val % 16))).starTrip = false then none else vget s.pd k)

/-- x_RST_N, x_RUN and SHUTDOWN. Each of RST_N_LOW, RST_N_RELEASE, RUN_LOW and RUN_HIGH completes. x_RST_N low holds
the lane in lane reset; its rise leaves lane reset: into LANE_INIT with device mode START where x_RUN is high, else
into the parked state, and into neither while the lane has no power. x_RUN low, sampled, parks a lane in mode OFF, or
in START before PWRHOLD, leaves a lane in SHUTDOWN or in a start-up test as it is, and takes any other working lane to
SHUTDOWN: mode SHUTDOWN, a debug halt ended, every axis to its safe state, auxiliary outputs off, every slot and
stream stopping, and a run of all 24 slices unless a run is in progress. x_RUN high, sampled, lets a lane in mode OFF
leave lane reset and asks a SHUTDOWN run to end; in every other mode it only stands. A lane reset keeps flash whole,
but for the power-cycle count that a power-on reset adds to, x_RUN, power, the conditions outside the lane's logic and
the line pairs that have failed, and, in every reset but power-on, the Granary, where a record being committed stays
torn; it clears what the lane holds beside them. Leaving lane reset resets the lane once more; held by x_RST_N or
without power it stays so; with x_RUN low it parks; else it stands in LANE_INIT with device mode START, where the
collector's first sample reports each condition that stands: bad clocks, the rail, one lost home port (log 24), die
temperatures, handover lines at an invalid code and failed line pairs. (R31, R491, R501, R502, R504, R506, R507, R509,
R511) -/
def Obligations.ResetAndRunPins : Prop :=
  (∀ (s : State) (l : LaneId) (x : Lane), s.lane l = x →
    s.Turns (.rstNLow l) l ({ x with sys := { x.sys with inReset := true, parked := false } }.laneReset false) ∧
    (x.sys.inReset = true → s.Turns (.rstNRelease l) l ({ x with sys := { x.sys with inReset := false } }.leaveReset)) ∧
    (x.sys.inReset = false → s.Turns (.rstNRelease l) l x) ∧
    (let z := { x with sys := { x.sys with run := false } }
     (x.awake = false ∨ x.sys.mode = .shutdown ∨ x.startupRun = true → s.Turns (.runLow l) l z) ∧
     (x.awake = true → x.startupRun = false →
      (x.sys.mode = .off ∨ (x.sys.mode = .start ∧ x.sys.pwrHold = false) → s.Turns (.runLow l) l z.park) ∧
      (x.sys.mode ≠ .off → x.sys.mode ≠ .shutdown → ¬(x.sys.mode = .start ∧ x.sys.pwrHold = false) →
        s.Turns (.runLow l) l z.shutdown))) ∧
    (x.sys.run = false → x.sys.inReset = false → x.sys.powered = true →
      let z := { x with sys := { x.sys with run := true } }
      (x.sys.mode = .off → s.Turns (.runHigh l) l z.leaveReset) ∧
      (x.sys.mode = .shutdown → s.Turns (.runHigh l) l z.wakeRun) ∧
      (x.sys.mode ≠ .off → x.sys.mode ≠ .shutdown → s.Turns (.runHigh l) l z)) ∧
    (x.sys.run = true ∨ x.sys.inReset = true ∨ x.sys.powered = false → s.Turns (.runHigh l) l x)) ∧
  (∀ x : Lane,
    let z := { x with
      sys := { x.sys with rejoining := false, rejoinTime := false, autoClear := false, halted := false },
      tap := { x.tap with pins := false } }.toMode .shutdown
    let w := (((each (idxs 12) (fun nn y => y.enterSafe nn) z).auxAllOff).stopSlots true).streamsStop
    (w.tst.run = none → x.shutdown = w.beginRun .shutdown (2 ^ 24 - 1)) ∧ (w.tst.run ≠ none → x.shutdown = w)) ∧
  (∀ (x : Lane) (power : Bool),
    let y := x.laneReset power
    y.sys.lstate = .off ∧ y.sys.mode = .off ∧ y.sys.run = x.sys.run ∧ y.sys.powered = x.sys.powered ∧
    y.sys.inReset = x.sys.inReset ∧ y.sys.badClocks = x.sys.badClocks ∧ y.hp.ready = false ∧ y.idx = x.idx ∧
    y.sys.railBad = x.sys.railBad ∧ y.sys.portLost = x.sys.portLost ∧ y.sys.hot = x.sys.hot ∧ y.fc.invalid = x.fc.invalid ∧
    y.fl = (if power = true then { x.fl with powerCycles := x.fl.powerCycles + 1 } else x.fl) ∧
    (power = true → y.mem.granary = [] ∧ ∀ nn, (y.axis nn).red.torn = false) ∧
    (power = false → (∀ nn, (x.axis nn).red.commit = none) →
      y.mem.granary = x.mem.granary ∧ ∀ nn, (y.axis nn).red.torn = (x.axis nn).red.torn) ∧
    (power = false → y.mem.granary = (each (idxs 12) (fun nn z => z.stopCommit nn) x).mem.granary ∧
      ∀ nn, (x.axis nn).red.commit ≠ none → (y.axis nn).red.torn = true) ∧ y.fc.first = none ∧ y.fc.seen = 0 ∧ y.ses.holder = none ∧ y.tst.run = none ∧
    y.gd.gden = x.gd.gden ∧ ∀ nn, (y.axis nn).pwm.cmd = 0 ∧ (y.axis nn).gate.cmd = 0 ∧ (y.axis nn).enabled = false) ∧
  (∀ x : Lane,
    let y := x.laneReset false
    let z := { y with sys := { y.sys with lstate := .init, mode := .start } }
    let stands : List Flagged := (((List.range 7).filter fun k => bit x.sys.badClocks k).map fun k => report (16 + k) 0xFF 0 0 0) ++
      (if x.sys.railBad = true then [report 25 0xFF 0 0 0] else []) ++
      ((((List.range 2).filter fun g => bit x.sys.portLost g).take 1).map fun g => report 26 0xFF 0 (16 * g + x.idx.val) 0) ++
      (((List.range 4).filter fun k => bit x.sys.hot k).map fun k => report (113 + k) 0xFF 0 0 0) ++
      (((List.range 3).filter fun k => (vget x.links (fin k)).line = .r00 || (vget x.links (fin k)).line = .r11).map fun k =>
        report (99 + k) 0xFF 0 0 0) ++
      (((idxs 128).filter fun i => bit x.fc.invalid i.val).map fun i =>
        { rep := { src := i, axis := 0xFF, detail := 0, index := 0, data := 0, units := [] }, wire := true, complement := false })
    let w := { z with fc := { z.fc with invalid := 0 } }
    x.park = { y with sys := { y.sys with parked := true } } ∧
    (x.sys.inReset = true ∨ x.sys.powered = false → x.leaveReset = y) ∧
    (x.sys.inReset = false → x.sys.powered = true →
      (x.sys.run = false → x.leaveReset = { y with sys := { y.sys with parked := true } }) ∧
      (x.sys.run = true → x.leaveReset = if stands = [] then w else w.collect stands)))

/-- The start sequence, the test access port, and the test and temperature pins of the Greens. Each of LANE_START,
BYPASS, SAMPLE_PRELOAD, IDCODE, EXTEST, TAP_RESET, GREEN_TEST_PIN, GREEN_OVER_TEMPERATURE and GREEN_COOLED completes.
A lane ready to start that fails its collector's check stays in LANE_INIT for good; with the check passed, all in one
step (log 22), a bad clock that LANE_SAFE needs keeps it where it is; else PWRHOLD goes high and the seal is read and
consumed. A FAILED seal, or from LANE_INIT any other that allows no quick start, sticks after a start-up test in the
same power-up (the model's reading, log 23); else a seal that allows no quick start leads from LANE_INIT to LANE_TEST
with the slices it names; else the injection test counts, and Gamar starts and sets GAMAR_READY: LANE_SAFE follows
where the lane record is not in use, else LANE_ACTIVE. A lane that is not ready to start ignores the row. The
injection test takes 68 windows, compares the two signatures of its routine as each comparator sees them with the bit
injected, and the first window whose result is another than expected reports source 3 with its number. A powered test
port takes the instruction loaded; SAMPLE/PRELOAD captures the pins' levels and loads the output cells with a free
value (log 81); the pins follow EXTEST in WORKSHOP alone, with the cells' levels; an unpowered lane drives no pin; an
EXTEST without effect acts as BYPASS, IDCODE shows 0x13960A7B, and a reset of the port loads IDCODE (by IEEE 1149.1,
log 11) and releases the pins. A change of a Green's test pin, its over-temperature and its cooling each reset it,
keeping its schedule; held in reset or without power its ports are DOWN. (R73, R80, R376, R387, R396, R505, R523,
R526, R527, R541) -/
def Obligations.LaneStartTestPortAndGreenPins : Prop :=
  (∀ (s : State) (l : LaneId) (x : Lane) (o : StartOutcome), s.lane l = x →
    let c := Instr.laneStart l o
    (x.startable = false → s.Turns c l x) ∧
    (x.startable = true →
      let ok := { x with fc := { x.fc with checked := true } }
      let z := { ok with sys := { ok.sys with pwrHold := true } }.readSeal
      let w0 := { z with lk := { z.lk with
        window := z.lk.window + 68, cycles := z.lk.cycles + 68 * 64, proved := z.lk.proved || injectionOk o.injection } }
      let w := match injectionFails o.injection with
        | none => w0
        | some k => w0.pairFault 3 (z.lk.window + BitVec.ofNat 64 k)
      let tests := z.tst.sealState = .failed ∨ (z.tst.quick = false ∧ x.sys.lstate = .init)
      (o.selfCheckOk = false → s.Turns c l { x with sys := { x.sys with stuck := true } }) ∧
      (o.selfCheckOk = true →
        (x.clocksBad = true → s.Turns c l ok) ∧
        (x.clocksBad = false →
          (tests → x.tst.tested = true → s.Turns c l { z with sys := { z.sys with stuck := true } }) ∧
          (¬(tests ∧ x.tst.tested = true) →
            (z.tst.quick = false → x.sys.lstate = .init →
              s.Turns c l ((z.toState .test).beginRun .startup z.tst.startupMask)) ∧
            (z.tst.quick = true ∨ x.sys.lstate = .safe →
              let v : Lane := each (s.seenBy l) (fun k (y : Lane) => y.seePartner k true) (w.gamarStart o)
              s.Turns c l (if v.sys.lstate ≠ .init then v else if v.sys.laneRecBad = true then v.enterLaneSafe
                else v.enterActive false))))))) ∧
  (∀ (i : Injection) (k : Nat),
    let sig (os : List CoreOut) : W64 := (List.range 64).foldl (fun g n =>
      let o := os.getD n { req := none, reg := none, pc := none, ack := false }
      let quiet : Bool := match o.req with
        | some r => decide (r.kind = .store)
        | none => false
      misrStep g (coreBits (if quiet = true then { o with req := none } else o))) 0xFFFFFFFFFFFFFFFF
    let seen (n : Nat) : W64 × W64 :=
      if n = 0 ∨ n = 67 then (0, 0) else if n = 65 then (1, 0) else if n = 66 then (0, 1) else (1 <<< (n - 1), 1 <<< (n - 1))
    let due (n : Nat) : Bool × Bool :=
      if n = 0 ∨ n = 67 then (true, true) else if n = 65 then (false, true) else if n = 66 then (true, false) else (false, false)
    let found (n : Nat) : Bool × Bool :=
      (finds i.main (sig i.primary) (sig i.shadow ^^^ (seen n).1), finds i.dup (sig i.primary) (sig i.shadow ^^^ (seen n).2))
    (injectionOk i = true ↔ ∀ n, n < 68 → found n = due n) ∧
    (injectionFails i = some k ↔ k < 68 ∧ found k ≠ due k ∧ ∀ n, n < k → found n = due n)) ∧
  (∀ (s : State) (l : LaneId) (x : Lane), s.lane l = x →
    (x.sys.powered = true →
      s.Turns (.bypass l) l { x with tap := { x.tap with ir := .bypass, pins := false } } ∧
      s.Turns (.samplePreload l) l { x with
        free := x.free + 1, tap := { ir := .sample, pins := false, scan := x.scanLevels, preload := x.preloadBits } } ∧
      s.Turns (.idcode l) l { x with tap := { x.tap with ir := .idcode, pins := false } } ∧
      s.Turns (.extest l) l { x with tap := { x.tap with ir := .extest, pins := decide (x.sys.mode = .workshop) } }) ∧
    (x.sys.powered = false → ∀ c ∈ [Instr.bypass l, .samplePreload l, .idcode l, .extest l], s.Turns c l x) ∧
    s.Turns (.tapReset l) l { x with tap := { ir := .idcode, pins := false, scan := [], preload := [] } } ∧
    (∀ t : Tap,
      (t.ir = .idcode → t.identity = some 0x13960A7B) ∧ (t.ir ≠ .idcode → t.identity = none) ∧
      (t.ir = .extest → t.acts = if t.pins = true then .extest else .bypass)) ∧
    (∀ p : OutPin, (x.sys.powered = false → x.pin p = .undriven) ∧
      (x.sys.powered = true → x.tap.pins = false → x.pin p = x.outLevel p) ∧
      (x.sys.powered = true → x.tap.pins = true → ∀ k, drivePins.idxOf? p = some k →
        x.pin p = if x.tap.preload.getD k false = true then .high else .low)) ∧
    ((x.outLevel .faultN = .low ↔ x.faultPin = true) ∧ x.outLevel .faultN ≠ .undriven ∧
      (x.outLevel .hirqN = .undriven ↔ x.awake = false) ∧
      (∀ k, x.outLevel (.testPulse k) = if x.inp.pulsing = true ∧ x.inp.low ≠ some k then .high else .low))) ∧
  (∀ (s : State) (g : GreenId) (x : Green), s.green g = x →
    (∀ high : Bool,
      (x.testPin ≠ high → s.TurnsGreen (.greenTestPin g high) g { x with testPin := high }.afterReset) ∧
      (x.testPin = high → s.TurnsGreen (.greenTestPin g high) g x)) ∧
    s.TurnsGreen (.greenOverTemperature g) g { x with hot := true }.afterReset ∧
    (x.hot = true → s.TurnsGreen (.greenCooled g) g { x with hot := false }.afterReset) ∧
    (x.hot = false → s.TurnsGreen (.greenCooled g) g x) ∧
    x.afterReset.sched = x.sched ∧ x.afterReset.dlCrc = x.dlCrc ∧ x.afterReset.cascade = x.cascade ∧
    x.afterReset.synced = false ∧ x.afterReset.chunks = [] ∧ (∀ p k, vget (x.afterReset.port p).counters k = 0) ∧
    (x.powered = false ∨ x.testPin = true ∨ x.hot = true → ∀ p, (x.afterReset.port p).st = .down))
end

