-- ==== Sys2Proof/Laws/Bfp.lean ====
section
/-! SUPPORT. Block floating point: the exponent that a result takes is the least at which its values fit (R164, R168). -/

namespace Sys2Proof.Machine

/-- `pow2` is 2 to an integer power. -/
theorem pow2_zpow (e : Int) : pow2 e = (2 : Rat) ^ e := by
  unfold pow2
  split
  · rename_i h
    rw [Rat.mkRat_one]
    conv_rhs => rw [← Int.toNat_of_nonneg h]
    push_cast; rw [zpow_natCast]
  · rename_i h
    have h' : e = -((-e).toNat : Int) := by omega
    conv_rhs => rw [h', zpow_neg, zpow_natCast]
    rw [Rat.mkRat_eq_div]; push_cast; rw [one_div]

theorem pow2_pos (e : Int) : 0 < pow2 e := by rw [pow2_zpow]; positivity

theorem pow2_succ (e : Int) : pow2 (e + 1) = 2 * pow2 e := by
  rw [pow2_zpow, pow2_zpow, zpow_add_one₀ (by norm_num)]; ring

theorem pow2_add (a b : Int) : pow2 (a + b) = pow2 a * pow2 b := by
  simp only [pow2_zpow]; exact zpow_add₀ (by norm_num) _ _

/-- A value fits at an exponent where it lies within the span (R164). -/
theorem fits_iff {e : Int} {q : Rat} :
    fits e q = true ↔ -8388608 * pow2 (e - 23) ≤ q ∧ q ≤ 8388607 * pow2 (e - 23) := by
  simp [fits, mantValue, mantMin, mantMax]

/-- A value that fits at an exponent fits at the next. -/
theorem fits_succ {e : Int} {q : Rat} (h : fits e q = true) : fits (e + 1) q = true := by
  rw [fits_iff] at *
  have h1 : e + 1 - 23 = (e - 23) + 1 := by ring
  have := pow2_pos (e - 23)
  rw [h1, pow2_succ]
  constructor <;> nlinarith

theorem fits_mono {e f : Int} {q : Rat} (hf : e ≤ f) (h : fits e q = true) : fits f q = true := by
  obtain ⟨n, rfl⟩ := Int.le.dest hf
  induction n with
  | zero => simpa using h
  | succ n ih =>
    have := fits_succ (ih (by omega))
    rwa [show e + (n + 1 : Nat) = e + n + 1 by push_cast; ring]

/-- The size of a value other than 0, from the sizes of its numerator and denominator. -/
theorem abs_bounds {q : Rat} (h : q ≠ 0) :
    let s : Int := (q.num.natAbs.log2 : Int) - (q.den.log2 : Int) - 1
    pow2 s < |q| ∧ |q| < pow2 (s + 2) := by
  intro s
  have hn : q.num.natAbs ≠ 0 := by simpa using h
  have hd : q.den ≠ 0 := q.den_nz
  have n1 := Nat.log2_self_le hn
  have n2 : q.num.natAbs < 2 ^ (q.num.natAbs.log2 + 1) := Nat.lt_log2_self
  have d1 := Nat.log2_self_le hd
  have d2 : q.den < 2 ^ (q.den.log2 + 1) := Nat.lt_log2_self
  have hq : |q| = (q.num.natAbs : Rat) / q.den := by
    conv_lhs => rw [← Rat.num_div_den q]
    rw [abs_div, Nat.abs_cast, Nat.cast_natAbs, Int.cast_abs]
  have n1' : ((2:Rat) ^ (q.num.natAbs.log2 : Int)) ≤ (q.num.natAbs : Rat) := by rw [zpow_natCast]; exact_mod_cast n1
  have n2' : (q.num.natAbs : Rat) < (2:Rat) ^ ((q.num.natAbs.log2 : Int) + 1) := by
    rw [show ((q.num.natAbs.log2 : Int) + 1) = ((q.num.natAbs.log2 + 1 : Nat) : Int) by push_cast; ring, zpow_natCast]; exact_mod_cast n2
  have d1' : ((2:Rat) ^ (q.den.log2 : Int)) ≤ (q.den : Rat) := by rw [zpow_natCast]; exact_mod_cast d1
  have d2' : (q.den : Rat) < (2:Rat) ^ ((q.den.log2 : Int) + 1) := by
    rw [show ((q.den.log2 : Int) + 1) = ((q.den.log2 + 1 : Nat) : Int) by push_cast; ring, zpow_natCast]; exact_mod_cast d2
  have dp : (0:Rat) < q.den := by exact_mod_cast Nat.pos_of_ne_zero hd
  have tp : ∀ k : Int, (0:Rat) < (2:Rat)^k := fun k => by positivity
  rw [pow2_zpow, pow2_zpow, hq]
  constructor
  · rw [lt_div_iff₀ dp]
    calc (2:Rat) ^ s * q.den < 2 ^ s * 2 ^ ((q.den.log2 : Int) + 1) := mul_lt_mul_of_pos_left d2' (tp s)
      _ = 2 ^ (q.num.natAbs.log2 : Int) := by rw [← zpow_add₀ (by norm_num)]; congr 1; simp only [s]; ring
      _ ≤ _ := n1'
  · rw [div_lt_iff₀ dp]
    calc (q.num.natAbs : Rat) < 2 ^ ((q.num.natAbs.log2 : Int) + 1) := n2'
      _ = 2 ^ (s + 2) * 2 ^ (q.den.log2 : Int) := by rw [← zpow_add₀ (by norm_num)]; congr 1; simp only [s]; ring
      _ ≤ _ := mul_le_mul_of_nonneg_left d1' (tp _).le

/-- The exponent that `expOf` names is the least at which a value other than 0 fits. -/
theorem expOf_least {q : Rat} (h : q ≠ 0) : fits (expOf q) q = true ∧ ∀ e, e < expOf q → fits e q = false := by
  obtain ⟨lo, hi⟩ := abs_bounds h
  set s : Int := (q.num.natAbs.log2 : Int) - (q.den.log2 : Int) - 1 with hs
  have big : fits (s + 3) q = true := by
    have h1 : s + 3 = s + 2 + 1 := by ring
    have h2 : pow2 (s + 2) = pow2 (s + 3 - 23) * 4194304 := by
      rw [show s + 2 = (s + 3 - 23) + 22 by ring, pow2_add]; congr 1
    have := abs_lt.mp hi
    have hp := pow2_pos (s + 3 - 23)
    rw [fits_iff]
    constructor <;> nlinarith
  have small : ∀ e, e < s → fits e q = false := by
    intro e he
    have key : fits (s - 1) q = false := by
      by_contra hc
      simp only [Bool.not_eq_false] at hc
      rw [fits_iff] at hc
      have h2 : pow2 s = pow2 (s - 1 - 23) * 16777216 := by
        rw [show s = (s - 1 - 23) + 24 by ring, pow2_add, show s - 1 - 23 + 24 - 1 - 23 = s - 1 - 23 by ring]; congr 1
      have hp := pow2_pos (s - 1 - 23)
      rcases lt_abs.mp lo with h3 | h3 <;> nlinarith
    by_contra hc
    simp only [Bool.not_eq_false] at hc
    rw [fits_mono (show e ≤ s - 1 by omega) hc] at key; cases key
  have h0 : expOf q = if fits s q then s else if fits (s + 1) q then s + 1 else if fits (s + 2) q then s + 2 else s + 3 := rfl
  have step : ∀ t : Int, fits t q = false → (∀ e, e < t → fits e q = false) → ∀ e, e < t + 1 → fits e q = false := by
    intro t h1 h2 e he
    rcases lt_or_eq_of_le (show e ≤ t by omega) with h | rfl
    · exact h2 e h
    · exact h1
  rw [h0]
  split
  · exact ⟨‹_›, small⟩
  split
  · exact ⟨‹_›, step s (by simpa using ‹¬ fits s q = true›) small⟩
  split
  · refine ⟨‹_›, ?_⟩
    have := step (s + 1) (by simpa using ‹¬ fits (s + 1) q = true›) (step s (by simpa using ‹¬ fits s q = true›) small)
    rwa [show s + 1 + 1 = s + 2 by ring] at this
  · refine ⟨big, ?_⟩
    have h3 := step (s + 1) (by simpa using ‹¬ fits (s + 1) q = true›) (step s (by simpa using ‹¬ fits s q = true›) small)
    rw [show s + 1 + 1 = s + 2 by ring] at h3
    have := step (s + 2) (by simpa using ‹¬ fits (s + 2) q = true›) h3
    rwa [show s + 2 + 1 = s + 3 by ring] at this

/-- What holds of an empty list and a start, and passes to one more element and its step, holds at the end of a fold. -/
theorem foldl_invariant {α β : Type} (P : List α → β → Prop) (f : β → α → β) (h : ∀ xs b x, P xs b → P (xs ++ [x]) (f b x)) :
    ∀ (ys xs : List α) (b : β), P xs b → P (xs ++ ys) (ys.foldl f b) := by
  intro ys
  induction ys with
  | nil => intro xs b hb; simpa using hb
  | cons y ys ih => intro xs b hb; simpa using ih (xs ++ [y]) (f b y) (h xs b y hb)

/-- What `expFor` answers: nothing where all values are 0, else the least exponent at which all of them fit. -/
theorem expFor_spec (qs : List Rat) :
    (expFor qs = none → ∀ q ∈ qs, q = 0) ∧
    ∀ e, expFor qs = some e → (∀ q ∈ qs, fits e q = true) ∧ ∃ q ∈ qs, fits (e - 1) q = false := by
  have zero : ∀ e : Int, fits e 0 = true := by
    intro e; rw [fits_iff]; have := pow2_pos (e - 23); constructor <;> nlinarith
  have key := foldl_invariant (fun (xs : List Rat) (acc : Option Int) => (acc = none → ∀ q ∈ xs, q = 0) ∧
      ∀ e, acc = some e → (∀ q ∈ xs, fits e q = true) ∧ ∃ q ∈ xs, fits (e - 1) q = false)
    (fun (acc : Option Int) q =>
    if q = 0 then acc
    else let e := expOf q
      match acc with
      | none => some e
      | some f => some (if f < e then e else f)) ?_ qs [] none (by simp)
  · rw [List.nil_append] at key; exact key
  · rintro xs acc q ⟨h1, h2⟩
    by_cases hq : q = 0
    · subst hq
      rw [if_pos rfl]
      refine ⟨fun h p hp => ?_, fun e he => ⟨fun p hp => ?_, ?_⟩⟩
      · rcases List.mem_append.mp hp with hp | hp
        · exact h1 h p hp
        · simpa using hp
      · rcases List.mem_append.mp hp with hp | hp
        · exact (h2 e he).1 p hp
        · rw [List.mem_singleton.mp hp]; exact zero e
      · obtain ⟨p, hp, hf⟩ := (h2 e he).2
        exact ⟨p, List.mem_append_left _ hp, hf⟩
    · obtain ⟨l1, l2⟩ := expOf_least hq
      rw [if_neg hq]
      cases acc with
      | none =>
        refine ⟨by simp, ?_⟩
        rintro e ⟨⟩
        refine ⟨fun p hp => ?_, q, by simp, l2 _ (by omega)⟩
        rcases List.mem_append.mp hp with hp | hp
        · rw [h1 rfl p hp]; exact zero _
        · rw [List.mem_singleton.mp hp]; exact l1
      | some f =>
        obtain ⟨g1, p0, hp0, g2⟩ := h2 f rfl
        refine ⟨by simp, ?_⟩
        rintro e ⟨⟩
        split
        · rename_i hlt
          refine ⟨fun p hp => ?_, q, by simp, l2 _ (by omega)⟩
          rcases List.mem_append.mp hp with hp | hp
          · exact fits_mono hlt.le (g1 p hp)
          · rw [List.mem_singleton.mp hp]; exact l1
        · rename_i hlt
          refine ⟨fun p hp => ?_, p0, List.mem_append_left _ hp0, g2⟩
          rcases List.mem_append.mp hp with hp | hp
          · exact g1 p hp
          · rw [List.mem_singleton.mp hp]; exact fits_mono (not_lt.mp hlt) l1
end Sys2Proof.Machine
end

