-- ==== Sys2Proof/Laws/CttHeader.lean ====
section
/-! SUPPORT. What the octets of a CTT header spell: each field is read back as it was written (R403). -/

namespace Sys2Proof

@[simp] theorem Machine.leBytes_length (n v : Nat) : (Machine.leBytes n v).length = n := by
  induction n generalizing v with
  | zero => rfl
  | succ n ih => simp [Machine.leBytes, ih]

theorem Machine.ofLe_leBytes (n v : Nat) : Machine.ofLe (Machine.leBytes n v) = v % 256 ^ n := by
  induction n generalizing v with
  | zero => simp [Machine.leBytes, Machine.ofLe, Nat.mod_one]
  | succ n ih =>
    simp only [Machine.leBytes, Machine.ofLe, ih]
    rw [pow_succ, mul_comm (256 ^ n) 256, Nat.mod_mul]
    simp

@[simp] theorem beBytes_length (n v : Nat) : (beBytes n v).length = n := by simp [beBytes]

theorem ofBe_beBytes (n v : Nat) : ofBe (beBytes n v) = v % 256 ^ n := by simp [ofBe, beBytes, Machine.ofLe_leBytes]

namespace Machine

/-- A field that stands behind `a` in the header is read back. -/
theorem field_of_header {f : CttFrame} (a b : Bytes) (n v : Nat) (h : f.header = a ++ (beBytes n v ++ b)) :
    f.field a.length n = v % 256 ^ n := by
  simp [CttFrame.field, h, ofBe_beBytes]

/-- The fields of a frame that the device forms. -/
theorem cttFrame_fields (h : CttHeader) (p : Bytes) :
    let f := cttFrame h p
    f.ethertype = 0x88B5 ∧ f.version = 0x0102 ∧ f.kind = BitVec.ofNat 8 h.kind ∧ f.flags = BitVec.ofNat 8 h.chan.val ∧
      f.slot = BitVec.ofNat 16 h.slot ∧ f.cycle = BitVec.ofNat 8 h.cycle ∧ f.rank = BitVec.ofNat 8 h.rank ∧
      f.scheduleId = BitVec.ofNat 32 h.scheduleId ∧ f.length = BitVec.ofNat 16 p.length ∧ f.source = h.source % 256 ^ 6 ∧
      f.destination = (0x0B005A000000 + h.chan.val) % 256 ^ 6 := by
  have h0 := field_of_header (f := cttFrame h p)
    ([] : Bytes)
    (beBytes 6 h.source ++ beBytes 2 0x88B5 ++ beBytes 2 0x0102 ++ beBytes 1 h.kind ++ beBytes 1 h.chan.val ++ beBytes 2 h.slot ++ beBytes 1 h.cycle ++ beBytes 1 h.rank ++ beBytes 4 h.scheduleId ++ beBytes 2 p.length : Bytes)
    6 (0x0B005A000000 + h.chan.val) (by simp [cttFrame, CttHeader.octets])
  have h1 := field_of_header (f := cttFrame h p)
    (beBytes 6 (0x0B005A000000 + h.chan.val) : Bytes)
    (beBytes 2 0x88B5 ++ beBytes 2 0x0102 ++ beBytes 1 h.kind ++ beBytes 1 h.chan.val ++ beBytes 2 h.slot ++ beBytes 1 h.cycle ++ beBytes 1 h.rank ++ beBytes 4 h.scheduleId ++ beBytes 2 p.length : Bytes)
    6 h.source (by simp [cttFrame, CttHeader.octets])
  have h2 := field_of_header (f := cttFrame h p)
    (beBytes 6 (0x0B005A000000 + h.chan.val) ++ beBytes 6 h.source : Bytes)
    (beBytes 2 0x0102 ++ beBytes 1 h.kind ++ beBytes 1 h.chan.val ++ beBytes 2 h.slot ++ beBytes 1 h.cycle ++ beBytes 1 h.rank ++ beBytes 4 h.scheduleId ++ beBytes 2 p.length : Bytes)
    2 0x88B5 (by simp [cttFrame, CttHeader.octets])
  have h3 := field_of_header (f := cttFrame h p)
    (beBytes 6 (0x0B005A000000 + h.chan.val) ++ beBytes 6 h.source ++ beBytes 2 0x88B5 : Bytes)
    (beBytes 1 h.kind ++ beBytes 1 h.chan.val ++ beBytes 2 h.slot ++ beBytes 1 h.cycle ++ beBytes 1 h.rank ++ beBytes 4 h.scheduleId ++ beBytes 2 p.length : Bytes)
    2 0x0102 (by simp [cttFrame, CttHeader.octets])
  have h4 := field_of_header (f := cttFrame h p)
    (beBytes 6 (0x0B005A000000 + h.chan.val) ++ beBytes 6 h.source ++ beBytes 2 0x88B5 ++ beBytes 2 0x0102 : Bytes)
    (beBytes 1 h.chan.val ++ beBytes 2 h.slot ++ beBytes 1 h.cycle ++ beBytes 1 h.rank ++ beBytes 4 h.scheduleId ++ beBytes 2 p.length : Bytes)
    1 h.kind (by simp [cttFrame, CttHeader.octets])
  have h5 := field_of_header (f := cttFrame h p)
    (beBytes 6 (0x0B005A000000 + h.chan.val) ++ beBytes 6 h.source ++ beBytes 2 0x88B5 ++ beBytes 2 0x0102 ++ beBytes 1 h.kind : Bytes)
    (beBytes 2 h.slot ++ beBytes 1 h.cycle ++ beBytes 1 h.rank ++ beBytes 4 h.scheduleId ++ beBytes 2 p.length : Bytes)
    1 h.chan.val (by simp [cttFrame, CttHeader.octets])
  have h6 := field_of_header (f := cttFrame h p)
    (beBytes 6 (0x0B005A000000 + h.chan.val) ++ beBytes 6 h.source ++ beBytes 2 0x88B5 ++ beBytes 2 0x0102 ++ beBytes 1 h.kind ++ beBytes 1 h.chan.val : Bytes)
    (beBytes 1 h.cycle ++ beBytes 1 h.rank ++ beBytes 4 h.scheduleId ++ beBytes 2 p.length : Bytes)
    2 h.slot (by simp [cttFrame, CttHeader.octets])
  have h7 := field_of_header (f := cttFrame h p)
    (beBytes 6 (0x0B005A000000 + h.chan.val) ++ beBytes 6 h.source ++ beBytes 2 0x88B5 ++ beBytes 2 0x0102 ++ beBytes 1 h.kind ++ beBytes 1 h.chan.val ++ beBytes 2 h.slot : Bytes)
    (beBytes 1 h.rank ++ beBytes 4 h.scheduleId ++ beBytes 2 p.length : Bytes)
    1 h.cycle (by simp [cttFrame, CttHeader.octets])
  have h8 := field_of_header (f := cttFrame h p)
    (beBytes 6 (0x0B005A000000 + h.chan.val) ++ beBytes 6 h.source ++ beBytes 2 0x88B5 ++ beBytes 2 0x0102 ++ beBytes 1 h.kind ++ beBytes 1 h.chan.val ++ beBytes 2 h.slot ++ beBytes 1 h.cycle : Bytes)
    (beBytes 4 h.scheduleId ++ beBytes 2 p.length : Bytes)
    1 h.rank (by simp [cttFrame, CttHeader.octets])
  have h9 := field_of_header (f := cttFrame h p)
    (beBytes 6 (0x0B005A000000 + h.chan.val) ++ beBytes 6 h.source ++ beBytes 2 0x88B5 ++ beBytes 2 0x0102 ++ beBytes 1 h.kind ++ beBytes 1 h.chan.val ++ beBytes 2 h.slot ++ beBytes 1 h.cycle ++ beBytes 1 h.rank : Bytes)
    (beBytes 2 p.length : Bytes)
    4 h.scheduleId (by simp [cttFrame, CttHeader.octets])
  have h10 := field_of_header (f := cttFrame h p)
    (beBytes 6 (0x0B005A000000 + h.chan.val) ++ beBytes 6 h.source ++ beBytes 2 0x88B5 ++ beBytes 2 0x0102 ++ beBytes 1 h.kind ++ beBytes 1 h.chan.val ++ beBytes 2 h.slot ++ beBytes 1 h.cycle ++ beBytes 1 h.rank ++ beBytes 4 h.scheduleId : Bytes)
    ([] : Bytes)
    2 p.length (by simp [cttFrame, CttHeader.octets])
  simp only [List.length_nil, List.length_append, beBytes_length] at h0 h1 h2 h3 h4 h5 h6 h7 h8 h9 h10
  have cut (w n v : Nat) (e : 256 ^ n = 2 ^ w) : BitVec.ofNat w (v % 256 ^ n) = BitVec.ofNat w v := by
    apply BitVec.eq_of_toNat_eq; simp [e]
  refine ⟨?_, ?_, ?_, ?_, ?_, ?_, ?_, ?_, ?_, h1, h0⟩
  · exact (congrArg (BitVec.ofNat 16) h2).trans (cut 16 2 _ (by norm_num))
  · exact (congrArg (BitVec.ofNat 16) h3).trans (cut 16 2 _ (by norm_num))
  · exact (congrArg (BitVec.ofNat 8) h4).trans (cut 8 1 _ (by norm_num))
  · exact (congrArg (BitVec.ofNat 8) h5).trans (cut 8 1 _ (by norm_num))
  · exact (congrArg (BitVec.ofNat 16) h6).trans (cut 16 2 _ (by norm_num))
  · exact (congrArg (BitVec.ofNat 8) h7).trans (cut 8 1 _ (by norm_num))
  · exact (congrArg (BitVec.ofNat 8) h8).trans (cut 8 1 _ (by norm_num))
  · exact (congrArg (BitVec.ofNat 32) h9).trans (cut 32 4 _ (by norm_num))
  · exact (congrArg (BitVec.ofNat 16) h10).trans (cut 16 2 _ (by norm_num))

end Machine

end Sys2Proof
end

