-- ==== Sys2Proof/Laws/State.lean ====
section
/-! SUPPORT. One lemma for each field of a lane under each plain update of it, true by unfolding: no later proof unfolds a record
update. -/

namespace Sys2Proof.Machine

@[simp] theorem Lane.onAxis_idx (l : Lane) (nn : AxisId) (f : Axis → Axis) : (l.onAxis nn f).idx = l.idx := rfl
@[simp] theorem Lane.onAxis_sys (l : Lane) (nn : AxisId) (f : Axis → Axis) : (l.onAxis nn f).sys = l.sys := rfl
@[simp] theorem Lane.onAxis_hp (l : Lane) (nn : AxisId) (f : Axis → Axis) : (l.onAxis nn f).hp = l.hp := rfl
@[simp] theorem Lane.onAxis_ses (l : Lane) (nn : AxisId) (f : Axis → Axis) : (l.onAxis nn f).ses = l.ses := rfl
@[simp] theorem Lane.onAxis_fl (l : Lane) (nn : AxisId) (f : Axis → Axis) : (l.onAxis nn f).fl = l.fl := rfl
@[simp] theorem Lane.onAxis_tm (l : Lane) (nn : AxisId) (f : Axis → Axis) : (l.onAxis nn f).tm = l.tm := rfl
@[simp] theorem Lane.onAxis_dls (l : Lane) (nn : AxisId) (f : Axis → Axis) : (l.onAxis nn f).dls = l.dls := rfl
@[simp] theorem Lane.onAxis_cus (l : Lane) (nn : AxisId) (f : Axis → Axis) : (l.onAxis nn f).cus = l.cus := rfl
@[simp] theorem Lane.onAxis_dsp (l : Lane) (nn : AxisId) (f : Axis → Axis) : (l.onAxis nn f).dsp = l.dsp := rfl
@[simp] theorem Lane.onAxis_aux (l : Lane) (nn : AxisId) (f : Axis → Axis) : (l.onAxis nn f).aux = l.aux := rfl
@[simp] theorem Lane.onAxis_emu (l : Lane) (nn : AxisId) (f : Axis → Axis) : (l.onAxis nn f).emu = l.emu := rfl
@[simp] theorem Lane.onAxis_afe (l : Lane) (nn : AxisId) (f : Axis → Axis) : (l.onAxis nn f).afe = l.afe := rfl
@[simp] theorem Lane.onAxis_gd (l : Lane) (nn : AxisId) (f : Axis → Axis) : (l.onAxis nn f).gd = l.gd := rfl
@[simp] theorem Lane.onAxis_fc (l : Lane) (nn : AxisId) (f : Axis → Axis) : (l.onAxis nn f).fc = l.fc := rfl
@[simp] theorem Lane.onAxis_lk (l : Lane) (nn : AxisId) (f : Axis → Axis) : (l.onAxis nn f).lk = l.lk := rfl
@[simp] theorem Lane.onAxis_tst (l : Lane) (nn : AxisId) (f : Axis → Axis) : (l.onAxis nn f).tst = l.tst := rfl
@[simp] theorem Lane.onAxis_links (l : Lane) (nn : AxisId) (f : Axis → Axis) : (l.onAxis nn f).links = l.links := rfl
@[simp] theorem Lane.onAxis_net (l : Lane) (nn : AxisId) (f : Axis → Axis) : (l.onAxis nn f).net = l.net := rfl
@[simp] theorem Lane.onAxis_eps (l : Lane) (nn : AxisId) (f : Axis → Axis) : (l.onAxis nn f).eps = l.eps := rfl
@[simp] theorem Lane.onAxis_inp (l : Lane) (nn : AxisId) (f : Axis → Axis) : (l.onAxis nn f).inp = l.inp := rfl
@[simp] theorem Lane.onAxis_str (l : Lane) (nn : AxisId) (f : Axis → Axis) : (l.onAxis nn f).str = l.str := rfl
@[simp] theorem Lane.onAxis_mem (l : Lane) (nn : AxisId) (f : Axis → Axis) : (l.onAxis nn f).mem = l.mem := rfl
@[simp] theorem Lane.onAxis_alm (l : Lane) (nn : AxisId) (f : Axis → Axis) : (l.onAxis nn f).alm = l.alm := rfl
@[simp] theorem Lane.onAxis_tap (l : Lane) (nn : AxisId) (f : Axis → Axis) : (l.onAxis nn f).tap = l.tap := rfl
@[simp] theorem Lane.onAxis_free (l : Lane) (nn : AxisId) (f : Axis → Axis) : (l.onAxis nn f).free = l.free := rfl

@[simp] theorem Lane.onSlot_idx (l : Lane) (k : Fin 64) (f : Slot → Slot) : (l.onSlot k f).idx = l.idx := rfl
@[simp] theorem Lane.onSlot_sys (l : Lane) (k : Fin 64) (f : Slot → Slot) : (l.onSlot k f).sys = l.sys := rfl
@[simp] theorem Lane.onSlot_hp (l : Lane) (k : Fin 64) (f : Slot → Slot) : (l.onSlot k f).hp = l.hp := rfl
@[simp] theorem Lane.onSlot_ses (l : Lane) (k : Fin 64) (f : Slot → Slot) : (l.onSlot k f).ses = l.ses := rfl
@[simp] theorem Lane.onSlot_fl (l : Lane) (k : Fin 64) (f : Slot → Slot) : (l.onSlot k f).fl = l.fl := rfl
@[simp] theorem Lane.onSlot_tm (l : Lane) (k : Fin 64) (f : Slot → Slot) : (l.onSlot k f).tm = l.tm := rfl
@[simp] theorem Lane.onSlot_dls (l : Lane) (k : Fin 64) (f : Slot → Slot) : (l.onSlot k f).dls = l.dls := rfl
@[simp] theorem Lane.onSlot_cus (l : Lane) (k : Fin 64) (f : Slot → Slot) : (l.onSlot k f).cus = l.cus := rfl
@[simp] theorem Lane.onSlot_ax (l : Lane) (k : Fin 64) (f : Slot → Slot) : (l.onSlot k f).ax = l.ax := rfl
@[simp] theorem Lane.onSlot_aux (l : Lane) (k : Fin 64) (f : Slot → Slot) : (l.onSlot k f).aux = l.aux := rfl
@[simp] theorem Lane.onSlot_emu (l : Lane) (k : Fin 64) (f : Slot → Slot) : (l.onSlot k f).emu = l.emu := rfl
@[simp] theorem Lane.onSlot_afe (l : Lane) (k : Fin 64) (f : Slot → Slot) : (l.onSlot k f).afe = l.afe := rfl
@[simp] theorem Lane.onSlot_gd (l : Lane) (k : Fin 64) (f : Slot → Slot) : (l.onSlot k f).gd = l.gd := rfl
@[simp] theorem Lane.onSlot_fc (l : Lane) (k : Fin 64) (f : Slot → Slot) : (l.onSlot k f).fc = l.fc := rfl
@[simp] theorem Lane.onSlot_lk (l : Lane) (k : Fin 64) (f : Slot → Slot) : (l.onSlot k f).lk = l.lk := rfl
@[simp] theorem Lane.onSlot_tst (l : Lane) (k : Fin 64) (f : Slot → Slot) : (l.onSlot k f).tst = l.tst := rfl
@[simp] theorem Lane.onSlot_links (l : Lane) (k : Fin 64) (f : Slot → Slot) : (l.onSlot k f).links = l.links := rfl
@[simp] theorem Lane.onSlot_net (l : Lane) (k : Fin 64) (f : Slot → Slot) : (l.onSlot k f).net = l.net := rfl
@[simp] theorem Lane.onSlot_eps (l : Lane) (k : Fin 64) (f : Slot → Slot) : (l.onSlot k f).eps = l.eps := rfl
@[simp] theorem Lane.onSlot_inp (l : Lane) (k : Fin 64) (f : Slot → Slot) : (l.onSlot k f).inp = l.inp := rfl
@[simp] theorem Lane.onSlot_str (l : Lane) (k : Fin 64) (f : Slot → Slot) : (l.onSlot k f).str = l.str := rfl
@[simp] theorem Lane.onSlot_mem (l : Lane) (k : Fin 64) (f : Slot → Slot) : (l.onSlot k f).mem = l.mem := rfl
@[simp] theorem Lane.onSlot_alm (l : Lane) (k : Fin 64) (f : Slot → Slot) : (l.onSlot k f).alm = l.alm := rfl
@[simp] theorem Lane.onSlot_tap (l : Lane) (k : Fin 64) (f : Slot → Slot) : (l.onSlot k f).tap = l.tap := rfl
@[simp] theorem Lane.onSlot_free (l : Lane) (k : Fin 64) (f : Slot → Slot) : (l.onSlot k f).free = l.free := rfl

@[simp] theorem Lane.onMb_idx (l : Lane) (m : MbId) (f : Mailbox → Mailbox) : (l.onMb m f).idx = l.idx := rfl
@[simp] theorem Lane.onMb_sys (l : Lane) (m : MbId) (f : Mailbox → Mailbox) : (l.onMb m f).sys = l.sys := rfl
@[simp] theorem Lane.onMb_ses (l : Lane) (m : MbId) (f : Mailbox → Mailbox) : (l.onMb m f).ses = l.ses := rfl
@[simp] theorem Lane.onMb_fl (l : Lane) (m : MbId) (f : Mailbox → Mailbox) : (l.onMb m f).fl = l.fl := rfl
@[simp] theorem Lane.onMb_tm (l : Lane) (m : MbId) (f : Mailbox → Mailbox) : (l.onMb m f).tm = l.tm := rfl
@[simp] theorem Lane.onMb_dls (l : Lane) (m : MbId) (f : Mailbox → Mailbox) : (l.onMb m f).dls = l.dls := rfl
@[simp] theorem Lane.onMb_cus (l : Lane) (m : MbId) (f : Mailbox → Mailbox) : (l.onMb m f).cus = l.cus := rfl
@[simp] theorem Lane.onMb_dsp (l : Lane) (m : MbId) (f : Mailbox → Mailbox) : (l.onMb m f).dsp = l.dsp := rfl
@[simp] theorem Lane.onMb_ax (l : Lane) (m : MbId) (f : Mailbox → Mailbox) : (l.onMb m f).ax = l.ax := rfl
@[simp] theorem Lane.onMb_aux (l : Lane) (m : MbId) (f : Mailbox → Mailbox) : (l.onMb m f).aux = l.aux := rfl
@[simp] theorem Lane.onMb_emu (l : Lane) (m : MbId) (f : Mailbox → Mailbox) : (l.onMb m f).emu = l.emu := rfl
@[simp] theorem Lane.onMb_afe (l : Lane) (m : MbId) (f : Mailbox → Mailbox) : (l.onMb m f).afe = l.afe := rfl
@[simp] theorem Lane.onMb_gd (l : Lane) (m : MbId) (f : Mailbox → Mailbox) : (l.onMb m f).gd = l.gd := rfl
@[simp] theorem Lane.onMb_fc (l : Lane) (m : MbId) (f : Mailbox → Mailbox) : (l.onMb m f).fc = l.fc := rfl
@[simp] theorem Lane.onMb_lk (l : Lane) (m : MbId) (f : Mailbox → Mailbox) : (l.onMb m f).lk = l.lk := rfl
@[simp] theorem Lane.onMb_tst (l : Lane) (m : MbId) (f : Mailbox → Mailbox) : (l.onMb m f).tst = l.tst := rfl
@[simp] theorem Lane.onMb_links (l : Lane) (m : MbId) (f : Mailbox → Mailbox) : (l.onMb m f).links = l.links := rfl
@[simp] theorem Lane.onMb_net (l : Lane) (m : MbId) (f : Mailbox → Mailbox) : (l.onMb m f).net = l.net := rfl
@[simp] theorem Lane.onMb_eps (l : Lane) (m : MbId) (f : Mailbox → Mailbox) : (l.onMb m f).eps = l.eps := rfl
@[simp] theorem Lane.onMb_inp (l : Lane) (m : MbId) (f : Mailbox → Mailbox) : (l.onMb m f).inp = l.inp := rfl
@[simp] theorem Lane.onMb_str (l : Lane) (m : MbId) (f : Mailbox → Mailbox) : (l.onMb m f).str = l.str := rfl
@[simp] theorem Lane.onMb_mem (l : Lane) (m : MbId) (f : Mailbox → Mailbox) : (l.onMb m f).mem = l.mem := rfl
@[simp] theorem Lane.onMb_alm (l : Lane) (m : MbId) (f : Mailbox → Mailbox) : (l.onMb m f).alm = l.alm := rfl
@[simp] theorem Lane.onMb_tap (l : Lane) (m : MbId) (f : Mailbox → Mailbox) : (l.onMb m f).tap = l.tap := rfl
@[simp] theorem Lane.onMb_free (l : Lane) (m : MbId) (f : Mailbox → Mailbox) : (l.onMb m f).free = l.free := rfl

@[simp] theorem Lane.onLink_idx (l : Lane) (k : LaneId) (f : Link → Link) : (l.onLink k f).idx = l.idx := rfl
@[simp] theorem Lane.onLink_sys (l : Lane) (k : LaneId) (f : Link → Link) : (l.onLink k f).sys = l.sys := rfl
@[simp] theorem Lane.onLink_hp (l : Lane) (k : LaneId) (f : Link → Link) : (l.onLink k f).hp = l.hp := rfl
@[simp] theorem Lane.onLink_ses (l : Lane) (k : LaneId) (f : Link → Link) : (l.onLink k f).ses = l.ses := rfl
@[simp] theorem Lane.onLink_fl (l : Lane) (k : LaneId) (f : Link → Link) : (l.onLink k f).fl = l.fl := rfl
@[simp] theorem Lane.onLink_tm (l : Lane) (k : LaneId) (f : Link → Link) : (l.onLink k f).tm = l.tm := rfl
@[simp] theorem Lane.onLink_dls (l : Lane) (k : LaneId) (f : Link → Link) : (l.onLink k f).dls = l.dls := rfl
@[simp] theorem Lane.onLink_cus (l : Lane) (k : LaneId) (f : Link → Link) : (l.onLink k f).cus = l.cus := rfl
@[simp] theorem Lane.onLink_dsp (l : Lane) (k : LaneId) (f : Link → Link) : (l.onLink k f).dsp = l.dsp := rfl
@[simp] theorem Lane.onLink_ax (l : Lane) (k : LaneId) (f : Link → Link) : (l.onLink k f).ax = l.ax := rfl
@[simp] theorem Lane.onLink_aux (l : Lane) (k : LaneId) (f : Link → Link) : (l.onLink k f).aux = l.aux := rfl
@[simp] theorem Lane.onLink_emu (l : Lane) (k : LaneId) (f : Link → Link) : (l.onLink k f).emu = l.emu := rfl
@[simp] theorem Lane.onLink_afe (l : Lane) (k : LaneId) (f : Link → Link) : (l.onLink k f).afe = l.afe := rfl
@[simp] theorem Lane.onLink_gd (l : Lane) (k : LaneId) (f : Link → Link) : (l.onLink k f).gd = l.gd := rfl
@[simp] theorem Lane.onLink_fc (l : Lane) (k : LaneId) (f : Link → Link) : (l.onLink k f).fc = l.fc := rfl
@[simp] theorem Lane.onLink_lk (l : Lane) (k : LaneId) (f : Link → Link) : (l.onLink k f).lk = l.lk := rfl
@[simp] theorem Lane.onLink_tst (l : Lane) (k : LaneId) (f : Link → Link) : (l.onLink k f).tst = l.tst := rfl
@[simp] theorem Lane.onLink_net (l : Lane) (k : LaneId) (f : Link → Link) : (l.onLink k f).net = l.net := rfl
@[simp] theorem Lane.onLink_eps (l : Lane) (k : LaneId) (f : Link → Link) : (l.onLink k f).eps = l.eps := rfl
@[simp] theorem Lane.onLink_inp (l : Lane) (k : LaneId) (f : Link → Link) : (l.onLink k f).inp = l.inp := rfl
@[simp] theorem Lane.onLink_str (l : Lane) (k : LaneId) (f : Link → Link) : (l.onLink k f).str = l.str := rfl
@[simp] theorem Lane.onLink_mem (l : Lane) (k : LaneId) (f : Link → Link) : (l.onLink k f).mem = l.mem := rfl
@[simp] theorem Lane.onLink_alm (l : Lane) (k : LaneId) (f : Link → Link) : (l.onLink k f).alm = l.alm := rfl
@[simp] theorem Lane.onLink_tap (l : Lane) (k : LaneId) (f : Link → Link) : (l.onLink k f).tap = l.tap := rfl
@[simp] theorem Lane.onLink_free (l : Lane) (k : LaneId) (f : Link → Link) : (l.onLink k f).free = l.free := rfl

@[simp] theorem Lane.onChan_idx (l : Lane) (g : GreenId) (f : Channel → Channel) : (l.onChan g f).idx = l.idx := rfl
@[simp] theorem Lane.onChan_sys (l : Lane) (g : GreenId) (f : Channel → Channel) : (l.onChan g f).sys = l.sys := rfl
@[simp] theorem Lane.onChan_hp (l : Lane) (g : GreenId) (f : Channel → Channel) : (l.onChan g f).hp = l.hp := rfl
@[simp] theorem Lane.onChan_ses (l : Lane) (g : GreenId) (f : Channel → Channel) : (l.onChan g f).ses = l.ses := rfl
@[simp] theorem Lane.onChan_fl (l : Lane) (g : GreenId) (f : Channel → Channel) : (l.onChan g f).fl = l.fl := rfl
@[simp] theorem Lane.onChan_tm (l : Lane) (g : GreenId) (f : Channel → Channel) : (l.onChan g f).tm = l.tm := rfl
@[simp] theorem Lane.onChan_dls (l : Lane) (g : GreenId) (f : Channel → Channel) : (l.onChan g f).dls = l.dls := rfl
@[simp] theorem Lane.onChan_cus (l : Lane) (g : GreenId) (f : Channel → Channel) : (l.onChan g f).cus = l.cus := rfl
@[simp] theorem Lane.onChan_dsp (l : Lane) (g : GreenId) (f : Channel → Channel) : (l.onChan g f).dsp = l.dsp := rfl
@[simp] theorem Lane.onChan_ax (l : Lane) (g : GreenId) (f : Channel → Channel) : (l.onChan g f).ax = l.ax := rfl
@[simp] theorem Lane.onChan_aux (l : Lane) (g : GreenId) (f : Channel → Channel) : (l.onChan g f).aux = l.aux := rfl
@[simp] theorem Lane.onChan_emu (l : Lane) (g : GreenId) (f : Channel → Channel) : (l.onChan g f).emu = l.emu := rfl
@[simp] theorem Lane.onChan_afe (l : Lane) (g : GreenId) (f : Channel → Channel) : (l.onChan g f).afe = l.afe := rfl
@[simp] theorem Lane.onChan_gd (l : Lane) (g : GreenId) (f : Channel → Channel) : (l.onChan g f).gd = l.gd := rfl
@[simp] theorem Lane.onChan_fc (l : Lane) (g : GreenId) (f : Channel → Channel) : (l.onChan g f).fc = l.fc := rfl
@[simp] theorem Lane.onChan_lk (l : Lane) (g : GreenId) (f : Channel → Channel) : (l.onChan g f).lk = l.lk := rfl
@[simp] theorem Lane.onChan_tst (l : Lane) (g : GreenId) (f : Channel → Channel) : (l.onChan g f).tst = l.tst := rfl
@[simp] theorem Lane.onChan_links (l : Lane) (g : GreenId) (f : Channel → Channel) : (l.onChan g f).links = l.links := rfl
@[simp] theorem Lane.onChan_eps (l : Lane) (g : GreenId) (f : Channel → Channel) : (l.onChan g f).eps = l.eps := rfl
@[simp] theorem Lane.onChan_inp (l : Lane) (g : GreenId) (f : Channel → Channel) : (l.onChan g f).inp = l.inp := rfl
@[simp] theorem Lane.onChan_str (l : Lane) (g : GreenId) (f : Channel → Channel) : (l.onChan g f).str = l.str := rfl
@[simp] theorem Lane.onChan_mem (l : Lane) (g : GreenId) (f : Channel → Channel) : (l.onChan g f).mem = l.mem := rfl
@[simp] theorem Lane.onChan_alm (l : Lane) (g : GreenId) (f : Channel → Channel) : (l.onChan g f).alm = l.alm := rfl
@[simp] theorem Lane.onChan_tap (l : Lane) (g : GreenId) (f : Channel → Channel) : (l.onChan g f).tap = l.tap := rfl
@[simp] theorem Lane.onChan_free (l : Lane) (g : GreenId) (f : Channel → Channel) : (l.onChan g f).free = l.free := rfl

@[simp] theorem Lane.onEp_idx (l : Lane) (e : Fin 512) (f : Endpoint → Endpoint) : (l.onEp e f).idx = l.idx := rfl
@[simp] theorem Lane.onEp_sys (l : Lane) (e : Fin 512) (f : Endpoint → Endpoint) : (l.onEp e f).sys = l.sys := rfl
@[simp] theorem Lane.onEp_hp (l : Lane) (e : Fin 512) (f : Endpoint → Endpoint) : (l.onEp e f).hp = l.hp := rfl
@[simp] theorem Lane.onEp_ses (l : Lane) (e : Fin 512) (f : Endpoint → Endpoint) : (l.onEp e f).ses = l.ses := rfl
@[simp] theorem Lane.onEp_fl (l : Lane) (e : Fin 512) (f : Endpoint → Endpoint) : (l.onEp e f).fl = l.fl := rfl
@[simp] theorem Lane.onEp_tm (l : Lane) (e : Fin 512) (f : Endpoint → Endpoint) : (l.onEp e f).tm = l.tm := rfl
@[simp] theorem Lane.onEp_dls (l : Lane) (e : Fin 512) (f : Endpoint → Endpoint) : (l.onEp e f).dls = l.dls := rfl
@[simp] theorem Lane.onEp_cus (l : Lane) (e : Fin 512) (f : Endpoint → Endpoint) : (l.onEp e f).cus = l.cus := rfl
@[simp] theorem Lane.onEp_dsp (l : Lane) (e : Fin 512) (f : Endpoint → Endpoint) : (l.onEp e f).dsp = l.dsp := rfl
@[simp] theorem Lane.onEp_ax (l : Lane) (e : Fin 512) (f : Endpoint → Endpoint) : (l.onEp e f).ax = l.ax := rfl
@[simp] theorem Lane.onEp_aux (l : Lane) (e : Fin 512) (f : Endpoint → Endpoint) : (l.onEp e f).aux = l.aux := rfl
@[simp] theorem Lane.onEp_emu (l : Lane) (e : Fin 512) (f : Endpoint → Endpoint) : (l.onEp e f).emu = l.emu := rfl
@[simp] theorem Lane.onEp_afe (l : Lane) (e : Fin 512) (f : Endpoint → Endpoint) : (l.onEp e f).afe = l.afe := rfl
@[simp] theorem Lane.onEp_gd (l : Lane) (e : Fin 512) (f : Endpoint → Endpoint) : (l.onEp e f).gd = l.gd := rfl
@[simp] theorem Lane.onEp_fc (l : Lane) (e : Fin 512) (f : Endpoint → Endpoint) : (l.onEp e f).fc = l.fc := rfl
@[simp] theorem Lane.onEp_lk (l : Lane) (e : Fin 512) (f : Endpoint → Endpoint) : (l.onEp e f).lk = l.lk := rfl
@[simp] theorem Lane.onEp_tst (l : Lane) (e : Fin 512) (f : Endpoint → Endpoint) : (l.onEp e f).tst = l.tst := rfl
@[simp] theorem Lane.onEp_links (l : Lane) (e : Fin 512) (f : Endpoint → Endpoint) : (l.onEp e f).links = l.links := rfl
@[simp] theorem Lane.onEp_net (l : Lane) (e : Fin 512) (f : Endpoint → Endpoint) : (l.onEp e f).net = l.net := rfl
@[simp] theorem Lane.onEp_inp (l : Lane) (e : Fin 512) (f : Endpoint → Endpoint) : (l.onEp e f).inp = l.inp := rfl
@[simp] theorem Lane.onEp_str (l : Lane) (e : Fin 512) (f : Endpoint → Endpoint) : (l.onEp e f).str = l.str := rfl
@[simp] theorem Lane.onEp_mem (l : Lane) (e : Fin 512) (f : Endpoint → Endpoint) : (l.onEp e f).mem = l.mem := rfl
@[simp] theorem Lane.onEp_alm (l : Lane) (e : Fin 512) (f : Endpoint → Endpoint) : (l.onEp e f).alm = l.alm := rfl
@[simp] theorem Lane.onEp_tap (l : Lane) (e : Fin 512) (f : Endpoint → Endpoint) : (l.onEp e f).tap = l.tap := rfl
@[simp] theorem Lane.onEp_free (l : Lane) (e : Fin 512) (f : Endpoint → Endpoint) : (l.onEp e f).free = l.free := rfl

@[simp] theorem Lane.onStream_idx (l : Lane) (c : Fin 16) (f : StreamCh → StreamCh) : (l.onStream c f).idx = l.idx := rfl
@[simp] theorem Lane.onStream_sys (l : Lane) (c : Fin 16) (f : StreamCh → StreamCh) : (l.onStream c f).sys = l.sys := rfl
@[simp] theorem Lane.onStream_hp (l : Lane) (c : Fin 16) (f : StreamCh → StreamCh) : (l.onStream c f).hp = l.hp := rfl
@[simp] theorem Lane.onStream_ses (l : Lane) (c : Fin 16) (f : StreamCh → StreamCh) : (l.onStream c f).ses = l.ses := rfl
@[simp] theorem Lane.onStream_fl (l : Lane) (c : Fin 16) (f : StreamCh → StreamCh) : (l.onStream c f).fl = l.fl := rfl
@[simp] theorem Lane.onStream_tm (l : Lane) (c : Fin 16) (f : StreamCh → StreamCh) : (l.onStream c f).tm = l.tm := rfl
@[simp] theorem Lane.onStream_dls (l : Lane) (c : Fin 16) (f : StreamCh → StreamCh) : (l.onStream c f).dls = l.dls := rfl
@[simp] theorem Lane.onStream_cus (l : Lane) (c : Fin 16) (f : StreamCh → StreamCh) : (l.onStream c f).cus = l.cus := rfl
@[simp] theorem Lane.onStream_dsp (l : Lane) (c : Fin 16) (f : StreamCh → StreamCh) : (l.onStream c f).dsp = l.dsp := rfl
@[simp] theorem Lane.onStream_ax (l : Lane) (c : Fin 16) (f : StreamCh → StreamCh) : (l.onStream c f).ax = l.ax := rfl
@[simp] theorem Lane.onStream_aux (l : Lane) (c : Fin 16) (f : StreamCh → StreamCh) : (l.onStream c f).aux = l.aux := rfl
@[simp] theorem Lane.onStream_emu (l : Lane) (c : Fin 16) (f : StreamCh → StreamCh) : (l.onStream c f).emu = l.emu := rfl
@[simp] theorem Lane.onStream_afe (l : Lane) (c : Fin 16) (f : StreamCh → StreamCh) : (l.onStream c f).afe = l.afe := rfl
@[simp] theorem Lane.onStream_gd (l : Lane) (c : Fin 16) (f : StreamCh → StreamCh) : (l.onStream c f).gd = l.gd := rfl
@[simp] theorem Lane.onStream_fc (l : Lane) (c : Fin 16) (f : StreamCh → StreamCh) : (l.onStream c f).fc = l.fc := rfl
@[simp] theorem Lane.onStream_lk (l : Lane) (c : Fin 16) (f : StreamCh → StreamCh) : (l.onStream c f).lk = l.lk := rfl
@[simp] theorem Lane.onStream_tst (l : Lane) (c : Fin 16) (f : StreamCh → StreamCh) : (l.onStream c f).tst = l.tst := rfl
@[simp] theorem Lane.onStream_links (l : Lane) (c : Fin 16) (f : StreamCh → StreamCh) : (l.onStream c f).links = l.links := rfl
@[simp] theorem Lane.onStream_net (l : Lane) (c : Fin 16) (f : StreamCh → StreamCh) : (l.onStream c f).net = l.net := rfl
@[simp] theorem Lane.onStream_eps (l : Lane) (c : Fin 16) (f : StreamCh → StreamCh) : (l.onStream c f).eps = l.eps := rfl
@[simp] theorem Lane.onStream_inp (l : Lane) (c : Fin 16) (f : StreamCh → StreamCh) : (l.onStream c f).inp = l.inp := rfl
@[simp] theorem Lane.onStream_mem (l : Lane) (c : Fin 16) (f : StreamCh → StreamCh) : (l.onStream c f).mem = l.mem := rfl
@[simp] theorem Lane.onStream_alm (l : Lane) (c : Fin 16) (f : StreamCh → StreamCh) : (l.onStream c f).alm = l.alm := rfl
@[simp] theorem Lane.onStream_tap (l : Lane) (c : Fin 16) (f : StreamCh → StreamCh) : (l.onStream c f).tap = l.tap := rfl
@[simp] theorem Lane.onStream_free (l : Lane) (c : Fin 16) (f : StreamCh → StreamCh) : (l.onStream c f).free = l.free := rfl

@[simp] theorem Lane.onPair_idx (l : Lane) (k : Fin 16) (f : Pair → Pair) : (l.onPair k f).idx = l.idx := rfl
@[simp] theorem Lane.onPair_sys (l : Lane) (k : Fin 16) (f : Pair → Pair) : (l.onPair k f).sys = l.sys := rfl
@[simp] theorem Lane.onPair_hp (l : Lane) (k : Fin 16) (f : Pair → Pair) : (l.onPair k f).hp = l.hp := rfl
@[simp] theorem Lane.onPair_ses (l : Lane) (k : Fin 16) (f : Pair → Pair) : (l.onPair k f).ses = l.ses := rfl
@[simp] theorem Lane.onPair_fl (l : Lane) (k : Fin 16) (f : Pair → Pair) : (l.onPair k f).fl = l.fl := rfl
@[simp] theorem Lane.onPair_tm (l : Lane) (k : Fin 16) (f : Pair → Pair) : (l.onPair k f).tm = l.tm := rfl
@[simp] theorem Lane.onPair_dls (l : Lane) (k : Fin 16) (f : Pair → Pair) : (l.onPair k f).dls = l.dls := rfl
@[simp] theorem Lane.onPair_cus (l : Lane) (k : Fin 16) (f : Pair → Pair) : (l.onPair k f).cus = l.cus := rfl
@[simp] theorem Lane.onPair_dsp (l : Lane) (k : Fin 16) (f : Pair → Pair) : (l.onPair k f).dsp = l.dsp := rfl
@[simp] theorem Lane.onPair_ax (l : Lane) (k : Fin 16) (f : Pair → Pair) : (l.onPair k f).ax = l.ax := rfl
@[simp] theorem Lane.onPair_aux (l : Lane) (k : Fin 16) (f : Pair → Pair) : (l.onPair k f).aux = l.aux := rfl
@[simp] theorem Lane.onPair_emu (l : Lane) (k : Fin 16) (f : Pair → Pair) : (l.onPair k f).emu = l.emu := rfl
@[simp] theorem Lane.onPair_afe (l : Lane) (k : Fin 16) (f : Pair → Pair) : (l.onPair k f).afe = l.afe := rfl
@[simp] theorem Lane.onPair_gd (l : Lane) (k : Fin 16) (f : Pair → Pair) : (l.onPair k f).gd = l.gd := rfl
@[simp] theorem Lane.onPair_fc (l : Lane) (k : Fin 16) (f : Pair → Pair) : (l.onPair k f).fc = l.fc := rfl
@[simp] theorem Lane.onPair_lk (l : Lane) (k : Fin 16) (f : Pair → Pair) : (l.onPair k f).lk = l.lk := rfl
@[simp] theorem Lane.onPair_tst (l : Lane) (k : Fin 16) (f : Pair → Pair) : (l.onPair k f).tst = l.tst := rfl
@[simp] theorem Lane.onPair_links (l : Lane) (k : Fin 16) (f : Pair → Pair) : (l.onPair k f).links = l.links := rfl
@[simp] theorem Lane.onPair_net (l : Lane) (k : Fin 16) (f : Pair → Pair) : (l.onPair k f).net = l.net := rfl
@[simp] theorem Lane.onPair_eps (l : Lane) (k : Fin 16) (f : Pair → Pair) : (l.onPair k f).eps = l.eps := rfl
@[simp] theorem Lane.onPair_str (l : Lane) (k : Fin 16) (f : Pair → Pair) : (l.onPair k f).str = l.str := rfl
@[simp] theorem Lane.onPair_mem (l : Lane) (k : Fin 16) (f : Pair → Pair) : (l.onPair k f).mem = l.mem := rfl
@[simp] theorem Lane.onPair_alm (l : Lane) (k : Fin 16) (f : Pair → Pair) : (l.onPair k f).alm = l.alm := rfl
@[simp] theorem Lane.onPair_tap (l : Lane) (k : Fin 16) (f : Pair → Pair) : (l.onPair k f).tap = l.tap := rfl
@[simp] theorem Lane.onPair_free (l : Lane) (k : Fin 16) (f : Pair → Pair) : (l.onPair k f).free = l.free := rfl

@[simp] theorem Lane.onNet_idx (l : Lane) (f : Net → Net) : (l.onNet f).idx = l.idx := rfl
@[simp] theorem Lane.onNet_sys (l : Lane) (f : Net → Net) : (l.onNet f).sys = l.sys := rfl
@[simp] theorem Lane.onNet_hp (l : Lane) (f : Net → Net) : (l.onNet f).hp = l.hp := rfl
@[simp] theorem Lane.onNet_ses (l : Lane) (f : Net → Net) : (l.onNet f).ses = l.ses := rfl
@[simp] theorem Lane.onNet_fl (l : Lane) (f : Net → Net) : (l.onNet f).fl = l.fl := rfl
@[simp] theorem Lane.onNet_tm (l : Lane) (f : Net → Net) : (l.onNet f).tm = l.tm := rfl
@[simp] theorem Lane.onNet_dls (l : Lane) (f : Net → Net) : (l.onNet f).dls = l.dls := rfl
@[simp] theorem Lane.onNet_cus (l : Lane) (f : Net → Net) : (l.onNet f).cus = l.cus := rfl
@[simp] theorem Lane.onNet_dsp (l : Lane) (f : Net → Net) : (l.onNet f).dsp = l.dsp := rfl
@[simp] theorem Lane.onNet_ax (l : Lane) (f : Net → Net) : (l.onNet f).ax = l.ax := rfl
@[simp] theorem Lane.onNet_aux (l : Lane) (f : Net → Net) : (l.onNet f).aux = l.aux := rfl
@[simp] theorem Lane.onNet_emu (l : Lane) (f : Net → Net) : (l.onNet f).emu = l.emu := rfl
@[simp] theorem Lane.onNet_afe (l : Lane) (f : Net → Net) : (l.onNet f).afe = l.afe := rfl
@[simp] theorem Lane.onNet_gd (l : Lane) (f : Net → Net) : (l.onNet f).gd = l.gd := rfl
@[simp] theorem Lane.onNet_fc (l : Lane) (f : Net → Net) : (l.onNet f).fc = l.fc := rfl
@[simp] theorem Lane.onNet_lk (l : Lane) (f : Net → Net) : (l.onNet f).lk = l.lk := rfl
@[simp] theorem Lane.onNet_tst (l : Lane) (f : Net → Net) : (l.onNet f).tst = l.tst := rfl
@[simp] theorem Lane.onNet_links (l : Lane) (f : Net → Net) : (l.onNet f).links = l.links := rfl
@[simp] theorem Lane.onNet_eps (l : Lane) (f : Net → Net) : (l.onNet f).eps = l.eps := rfl
@[simp] theorem Lane.onNet_inp (l : Lane) (f : Net → Net) : (l.onNet f).inp = l.inp := rfl
@[simp] theorem Lane.onNet_str (l : Lane) (f : Net → Net) : (l.onNet f).str = l.str := rfl
@[simp] theorem Lane.onNet_mem (l : Lane) (f : Net → Net) : (l.onNet f).mem = l.mem := rfl
@[simp] theorem Lane.onNet_alm (l : Lane) (f : Net → Net) : (l.onNet f).alm = l.alm := rfl
@[simp] theorem Lane.onNet_tap (l : Lane) (f : Net → Net) : (l.onNet f).tap = l.tap := rfl
@[simp] theorem Lane.onNet_free (l : Lane) (f : Net → Net) : (l.onNet f).free = l.free := rfl

@[simp] theorem Lane.onDl_idx (l : Lane) (d : Fin 16) (f : DelayList → DelayList) : (l.onDl d f).idx = l.idx := rfl
@[simp] theorem Lane.onDl_sys (l : Lane) (d : Fin 16) (f : DelayList → DelayList) : (l.onDl d f).sys = l.sys := rfl
@[simp] theorem Lane.onDl_hp (l : Lane) (d : Fin 16) (f : DelayList → DelayList) : (l.onDl d f).hp = l.hp := rfl
@[simp] theorem Lane.onDl_ses (l : Lane) (d : Fin 16) (f : DelayList → DelayList) : (l.onDl d f).ses = l.ses := rfl
@[simp] theorem Lane.onDl_fl (l : Lane) (d : Fin 16) (f : DelayList → DelayList) : (l.onDl d f).fl = l.fl := rfl
@[simp] theorem Lane.onDl_tm (l : Lane) (d : Fin 16) (f : DelayList → DelayList) : (l.onDl d f).tm = l.tm := rfl
@[simp] theorem Lane.onDl_cus (l : Lane) (d : Fin 16) (f : DelayList → DelayList) : (l.onDl d f).cus = l.cus := rfl
@[simp] theorem Lane.onDl_dsp (l : Lane) (d : Fin 16) (f : DelayList → DelayList) : (l.onDl d f).dsp = l.dsp := rfl
@[simp] theorem Lane.onDl_ax (l : Lane) (d : Fin 16) (f : DelayList → DelayList) : (l.onDl d f).ax = l.ax := rfl
@[simp] theorem Lane.onDl_aux (l : Lane) (d : Fin 16) (f : DelayList → DelayList) : (l.onDl d f).aux = l.aux := rfl
@[simp] theorem Lane.onDl_emu (l : Lane) (d : Fin 16) (f : DelayList → DelayList) : (l.onDl d f).emu = l.emu := rfl
@[simp] theorem Lane.onDl_afe (l : Lane) (d : Fin 16) (f : DelayList → DelayList) : (l.onDl d f).afe = l.afe := rfl
@[simp] theorem Lane.onDl_gd (l : Lane) (d : Fin 16) (f : DelayList → DelayList) : (l.onDl d f).gd = l.gd := rfl
@[simp] theorem Lane.onDl_fc (l : Lane) (d : Fin 16) (f : DelayList → DelayList) : (l.onDl d f).fc = l.fc := rfl
@[simp] theorem Lane.onDl_lk (l : Lane) (d : Fin 16) (f : DelayList → DelayList) : (l.onDl d f).lk = l.lk := rfl
@[simp] theorem Lane.onDl_tst (l : Lane) (d : Fin 16) (f : DelayList → DelayList) : (l.onDl d f).tst = l.tst := rfl
@[simp] theorem Lane.onDl_links (l : Lane) (d : Fin 16) (f : DelayList → DelayList) : (l.onDl d f).links = l.links := rfl
@[simp] theorem Lane.onDl_net (l : Lane) (d : Fin 16) (f : DelayList → DelayList) : (l.onDl d f).net = l.net := rfl
@[simp] theorem Lane.onDl_eps (l : Lane) (d : Fin 16) (f : DelayList → DelayList) : (l.onDl d f).eps = l.eps := rfl
@[simp] theorem Lane.onDl_inp (l : Lane) (d : Fin 16) (f : DelayList → DelayList) : (l.onDl d f).inp = l.inp := rfl
@[simp] theorem Lane.onDl_str (l : Lane) (d : Fin 16) (f : DelayList → DelayList) : (l.onDl d f).str = l.str := rfl
@[simp] theorem Lane.onDl_mem (l : Lane) (d : Fin 16) (f : DelayList → DelayList) : (l.onDl d f).mem = l.mem := rfl
@[simp] theorem Lane.onDl_alm (l : Lane) (d : Fin 16) (f : DelayList → DelayList) : (l.onDl d f).alm = l.alm := rfl
@[simp] theorem Lane.onDl_tap (l : Lane) (d : Fin 16) (f : DelayList → DelayList) : (l.onDl d f).tap = l.tap := rfl
@[simp] theorem Lane.onDl_free (l : Lane) (d : Fin 16) (f : DelayList → DelayList) : (l.onDl d f).free = l.free := rfl

@[simp] theorem Lane.onEmul_idx (l : Lane) (e : Fin 2) (f : Emul → Emul) : (l.onEmul e f).idx = l.idx := rfl
@[simp] theorem Lane.onEmul_sys (l : Lane) (e : Fin 2) (f : Emul → Emul) : (l.onEmul e f).sys = l.sys := rfl
@[simp] theorem Lane.onEmul_hp (l : Lane) (e : Fin 2) (f : Emul → Emul) : (l.onEmul e f).hp = l.hp := rfl
@[simp] theorem Lane.onEmul_ses (l : Lane) (e : Fin 2) (f : Emul → Emul) : (l.onEmul e f).ses = l.ses := rfl
@[simp] theorem Lane.onEmul_fl (l : Lane) (e : Fin 2) (f : Emul → Emul) : (l.onEmul e f).fl = l.fl := rfl
@[simp] theorem Lane.onEmul_tm (l : Lane) (e : Fin 2) (f : Emul → Emul) : (l.onEmul e f).tm = l.tm := rfl
@[simp] theorem Lane.onEmul_dls (l : Lane) (e : Fin 2) (f : Emul → Emul) : (l.onEmul e f).dls = l.dls := rfl
@[simp] theorem Lane.onEmul_cus (l : Lane) (e : Fin 2) (f : Emul → Emul) : (l.onEmul e f).cus = l.cus := rfl
@[simp] theorem Lane.onEmul_dsp (l : Lane) (e : Fin 2) (f : Emul → Emul) : (l.onEmul e f).dsp = l.dsp := rfl
@[simp] theorem Lane.onEmul_ax (l : Lane) (e : Fin 2) (f : Emul → Emul) : (l.onEmul e f).ax = l.ax := rfl
@[simp] theorem Lane.onEmul_aux (l : Lane) (e : Fin 2) (f : Emul → Emul) : (l.onEmul e f).aux = l.aux := rfl
@[simp] theorem Lane.onEmul_afe (l : Lane) (e : Fin 2) (f : Emul → Emul) : (l.onEmul e f).afe = l.afe := rfl
@[simp] theorem Lane.onEmul_gd (l : Lane) (e : Fin 2) (f : Emul → Emul) : (l.onEmul e f).gd = l.gd := rfl
@[simp] theorem Lane.onEmul_fc (l : Lane) (e : Fin 2) (f : Emul → Emul) : (l.onEmul e f).fc = l.fc := rfl
@[simp] theorem Lane.onEmul_lk (l : Lane) (e : Fin 2) (f : Emul → Emul) : (l.onEmul e f).lk = l.lk := rfl
@[simp] theorem Lane.onEmul_tst (l : Lane) (e : Fin 2) (f : Emul → Emul) : (l.onEmul e f).tst = l.tst := rfl
@[simp] theorem Lane.onEmul_links (l : Lane) (e : Fin 2) (f : Emul → Emul) : (l.onEmul e f).links = l.links := rfl
@[simp] theorem Lane.onEmul_net (l : Lane) (e : Fin 2) (f : Emul → Emul) : (l.onEmul e f).net = l.net := rfl
@[simp] theorem Lane.onEmul_eps (l : Lane) (e : Fin 2) (f : Emul → Emul) : (l.onEmul e f).eps = l.eps := rfl
@[simp] theorem Lane.onEmul_inp (l : Lane) (e : Fin 2) (f : Emul → Emul) : (l.onEmul e f).inp = l.inp := rfl
@[simp] theorem Lane.onEmul_str (l : Lane) (e : Fin 2) (f : Emul → Emul) : (l.onEmul e f).str = l.str := rfl
@[simp] theorem Lane.onEmul_mem (l : Lane) (e : Fin 2) (f : Emul → Emul) : (l.onEmul e f).mem = l.mem := rfl
@[simp] theorem Lane.onEmul_alm (l : Lane) (e : Fin 2) (f : Emul → Emul) : (l.onEmul e f).alm = l.alm := rfl
@[simp] theorem Lane.onEmul_tap (l : Lane) (e : Fin 2) (f : Emul → Emul) : (l.onEmul e f).tap = l.tap := rfl
@[simp] theorem Lane.onEmul_free (l : Lane) (e : Fin 2) (f : Emul → Emul) : (l.onEmul e f).free = l.free := rfl

@[simp] theorem Lane.onAux_idx (l : Lane) (x : Fin 8) (f : Aux → Aux) : (l.onAux x f).idx = l.idx := rfl
@[simp] theorem Lane.onAux_sys (l : Lane) (x : Fin 8) (f : Aux → Aux) : (l.onAux x f).sys = l.sys := rfl
@[simp] theorem Lane.onAux_hp (l : Lane) (x : Fin 8) (f : Aux → Aux) : (l.onAux x f).hp = l.hp := rfl
@[simp] theorem Lane.onAux_ses (l : Lane) (x : Fin 8) (f : Aux → Aux) : (l.onAux x f).ses = l.ses := rfl
@[simp] theorem Lane.onAux_fl (l : Lane) (x : Fin 8) (f : Aux → Aux) : (l.onAux x f).fl = l.fl := rfl
@[simp] theorem Lane.onAux_tm (l : Lane) (x : Fin 8) (f : Aux → Aux) : (l.onAux x f).tm = l.tm := rfl
@[simp] theorem Lane.onAux_dls (l : Lane) (x : Fin 8) (f : Aux → Aux) : (l.onAux x f).dls = l.dls := rfl
@[simp] theorem Lane.onAux_cus (l : Lane) (x : Fin 8) (f : Aux → Aux) : (l.onAux x f).cus = l.cus := rfl
@[simp] theorem Lane.onAux_dsp (l : Lane) (x : Fin 8) (f : Aux → Aux) : (l.onAux x f).dsp = l.dsp := rfl
@[simp] theorem Lane.onAux_ax (l : Lane) (x : Fin 8) (f : Aux → Aux) : (l.onAux x f).ax = l.ax := rfl
@[simp] theorem Lane.onAux_emu (l : Lane) (x : Fin 8) (f : Aux → Aux) : (l.onAux x f).emu = l.emu := rfl
@[simp] theorem Lane.onAux_afe (l : Lane) (x : Fin 8) (f : Aux → Aux) : (l.onAux x f).afe = l.afe := rfl
@[simp] theorem Lane.onAux_gd (l : Lane) (x : Fin 8) (f : Aux → Aux) : (l.onAux x f).gd = l.gd := rfl
@[simp] theorem Lane.onAux_fc (l : Lane) (x : Fin 8) (f : Aux → Aux) : (l.onAux x f).fc = l.fc := rfl
@[simp] theorem Lane.onAux_lk (l : Lane) (x : Fin 8) (f : Aux → Aux) : (l.onAux x f).lk = l.lk := rfl
@[simp] theorem Lane.onAux_tst (l : Lane) (x : Fin 8) (f : Aux → Aux) : (l.onAux x f).tst = l.tst := rfl
@[simp] theorem Lane.onAux_links (l : Lane) (x : Fin 8) (f : Aux → Aux) : (l.onAux x f).links = l.links := rfl
@[simp] theorem Lane.onAux_net (l : Lane) (x : Fin 8) (f : Aux → Aux) : (l.onAux x f).net = l.net := rfl
@[simp] theorem Lane.onAux_eps (l : Lane) (x : Fin 8) (f : Aux → Aux) : (l.onAux x f).eps = l.eps := rfl
@[simp] theorem Lane.onAux_inp (l : Lane) (x : Fin 8) (f : Aux → Aux) : (l.onAux x f).inp = l.inp := rfl
@[simp] theorem Lane.onAux_str (l : Lane) (x : Fin 8) (f : Aux → Aux) : (l.onAux x f).str = l.str := rfl
@[simp] theorem Lane.onAux_mem (l : Lane) (x : Fin 8) (f : Aux → Aux) : (l.onAux x f).mem = l.mem := rfl
@[simp] theorem Lane.onAux_alm (l : Lane) (x : Fin 8) (f : Aux → Aux) : (l.onAux x f).alm = l.alm := rfl
@[simp] theorem Lane.onAux_tap (l : Lane) (x : Fin 8) (f : Aux → Aux) : (l.onAux x f).tap = l.tap := rfl
@[simp] theorem Lane.onAux_free (l : Lane) (x : Fin 8) (f : Aux → Aux) : (l.onAux x f).free = l.free := rfl

@[simp] theorem Lane.useFree_idx (l : Lane) : (l.useFree).idx = l.idx := rfl
@[simp] theorem Lane.useFree_sys (l : Lane) : (l.useFree).sys = l.sys := rfl
@[simp] theorem Lane.useFree_hp (l : Lane) : (l.useFree).hp = l.hp := rfl
@[simp] theorem Lane.useFree_ses (l : Lane) : (l.useFree).ses = l.ses := rfl
@[simp] theorem Lane.useFree_fl (l : Lane) : (l.useFree).fl = l.fl := rfl
@[simp] theorem Lane.useFree_tm (l : Lane) : (l.useFree).tm = l.tm := rfl
@[simp] theorem Lane.useFree_dls (l : Lane) : (l.useFree).dls = l.dls := rfl
@[simp] theorem Lane.useFree_cus (l : Lane) : (l.useFree).cus = l.cus := rfl
@[simp] theorem Lane.useFree_dsp (l : Lane) : (l.useFree).dsp = l.dsp := rfl
@[simp] theorem Lane.useFree_ax (l : Lane) : (l.useFree).ax = l.ax := rfl
@[simp] theorem Lane.useFree_aux (l : Lane) : (l.useFree).aux = l.aux := rfl
@[simp] theorem Lane.useFree_emu (l : Lane) : (l.useFree).emu = l.emu := rfl
@[simp] theorem Lane.useFree_afe (l : Lane) : (l.useFree).afe = l.afe := rfl
@[simp] theorem Lane.useFree_gd (l : Lane) : (l.useFree).gd = l.gd := rfl
@[simp] theorem Lane.useFree_fc (l : Lane) : (l.useFree).fc = l.fc := rfl
@[simp] theorem Lane.useFree_lk (l : Lane) : (l.useFree).lk = l.lk := rfl
@[simp] theorem Lane.useFree_tst (l : Lane) : (l.useFree).tst = l.tst := rfl
@[simp] theorem Lane.useFree_links (l : Lane) : (l.useFree).links = l.links := rfl
@[simp] theorem Lane.useFree_net (l : Lane) : (l.useFree).net = l.net := rfl
@[simp] theorem Lane.useFree_eps (l : Lane) : (l.useFree).eps = l.eps := rfl
@[simp] theorem Lane.useFree_inp (l : Lane) : (l.useFree).inp = l.inp := rfl
@[simp] theorem Lane.useFree_str (l : Lane) : (l.useFree).str = l.str := rfl
@[simp] theorem Lane.useFree_mem (l : Lane) : (l.useFree).mem = l.mem := rfl
@[simp] theorem Lane.useFree_alm (l : Lane) : (l.useFree).alm = l.alm := rfl
@[simp] theorem Lane.useFree_tap (l : Lane) : (l.useFree).tap = l.tap := rfl

@[simp] theorem Lane.irq_idx (l : Lane) (v : W32) : (l.irq v).idx = l.idx := rfl
@[simp] theorem Lane.irq_sys (l : Lane) (v : W32) : (l.irq v).sys = l.sys := rfl
@[simp] theorem Lane.irq_ses (l : Lane) (v : W32) : (l.irq v).ses = l.ses := rfl
@[simp] theorem Lane.irq_fl (l : Lane) (v : W32) : (l.irq v).fl = l.fl := rfl
@[simp] theorem Lane.irq_tm (l : Lane) (v : W32) : (l.irq v).tm = l.tm := rfl
@[simp] theorem Lane.irq_dls (l : Lane) (v : W32) : (l.irq v).dls = l.dls := rfl
@[simp] theorem Lane.irq_cus (l : Lane) (v : W32) : (l.irq v).cus = l.cus := rfl
@[simp] theorem Lane.irq_dsp (l : Lane) (v : W32) : (l.irq v).dsp = l.dsp := rfl
@[simp] theorem Lane.irq_ax (l : Lane) (v : W32) : (l.irq v).ax = l.ax := rfl
@[simp] theorem Lane.irq_aux (l : Lane) (v : W32) : (l.irq v).aux = l.aux := rfl
@[simp] theorem Lane.irq_emu (l : Lane) (v : W32) : (l.irq v).emu = l.emu := rfl
@[simp] theorem Lane.irq_afe (l : Lane) (v : W32) : (l.irq v).afe = l.afe := rfl
@[simp] theorem Lane.irq_gd (l : Lane) (v : W32) : (l.irq v).gd = l.gd := rfl
@[simp] theorem Lane.irq_fc (l : Lane) (v : W32) : (l.irq v).fc = l.fc := rfl
@[simp] theorem Lane.irq_lk (l : Lane) (v : W32) : (l.irq v).lk = l.lk := rfl
@[simp] theorem Lane.irq_tst (l : Lane) (v : W32) : (l.irq v).tst = l.tst := rfl
@[simp] theorem Lane.irq_links (l : Lane) (v : W32) : (l.irq v).links = l.links := rfl
@[simp] theorem Lane.irq_net (l : Lane) (v : W32) : (l.irq v).net = l.net := rfl
@[simp] theorem Lane.irq_eps (l : Lane) (v : W32) : (l.irq v).eps = l.eps := rfl
@[simp] theorem Lane.irq_inp (l : Lane) (v : W32) : (l.irq v).inp = l.inp := rfl
@[simp] theorem Lane.irq_str (l : Lane) (v : W32) : (l.irq v).str = l.str := rfl
@[simp] theorem Lane.irq_mem (l : Lane) (v : W32) : (l.irq v).mem = l.mem := rfl
@[simp] theorem Lane.irq_alm (l : Lane) (v : W32) : (l.irq v).alm = l.alm := rfl
@[simp] theorem Lane.irq_tap (l : Lane) (v : W32) : (l.irq v).tap = l.tap := rfl
@[simp] theorem Lane.irq_free (l : Lane) (v : W32) : (l.irq v).free = l.free := rfl

@[simp] theorem Lane.hpErr_idx (l : Lane) (v : W32) : (l.hpErr v).idx = l.idx := rfl
@[simp] theorem Lane.hpErr_sys (l : Lane) (v : W32) : (l.hpErr v).sys = l.sys := rfl
@[simp] theorem Lane.hpErr_ses (l : Lane) (v : W32) : (l.hpErr v).ses = l.ses := rfl
@[simp] theorem Lane.hpErr_fl (l : Lane) (v : W32) : (l.hpErr v).fl = l.fl := rfl
@[simp] theorem Lane.hpErr_tm (l : Lane) (v : W32) : (l.hpErr v).tm = l.tm := rfl
@[simp] theorem Lane.hpErr_dls (l : Lane) (v : W32) : (l.hpErr v).dls = l.dls := rfl
@[simp] theorem Lane.hpErr_cus (l : Lane) (v : W32) : (l.hpErr v).cus = l.cus := rfl
@[simp] theorem Lane.hpErr_dsp (l : Lane) (v : W32) : (l.hpErr v).dsp = l.dsp := rfl
@[simp] theorem Lane.hpErr_ax (l : Lane) (v : W32) : (l.hpErr v).ax = l.ax := rfl
@[simp] theorem Lane.hpErr_aux (l : Lane) (v : W32) : (l.hpErr v).aux = l.aux := rfl
@[simp] theorem Lane.hpErr_emu (l : Lane) (v : W32) : (l.hpErr v).emu = l.emu := rfl
@[simp] theorem Lane.hpErr_afe (l : Lane) (v : W32) : (l.hpErr v).afe = l.afe := rfl
@[simp] theorem Lane.hpErr_gd (l : Lane) (v : W32) : (l.hpErr v).gd = l.gd := rfl
@[simp] theorem Lane.hpErr_fc (l : Lane) (v : W32) : (l.hpErr v).fc = l.fc := rfl
@[simp] theorem Lane.hpErr_lk (l : Lane) (v : W32) : (l.hpErr v).lk = l.lk := rfl
@[simp] theorem Lane.hpErr_tst (l : Lane) (v : W32) : (l.hpErr v).tst = l.tst := rfl
@[simp] theorem Lane.hpErr_links (l : Lane) (v : W32) : (l.hpErr v).links = l.links := rfl
@[simp] theorem Lane.hpErr_net (l : Lane) (v : W32) : (l.hpErr v).net = l.net := rfl
@[simp] theorem Lane.hpErr_eps (l : Lane) (v : W32) : (l.hpErr v).eps = l.eps := rfl
@[simp] theorem Lane.hpErr_inp (l : Lane) (v : W32) : (l.hpErr v).inp = l.inp := rfl
@[simp] theorem Lane.hpErr_str (l : Lane) (v : W32) : (l.hpErr v).str = l.str := rfl
@[simp] theorem Lane.hpErr_mem (l : Lane) (v : W32) : (l.hpErr v).mem = l.mem := rfl
@[simp] theorem Lane.hpErr_alm (l : Lane) (v : W32) : (l.hpErr v).alm = l.alm := rfl
@[simp] theorem Lane.hpErr_tap (l : Lane) (v : W32) : (l.hpErr v).tap = l.tap := rfl
@[simp] theorem Lane.hpErr_free (l : Lane) (v : W32) : (l.hpErr v).free = l.free := rfl

@[simp] theorem Lane.maskSources_idx (l : Lane) (ss : List Nat) (on : Bool) : (l.maskSources ss on).idx = l.idx := rfl
@[simp] theorem Lane.maskSources_sys (l : Lane) (ss : List Nat) (on : Bool) : (l.maskSources ss on).sys = l.sys := rfl
@[simp] theorem Lane.maskSources_hp (l : Lane) (ss : List Nat) (on : Bool) : (l.maskSources ss on).hp = l.hp := rfl
@[simp] theorem Lane.maskSources_ses (l : Lane) (ss : List Nat) (on : Bool) : (l.maskSources ss on).ses = l.ses := rfl
@[simp] theorem Lane.maskSources_fl (l : Lane) (ss : List Nat) (on : Bool) : (l.maskSources ss on).fl = l.fl := rfl
@[simp] theorem Lane.maskSources_tm (l : Lane) (ss : List Nat) (on : Bool) : (l.maskSources ss on).tm = l.tm := rfl
@[simp] theorem Lane.maskSources_dls (l : Lane) (ss : List Nat) (on : Bool) : (l.maskSources ss on).dls = l.dls := rfl
@[simp] theorem Lane.maskSources_cus (l : Lane) (ss : List Nat) (on : Bool) : (l.maskSources ss on).cus = l.cus := rfl
@[simp] theorem Lane.maskSources_dsp (l : Lane) (ss : List Nat) (on : Bool) : (l.maskSources ss on).dsp = l.dsp := rfl
@[simp] theorem Lane.maskSources_ax (l : Lane) (ss : List Nat) (on : Bool) : (l.maskSources ss on).ax = l.ax := rfl
@[simp] theorem Lane.maskSources_aux (l : Lane) (ss : List Nat) (on : Bool) : (l.maskSources ss on).aux = l.aux := rfl
@[simp] theorem Lane.maskSources_emu (l : Lane) (ss : List Nat) (on : Bool) : (l.maskSources ss on).emu = l.emu := rfl
@[simp] theorem Lane.maskSources_afe (l : Lane) (ss : List Nat) (on : Bool) : (l.maskSources ss on).afe = l.afe := rfl
@[simp] theorem Lane.maskSources_gd (l : Lane) (ss : List Nat) (on : Bool) : (l.maskSources ss on).gd = l.gd := rfl
@[simp] theorem Lane.maskSources_lk (l : Lane) (ss : List Nat) (on : Bool) : (l.maskSources ss on).lk = l.lk := rfl
@[simp] theorem Lane.maskSources_tst (l : Lane) (ss : List Nat) (on : Bool) : (l.maskSources ss on).tst = l.tst := rfl
@[simp] theorem Lane.maskSources_links (l : Lane) (ss : List Nat) (on : Bool) : (l.maskSources ss on).links = l.links := rfl
@[simp] theorem Lane.maskSources_net (l : Lane) (ss : List Nat) (on : Bool) : (l.maskSources ss on).net = l.net := rfl
@[simp] theorem Lane.maskSources_eps (l : Lane) (ss : List Nat) (on : Bool) : (l.maskSources ss on).eps = l.eps := rfl
@[simp] theorem Lane.maskSources_inp (l : Lane) (ss : List Nat) (on : Bool) : (l.maskSources ss on).inp = l.inp := rfl
@[simp] theorem Lane.maskSources_str (l : Lane) (ss : List Nat) (on : Bool) : (l.maskSources ss on).str = l.str := rfl
@[simp] theorem Lane.maskSources_mem (l : Lane) (ss : List Nat) (on : Bool) : (l.maskSources ss on).mem = l.mem := rfl
@[simp] theorem Lane.maskSources_alm (l : Lane) (ss : List Nat) (on : Bool) : (l.maskSources ss on).alm = l.alm := rfl
@[simp] theorem Lane.maskSources_tap (l : Lane) (ss : List Nat) (on : Bool) : (l.maskSources ss on).tap = l.tap := rfl
@[simp] theorem Lane.maskSources_free (l : Lane) (ss : List Nat) (on : Bool) : (l.maskSources ss on).free = l.free := rfl

@[simp] theorem Lane.setUnit_idx (l : Lane) (x : Fin 4) (j : Option UnitJob) : (l.setUnit x j).idx = l.idx := rfl
@[simp] theorem Lane.setUnit_sys (l : Lane) (x : Fin 4) (j : Option UnitJob) : (l.setUnit x j).sys = l.sys := rfl
@[simp] theorem Lane.setUnit_hp (l : Lane) (x : Fin 4) (j : Option UnitJob) : (l.setUnit x j).hp = l.hp := rfl
@[simp] theorem Lane.setUnit_ses (l : Lane) (x : Fin 4) (j : Option UnitJob) : (l.setUnit x j).ses = l.ses := rfl
@[simp] theorem Lane.setUnit_fl (l : Lane) (x : Fin 4) (j : Option UnitJob) : (l.setUnit x j).fl = l.fl := rfl
@[simp] theorem Lane.setUnit_tm (l : Lane) (x : Fin 4) (j : Option UnitJob) : (l.setUnit x j).tm = l.tm := rfl
@[simp] theorem Lane.setUnit_dls (l : Lane) (x : Fin 4) (j : Option UnitJob) : (l.setUnit x j).dls = l.dls := rfl
@[simp] theorem Lane.setUnit_cus (l : Lane) (x : Fin 4) (j : Option UnitJob) : (l.setUnit x j).cus = l.cus := rfl
@[simp] theorem Lane.setUnit_ax (l : Lane) (x : Fin 4) (j : Option UnitJob) : (l.setUnit x j).ax = l.ax := rfl
@[simp] theorem Lane.setUnit_aux (l : Lane) (x : Fin 4) (j : Option UnitJob) : (l.setUnit x j).aux = l.aux := rfl
@[simp] theorem Lane.setUnit_emu (l : Lane) (x : Fin 4) (j : Option UnitJob) : (l.setUnit x j).emu = l.emu := rfl
@[simp] theorem Lane.setUnit_afe (l : Lane) (x : Fin 4) (j : Option UnitJob) : (l.setUnit x j).afe = l.afe := rfl
@[simp] theorem Lane.setUnit_gd (l : Lane) (x : Fin 4) (j : Option UnitJob) : (l.setUnit x j).gd = l.gd := rfl
@[simp] theorem Lane.setUnit_fc (l : Lane) (x : Fin 4) (j : Option UnitJob) : (l.setUnit x j).fc = l.fc := rfl
@[simp] theorem Lane.setUnit_lk (l : Lane) (x : Fin 4) (j : Option UnitJob) : (l.setUnit x j).lk = l.lk := rfl
@[simp] theorem Lane.setUnit_tst (l : Lane) (x : Fin 4) (j : Option UnitJob) : (l.setUnit x j).tst = l.tst := rfl
@[simp] theorem Lane.setUnit_links (l : Lane) (x : Fin 4) (j : Option UnitJob) : (l.setUnit x j).links = l.links := rfl
@[simp] theorem Lane.setUnit_net (l : Lane) (x : Fin 4) (j : Option UnitJob) : (l.setUnit x j).net = l.net := rfl
@[simp] theorem Lane.setUnit_eps (l : Lane) (x : Fin 4) (j : Option UnitJob) : (l.setUnit x j).eps = l.eps := rfl
@[simp] theorem Lane.setUnit_inp (l : Lane) (x : Fin 4) (j : Option UnitJob) : (l.setUnit x j).inp = l.inp := rfl
@[simp] theorem Lane.setUnit_str (l : Lane) (x : Fin 4) (j : Option UnitJob) : (l.setUnit x j).str = l.str := rfl
@[simp] theorem Lane.setUnit_mem (l : Lane) (x : Fin 4) (j : Option UnitJob) : (l.setUnit x j).mem = l.mem := rfl
@[simp] theorem Lane.setUnit_alm (l : Lane) (x : Fin 4) (j : Option UnitJob) : (l.setUnit x j).alm = l.alm := rfl
@[simp] theorem Lane.setUnit_tap (l : Lane) (x : Fin 4) (j : Option UnitJob) : (l.setUnit x j).tap = l.tap := rfl
@[simp] theorem Lane.setUnit_free (l : Lane) (x : Fin 4) (j : Option UnitJob) : (l.setUnit x j).free = l.free := rfl

@[simp] theorem Lane.healthy_idx (l : Lane) (k : Nat) : (l.healthy k).idx = l.idx := rfl
@[simp] theorem Lane.healthy_sys (l : Lane) (k : Nat) : (l.healthy k).sys = l.sys := rfl
@[simp] theorem Lane.healthy_hp (l : Lane) (k : Nat) : (l.healthy k).hp = l.hp := rfl
@[simp] theorem Lane.healthy_ses (l : Lane) (k : Nat) : (l.healthy k).ses = l.ses := rfl
@[simp] theorem Lane.healthy_fl (l : Lane) (k : Nat) : (l.healthy k).fl = l.fl := rfl
@[simp] theorem Lane.healthy_tm (l : Lane) (k : Nat) : (l.healthy k).tm = l.tm := rfl
@[simp] theorem Lane.healthy_dls (l : Lane) (k : Nat) : (l.healthy k).dls = l.dls := rfl
@[simp] theorem Lane.healthy_cus (l : Lane) (k : Nat) : (l.healthy k).cus = l.cus := rfl
@[simp] theorem Lane.healthy_dsp (l : Lane) (k : Nat) : (l.healthy k).dsp = l.dsp := rfl
@[simp] theorem Lane.healthy_ax (l : Lane) (k : Nat) : (l.healthy k).ax = l.ax := rfl
@[simp] theorem Lane.healthy_aux (l : Lane) (k : Nat) : (l.healthy k).aux = l.aux := rfl
@[simp] theorem Lane.healthy_emu (l : Lane) (k : Nat) : (l.healthy k).emu = l.emu := rfl
@[simp] theorem Lane.healthy_afe (l : Lane) (k : Nat) : (l.healthy k).afe = l.afe := rfl
@[simp] theorem Lane.healthy_gd (l : Lane) (k : Nat) : (l.healthy k).gd = l.gd := rfl
@[simp] theorem Lane.healthy_lk (l : Lane) (k : Nat) : (l.healthy k).lk = l.lk := rfl
@[simp] theorem Lane.healthy_tst (l : Lane) (k : Nat) : (l.healthy k).tst = l.tst := rfl
@[simp] theorem Lane.healthy_links (l : Lane) (k : Nat) : (l.healthy k).links = l.links := rfl
@[simp] theorem Lane.healthy_net (l : Lane) (k : Nat) : (l.healthy k).net = l.net := rfl
@[simp] theorem Lane.healthy_eps (l : Lane) (k : Nat) : (l.healthy k).eps = l.eps := rfl
@[simp] theorem Lane.healthy_inp (l : Lane) (k : Nat) : (l.healthy k).inp = l.inp := rfl
@[simp] theorem Lane.healthy_str (l : Lane) (k : Nat) : (l.healthy k).str = l.str := rfl
@[simp] theorem Lane.healthy_mem (l : Lane) (k : Nat) : (l.healthy k).mem = l.mem := rfl
@[simp] theorem Lane.healthy_alm (l : Lane) (k : Nat) : (l.healthy k).alm = l.alm := rfl
@[simp] theorem Lane.healthy_tap (l : Lane) (k : Nat) : (l.healthy k).tap = l.tap := rfl
@[simp] theorem Lane.healthy_free (l : Lane) (k : Nat) : (l.healthy k).free = l.free := rfl

/-! ### The state -/

@[simp] theorem State.setLane_greens (s : State) (l : LaneId) (x : Lane) : (s.setLane l x).greens = s.greens := rfl
@[simp] theorem State.setLane_homes (s : State) (l : LaneId) (x : Lane) : (s.setLane l x).homes = s.homes := rfl
@[simp] theorem State.setLane_pd (s : State) (l : LaneId) (x : Lane) : (s.setLane l x).pd = s.pd := rfl
@[simp] theorem State.setLane_pending (s : State) (l : LaneId) (x : Lane) : (s.setLane l x).pending = s.pending := rfl
@[simp] theorem State.onLane_greens (s : State) (l : LaneId) (f : Lane → Lane) : (s.onLane l f).greens = s.greens := rfl
@[simp] theorem State.onLane_homes (s : State) (l : LaneId) (f : Lane → Lane) : (s.onLane l f).homes = s.homes := rfl
@[simp] theorem State.onLane_pd (s : State) (l : LaneId) (f : Lane → Lane) : (s.onLane l f).pd = s.pd := rfl
@[simp] theorem State.onLane_pending (s : State) (l : LaneId) (f : Lane → Lane) : (s.onLane l f).pending = s.pending := rfl
@[simp] theorem State.onGreen_lanes (s : State) (g : GreenId) (f : Green → Green) : (s.onGreen g f).lanes = s.lanes := rfl
@[simp] theorem State.onGreen_homes (s : State) (g : GreenId) (f : Green → Green) : (s.onGreen g f).homes = s.homes := rfl
@[simp] theorem State.onGreen_pd (s : State) (g : GreenId) (f : Green → Green) : (s.onGreen g f).pd = s.pd := rfl
@[simp] theorem State.onGreen_pending (s : State) (g : GreenId) (f : Green → Green) : (s.onGreen g f).pending = s.pending := rfl

end Sys2Proof.Machine
end

