-- ==== Sys2Proof/Laws/Ops.lean ====
section
/-! SUPPORT. What the shared operations do: places of vectors, memories in their canonical form, one lane or one Green of the
state changed. -/

namespace Sys2Proof.Machine

/-! ### Places of vectors -/

@[simp] theorem vget_vset_self {α : Type} {n : Nat} (v : Vector α n) (i : Fin n) (x : α) : vget (vset v i x) i = x := by
  simp [vget, vset]

theorem vget_vset_ne {α : Type} {n : Nat} (v : Vector α n) {i j : Fin n} (x : α) (h : j ≠ i) :
    vget (vset v i x) j = vget v j := by
  have : i.val ≠ j.val := fun e => h (Fin.ext e.symm)
  simp [vget, vset, this]

@[simp] theorem vget_vmod_self {α : Type} {n : Nat} (v : Vector α n) (i : Fin n) (f : α → α) :
    vget (vmod v i f) i = f (vget v i) := by simp [vmod]

theorem vget_vmod_ne {α : Type} {n : Nat} (v : Vector α n) {i j : Fin n} (f : α → α) (h : j ≠ i) :
    vget (vmod v i f) j = vget v j := by simp [vmod, vget_vset_ne _ _ h]

/-! ### One lane, one Green -/

@[simp] theorem State.onLane_lane_self (s : State) (l : LaneId) (f : Lane → Lane) :
    (s.onLane l f).lane l = (f (s.lane l)).noticeSync.almSync := by simp [State.onLane, State.setLane, State.lane]

theorem State.onLane_lane_ne (s : State) {l k : LaneId} (f : Lane → Lane) (h : k ≠ l) : (s.onLane l f).lane k = s.lane k := by
  simp [State.onLane, State.setLane, State.lane, vget_vset_ne _ _ h]

@[simp] theorem State.onLane_green (s : State) (l : LaneId) (f : Lane → Lane) (g : GreenId) :
    (s.onLane l f).green g = s.green g := rfl

@[simp] theorem State.onGreen_green_self (s : State) (g : GreenId) (f : Green → Green) :
    (s.onGreen g f).green g = f (s.green g) := by simp [State.onGreen, State.green]

theorem State.onGreen_green_ne (s : State) {g h : GreenId} (f : Green → Green) (n : h ≠ g) :
    (s.onGreen g f).green h = s.green h := by simp [State.onGreen, State.green, vget_vmod_ne _ _ n]

@[simp] theorem State.onGreen_lane (s : State) (g : GreenId) (f : Green → Green) (l : LaneId) :
    (s.onGreen g f).lane l = s.lane l := rfl

/-- Two ways to change a lane that agree on that lane give one state. -/
theorem State.onLane_congr (s : State) (l : LaneId) {f g : Lane → Lane} (h : f (s.lane l) = g (s.lane l)) :
    s.onLane l f = s.onLane l g := by simp [State.onLane, h]

/-- Two ways to change a Green that agree on that Green give one state. -/
theorem State.onGreen_congr (s : State) (g : GreenId) {f h : Green → Green} (e : f (s.green g) = h (s.green g)) :
    s.onGreen g f = s.onGreen g h := by
  have e' : f (vget s.greens g) = h (vget s.greens g) := e
  simp [State.onGreen, vmod, e']

/-- Only the Almanac follows a change of a lane. -/
theorem Lane.almSync_eq (l : Lane) : ∃ a, l.almSync = { l with alm := a } := by
  unfold Lane.almSync
  split
  · exact ⟨l.alm, rfl⟩
  · split
    · exact ⟨l.alm, rfl⟩
    · exact ⟨_, rfl⟩

/-- A notice queued changes the host port alone (R60). -/
theorem Lane.queueNotice_eq (l : Lane) (n : Notice) : ∃ h, l.queueNotice n = { l with hp := h } := by
  unfold Lane.queueNotice
  dsimp only
  split <;> exact ⟨_, rfl⟩

/-- Queueing the notices that waited changes the host port alone (R378). -/
theorem Lane.noticeSync_eq (l : Lane) : ∃ h, l.noticeSync = { l with hp := h } := by
  have each_eq : ∀ (ns : List Notice) (x : Lane), ∃ h, each ns (fun n l => l.queueNotice n) x = { x with hp := h } := by
    intro ns
    induction ns with
    | nil => intro x; exact ⟨x.hp, rfl⟩
    | cons n ns ih =>
      intro x
      obtain ⟨h, e⟩ := x.queueNotice_eq n
      obtain ⟨k, e'⟩ := ih (x.queueNotice n)
      exact ⟨k, by show each ns _ (x.queueNotice n) = _; rw [e', e]⟩
  unfold Lane.noticeSync
  split
  · exact each_eq _ _
  · exact ⟨l.hp, rfl⟩

/-- Where no notice waits, none is queued. -/
theorem Lane.noticeSync_nil {l : Lane} (h : l.hp.waiting = []) : l.noticeSync = l := by simp [Lane.noticeSync, h]

/-- Queueing the notices that waited leaves the Almanac to its own update. -/
theorem Lane.noticeSync_alm (l : Lane) : l.noticeSync.alm = l.alm := by
  obtain ⟨h, e⟩ := l.noticeSync_eq; rw [e]

/-- Changes of slots, made in turn, change the dispatcher alone. -/
theorem Lane.each_onSlot_eq {α : Type} (js : List α) (k : α → Fin 64) (f : α → Slot → Slot) (x : Lane) :
    ∃ d, each js (fun j w => w.onSlot (k j) (f j)) x = { x with dsp := d } := by
  induction js generalizing x with
  | nil => exact ⟨x.dsp, rfl⟩
  | cons j js ih => obtain ⟨d, e⟩ := ih (x.onSlot (k j) (f j)); exact ⟨d, e⟩

/-! ### Memories -/

/-- In a memory of canonical form every address is above an address below its first. -/
theorem memOk_tail {c : Host.Cell} {m : Mem} (h : memOk (c :: m) = true) : memOk m = true := by
  cases m with
  | nil => rfl
  | cons d m => simp only [memOk, Bool.and_eq_true] at h; exact h.2

/-- A cell put in front keeps the form where its byte is not the default and its address is below the first. -/
theorem memOk_cons {c : Host.Cell} {m : Mem} (hb : (c.2 != memDefault) = true) (hm : memOk m = true)
    (hlt : ∀ d ∈ m.head?, c.1 < d.1) : memOk (c :: m) = true := by
  cases m with
  | nil => simpa [memOk] using hb
  | cons d m =>
    have := hlt d (by simp)
    simp only [memOk, Bool.and_eq_true, decide_eq_true_eq]
    exact ⟨⟨hb, this⟩, hm⟩

/-- The first address after a write is the first one before or the one written. -/
theorem memWrite_head (m : Mem) (a : Nat) (b : Byte) (k : Nat) (hk : ∀ d ∈ m.head?, k < d.1) (hm : memOk m = true)
    (ha : k < a) : ∀ d ∈ (memWrite m a b).head?, k < d.1 := by
  cases m with
  | nil => intro d; simp only [memWrite]; split <;> simp <;> rintro rfl; exact ha
  | cons c m =>
    have hc : k < c.1 := hk c (by simp)
    intro d
    simp only [memWrite]
    split
    · split
      · simp; rintro rfl; exact hc
      · simp; rintro rfl; exact ha
    · split
      · split
        · cases m with
          | nil => simp
          | cons e m =>
            simp only [memOk, Bool.and_eq_true, decide_eq_true_eq] at hm
            simp; rintro rfl; omega
        · simp; rintro rfl; exact ha
      · simp; rintro rfl; exact hc

/-- A write keeps the canonical form. -/
theorem memWrite_ok (m : Mem) (a : Nat) (b : Byte) (h : memOk m = true) : memOk (memWrite m a b) = true := by
  induction m with
  | nil => simp only [memWrite]; split <;> simp_all [memOk]
  | cons c m ih =>
    have ht := memOk_tail h
    have hc : (c.2 != memDefault) = true := by cases m <;> simp_all [memOk]
    have hlt : ∀ d ∈ m.head?, c.1 < d.1 := by
      cases m with
      | nil => simp
      | cons e m =>
        simp only [memOk, Bool.and_eq_true, decide_eq_true_eq] at h
        simp; omega
    simp only [memWrite]
    split
    · rename_i hlta
      split
      · exact h
      · rename_i hb
        exact memOk_cons (by simpa using hb) h (by simp; exact hlta)
    · split
      · rename_i heq
        split
        · exact ht
        · rename_i hb
          exact memOk_cons (by simpa using hb) ht (by subst heq; exact hlt)
      · exact memOk_cons hc (ih ht) (memWrite_head m a b c.1 hlt ht (by omega))

/-- A write of several bytes keeps the canonical form. -/
theorem memWriteN_ok (bs : Bytes) : ∀ (m : Mem) (a : Nat), memOk m = true → memOk (memWriteN m a bs) = true := by
  induction bs with
  | nil => intro m a h; exact h
  | cons b bs ih => intro m a h; exact ih _ _ (memWrite_ok m a b h)

/-- Memory below every listed address reads as the default. -/
theorem memRead_below (m : Mem) (a : Nat) (hm : memOk m = true) (h : ∀ d ∈ m.head?, a < d.1) : memRead m a = memDefault := by
  induction m with
  | nil => rfl
  | cons c m ih =>
    have hc : a < c.1 := h c (by simp)
    have : c.1 ≠ a := by omega
    simp only [memRead, this, if_false]
    refine ih (memOk_tail hm) ?_
    cases m with
    | nil => simp
    | cons e m =>
      simp only [memOk, Bool.and_eq_true, decide_eq_true_eq] at hm
      simp; omega

/-- The byte written reads back. -/
theorem memRead_memWrite_self (m : Mem) (a : Nat) (b : Byte) (hm : memOk m = true) : memRead (memWrite m a b) a = b := by
  induction m with
  | nil => simp only [memWrite]; split <;> simp_all [memRead]
  | cons c m ih =>
    simp only [memWrite]
    split
    · rename_i hlt
      split
      · rename_i hb
        rw [memRead_below _ _ hm (by simp; exact hlt), hb]
      · simp [memRead]
    · split
      · rename_i heq
        split
        · rename_i hb
          rw [memRead_below _ _ (memOk_tail hm), hb]
          cases m with
          | nil => simp
          | cons e m =>
            simp only [memOk, Bool.and_eq_true, decide_eq_true_eq] at hm
            simp; omega
        · simp [memRead]
      · rename_i hne
        have : c.1 ≠ a := fun e => hne e.symm
        simp only [memRead, this, if_false]
        exact ih (memOk_tail hm)

/-- Every other byte reads as before. -/
theorem memRead_memWrite_ne (m : Mem) {a k : Nat} (b : Byte) (h : k ≠ a) (hm : memOk m = true) :
    memRead (memWrite m a b) k = memRead m k := by
  induction m with
  | nil =>
    have : a ≠ k := fun e => h e.symm
    simp only [memWrite]; split <;> simp [memRead, this]
  | cons c m ih =>
    have hak : a ≠ k := fun e => h e.symm
    simp only [memWrite]
    split
    · split
      · rfl
      · simp [memRead, hak]
    · split
      · rename_i heq
        subst heq
        split
        · simp [memRead, hak]
        · simp [memRead, hak]
      · simp only [memRead, ih (memOk_tail hm)]

end Sys2Proof.Machine
end

