-- ==== Sys2Proof/Laws/Parts.lean ====
section
/-! SUPPORT. A numbered part of a lane or of a Green after a change: the part named is changed, every other one is as before. -/

namespace Sys2Proof.Machine

@[simp] theorem Lane.onAxis_axis_self (l : Lane) (i : AxisId) (f : Axis → Axis) :
    (l.onAxis i f).axis i = f (l.axis i) := vget_vmod_self _ _ _

theorem Lane.onAxis_axis_ne (l : Lane) {i j : AxisId} (f : Axis → Axis) (h : j ≠ i) :
    (l.onAxis i f).axis j = l.axis j := vget_vmod_ne _ _ h

@[simp] theorem Lane.onSlot_slot_self (l : Lane) (i : Fin 64) (f : Slot → Slot) :
    (l.onSlot i f).slot i = f (l.slot i) := vget_vmod_self _ _ _

theorem Lane.onSlot_slot_ne (l : Lane) {i j : Fin 64} (f : Slot → Slot) (h : j ≠ i) :
    (l.onSlot i f).slot j = l.slot j := vget_vmod_ne _ _ h

@[simp] theorem Lane.onMb_mb_self (l : Lane) (i : MbId) (f : Mailbox → Mailbox) :
    (l.onMb i f).mb i = f (l.mb i) := vget_vmod_self _ _ _

theorem Lane.onMb_mb_ne (l : Lane) {i j : MbId} (f : Mailbox → Mailbox) (h : j ≠ i) :
    (l.onMb i f).mb j = l.mb j := vget_vmod_ne _ _ h

@[simp] theorem Lane.onLink_link_self (l : Lane) (i : LaneId) (f : Link → Link) :
    vget (l.onLink i f).links i = f (vget l.links i) := vget_vmod_self _ _ _

theorem Lane.onLink_link_ne (l : Lane) {i j : LaneId} (f : Link → Link) (h : j ≠ i) :
    vget (l.onLink i f).links j = vget l.links j := vget_vmod_ne _ _ h

@[simp] theorem Lane.onChan_chan_self (l : Lane) (i : GreenId) (f : Channel → Channel) :
    vget (l.onChan i f).net.chan i = f (vget l.net.chan i) := vget_vmod_self _ _ _

theorem Lane.onChan_chan_ne (l : Lane) {i j : GreenId} (f : Channel → Channel) (h : j ≠ i) :
    vget (l.onChan i f).net.chan j = vget l.net.chan j := vget_vmod_ne _ _ h

@[simp] theorem Lane.onEp_ep_self (l : Lane) (i : Fin 512) (f : Endpoint → Endpoint) :
    (l.onEp i f).ep i = f (l.ep i) := vget_vmod_self _ _ _

theorem Lane.onEp_ep_ne (l : Lane) {i j : Fin 512} (f : Endpoint → Endpoint) (h : j ≠ i) :
    (l.onEp i f).ep j = l.ep j := vget_vmod_ne _ _ h

@[simp] theorem Lane.onStream_stream_self (l : Lane) (i : Fin 16) (f : StreamCh → StreamCh) :
    (l.onStream i f).chan i = f (l.chan i) := vget_vmod_self _ _ _

theorem Lane.onStream_stream_ne (l : Lane) {i j : Fin 16} (f : StreamCh → StreamCh) (h : j ≠ i) :
    (l.onStream i f).chan j = l.chan j := vget_vmod_ne _ _ h

@[simp] theorem Lane.onPair_pair_self (l : Lane) (i : Fin 16) (f : Pair → Pair) :
    (l.onPair i f).pair i = f (l.pair i) := vget_vmod_self _ _ _

theorem Lane.onPair_pair_ne (l : Lane) {i j : Fin 16} (f : Pair → Pair) (h : j ≠ i) :
    (l.onPair i f).pair j = l.pair j := vget_vmod_ne _ _ h

@[simp] theorem Lane.onDl_dl_self (l : Lane) (i : Fin 16) (f : DelayList → DelayList) :
    vget (l.onDl i f).dls i = f (vget l.dls i) := vget_vmod_self _ _ _

theorem Lane.onDl_dl_ne (l : Lane) {i j : Fin 16} (f : DelayList → DelayList) (h : j ≠ i) :
    vget (l.onDl i f).dls j = vget l.dls j := vget_vmod_ne _ _ h

@[simp] theorem Lane.onCu_cu_self (l : Lane) (i : Fin 24) (f : CompareUnit → CompareUnit) :
    vget (l.onCu i f).cus i = f (vget l.cus i) := vget_vmod_self _ _ _

theorem Lane.onCu_cu_ne (l : Lane) {i j : Fin 24} (f : CompareUnit → CompareUnit) (h : j ≠ i) :
    vget (l.onCu i f).cus j = vget l.cus j := vget_vmod_ne _ _ h

@[simp] theorem Lane.onEmul_emul_self (l : Lane) (i : Fin 2) (f : Emul → Emul) :
    vget (l.onEmul i f).emu i = f (vget l.emu i) := vget_vmod_self _ _ _

theorem Lane.onEmul_emul_ne (l : Lane) {i j : Fin 2} (f : Emul → Emul) (h : j ≠ i) :
    vget (l.onEmul i f).emu j = vget l.emu j := vget_vmod_ne _ _ h

@[simp] theorem Lane.onAux_aux_self (l : Lane) (i : Fin 8) (f : Aux → Aux) :
    vget (l.onAux i f).aux i = f (vget l.aux i) := vget_vmod_self _ _ _

theorem Lane.onAux_aux_ne (l : Lane) {i j : Fin 8} (f : Aux → Aux) (h : j ≠ i) :
    vget (l.onAux i f).aux j = vget l.aux j := vget_vmod_ne _ _ h

@[simp] theorem Green.onPort_port_self (x : Green) (i : Fin 19) (f : GPort → GPort) :
    (x.onPort i f).port i = f (x.port i) := vget_vmod_self _ _ _

theorem Green.onPort_port_ne (x : Green) {i j : Fin 19} (f : GPort → GPort) (h : j ≠ i) :
    (x.onPort i f).port j = x.port j := vget_vmod_ne _ _ h

@[simp] theorem Lane.onSlot_axis (l : Lane) (i : Fin 64) (f : Slot → Slot) (nn : AxisId) :
    (l.onSlot i f).axis nn = l.axis nn := rfl

@[simp] theorem Lane.onMb_axis (l : Lane) (i : MbId) (f : Mailbox → Mailbox) (nn : AxisId) :
    (l.onMb i f).axis nn = l.axis nn := rfl

@[simp] theorem Lane.onLink_axis (l : Lane) (i : LaneId) (f : Link → Link) (nn : AxisId) :
    (l.onLink i f).axis nn = l.axis nn := rfl

@[simp] theorem Lane.onChan_axis (l : Lane) (i : GreenId) (f : Channel → Channel) (nn : AxisId) :
    (l.onChan i f).axis nn = l.axis nn := rfl

@[simp] theorem Lane.onEp_axis (l : Lane) (i : Fin 512) (f : Endpoint → Endpoint) (nn : AxisId) :
    (l.onEp i f).axis nn = l.axis nn := rfl

@[simp] theorem Lane.onStream_axis (l : Lane) (i : Fin 16) (f : StreamCh → StreamCh) (nn : AxisId) :
    (l.onStream i f).axis nn = l.axis nn := rfl

@[simp] theorem Lane.onPair_axis (l : Lane) (i : Fin 16) (f : Pair → Pair) (nn : AxisId) :
    (l.onPair i f).axis nn = l.axis nn := rfl

@[simp] theorem Lane.onDl_axis (l : Lane) (i : Fin 16) (f : DelayList → DelayList) (nn : AxisId) :
    (l.onDl i f).axis nn = l.axis nn := rfl

@[simp] theorem Lane.onCu_axis (l : Lane) (i : Fin 24) (f : CompareUnit → CompareUnit) (nn : AxisId) :
    (l.onCu i f).axis nn = l.axis nn := rfl

@[simp] theorem Lane.onEmul_axis (l : Lane) (i : Fin 2) (f : Emul → Emul) (nn : AxisId) :
    (l.onEmul i f).axis nn = l.axis nn := rfl

@[simp] theorem Lane.onAux_axis (l : Lane) (i : Fin 8) (f : Aux → Aux) (nn : AxisId) :
    (l.onAux i f).axis nn = l.axis nn := rfl

@[simp] theorem Lane.onAxis_mb (l : Lane) (i : AxisId) (f : Axis → Axis) (m : MbId) :
    (l.onAxis i f).mb m = l.mb m := rfl

@[simp] theorem Lane.onSlot_mb (l : Lane) (i : Fin 64) (f : Slot → Slot) (m : MbId) :
    (l.onSlot i f).mb m = l.mb m := rfl

@[simp] theorem Lane.onLink_mb (l : Lane) (i : LaneId) (f : Link → Link) (m : MbId) :
    (l.onLink i f).mb m = l.mb m := rfl

@[simp] theorem Lane.onChan_mb (l : Lane) (i : GreenId) (f : Channel → Channel) (m : MbId) :
    (l.onChan i f).mb m = l.mb m := rfl

@[simp] theorem Lane.onEp_mb (l : Lane) (i : Fin 512) (f : Endpoint → Endpoint) (m : MbId) :
    (l.onEp i f).mb m = l.mb m := rfl

@[simp] theorem Lane.onStream_mb (l : Lane) (i : Fin 16) (f : StreamCh → StreamCh) (m : MbId) :
    (l.onStream i f).mb m = l.mb m := rfl

@[simp] theorem Lane.onPair_mb (l : Lane) (i : Fin 16) (f : Pair → Pair) (m : MbId) :
    (l.onPair i f).mb m = l.mb m := rfl

@[simp] theorem Lane.onDl_mb (l : Lane) (i : Fin 16) (f : DelayList → DelayList) (m : MbId) :
    (l.onDl i f).mb m = l.mb m := rfl

@[simp] theorem Lane.onCu_mb (l : Lane) (i : Fin 24) (f : CompareUnit → CompareUnit) (m : MbId) :
    (l.onCu i f).mb m = l.mb m := rfl

@[simp] theorem Lane.onEmul_mb (l : Lane) (i : Fin 2) (f : Emul → Emul) (m : MbId) :
    (l.onEmul i f).mb m = l.mb m := rfl

@[simp] theorem Lane.onAux_mb (l : Lane) (i : Fin 8) (f : Aux → Aux) (m : MbId) :
    (l.onAux i f).mb m = l.mb m := rfl

@[simp] theorem Lane.onAxis_slot (l : Lane) (i : AxisId) (f : Axis → Axis) (k : Fin 64) :
    (l.onAxis i f).slot k = l.slot k := rfl

@[simp] theorem Lane.onMb_slot (l : Lane) (i : MbId) (f : Mailbox → Mailbox) (k : Fin 64) :
    (l.onMb i f).slot k = l.slot k := rfl

@[simp] theorem Lane.onLink_slot (l : Lane) (i : LaneId) (f : Link → Link) (k : Fin 64) :
    (l.onLink i f).slot k = l.slot k := rfl

@[simp] theorem Lane.onChan_slot (l : Lane) (i : GreenId) (f : Channel → Channel) (k : Fin 64) :
    (l.onChan i f).slot k = l.slot k := rfl

@[simp] theorem Lane.onEp_slot (l : Lane) (i : Fin 512) (f : Endpoint → Endpoint) (k : Fin 64) :
    (l.onEp i f).slot k = l.slot k := rfl

@[simp] theorem Lane.onStream_slot (l : Lane) (i : Fin 16) (f : StreamCh → StreamCh) (k : Fin 64) :
    (l.onStream i f).slot k = l.slot k := rfl

@[simp] theorem Lane.onPair_slot (l : Lane) (i : Fin 16) (f : Pair → Pair) (k : Fin 64) :
    (l.onPair i f).slot k = l.slot k := rfl

@[simp] theorem Lane.onDl_slot (l : Lane) (i : Fin 16) (f : DelayList → DelayList) (k : Fin 64) :
    (l.onDl i f).slot k = l.slot k := rfl

@[simp] theorem Lane.onCu_slot (l : Lane) (i : Fin 24) (f : CompareUnit → CompareUnit) (k : Fin 64) :
    (l.onCu i f).slot k = l.slot k := rfl

@[simp] theorem Lane.onEmul_slot (l : Lane) (i : Fin 2) (f : Emul → Emul) (k : Fin 64) :
    (l.onEmul i f).slot k = l.slot k := rfl

@[simp] theorem Lane.onAux_slot (l : Lane) (i : Fin 8) (f : Aux → Aux) (k : Fin 64) :
    (l.onAux i f).slot k = l.slot k := rfl

end Sys2Proof.Machine
end

