-- ==== Sys2Proof/Laws/Frames.lean ====
section
/-! SUPPORT. What a reaction keeps: entering a safe state, changing the lane state, events and notices leave the collector, the
clocks, the flash, the self-test controller and the memories as they are. -/

namespace Sys2Proof.Machine

/-- The parts of a lane that no reaction to a fault touches. -/
structure Lane.Keeps (x y : Lane) : Prop where
  idx : y.idx = x.idx
  fc : y.fc = x.fc
  tm : y.tm = x.tm
  fl : y.fl = x.fl
  ses : y.ses = x.ses
  tst : y.tst = x.tst
  mem : y.mem = x.mem
  eps : y.eps = x.eps
  str : y.str = x.str

namespace Lane

theorem Keeps.refl (x : Lane) : x.Keeps x := ⟨rfl, rfl, rfl, rfl, rfl, rfl, rfl, rfl, rfl⟩

theorem Keeps.trans {x y z : Lane} (h : x.Keeps y) (k : y.Keeps z) : x.Keeps z :=
  ⟨k.idx.trans h.idx, k.fc.trans h.fc, k.tm.trans h.tm, k.fl.trans h.fl, k.ses.trans h.ses, k.tst.trans h.tst,
    k.mem.trans h.mem, k.eps.trans h.eps, k.str.trans h.str⟩

/-- A change made in turn for each of a list keeps what each of its steps keeps. -/
theorem keeps_each {α : Type} (f : α → Lane → Lane) (hf : ∀ a x, Keeps x (f a x)) :
    ∀ (as : List α) (x : Lane), x.Keeps (each as f x)
  | [], x => .refl x
  | a :: as, x => (hf a x).trans (keeps_each f hf as (f a x))

theorem keeps_onAxis (x : Lane) (nn : AxisId) (f : Axis → Axis) : x.Keeps (x.onAxis nn f) :=
  ⟨rfl, rfl, rfl, rfl, rfl, rfl, rfl, rfl, rfl⟩

theorem keeps_event (x : Lane) (n c : Nat) : x.Keeps (x.event n c) := ⟨rfl, rfl, rfl, rfl, rfl, rfl, rfl, rfl, rfl⟩

theorem keeps_irq (x : Lane) (b : W32) : x.Keeps (x.irq b) := ⟨rfl, rfl, rfl, rfl, rfl, rfl, rfl, rfl, rfl⟩

theorem keeps_notify (x : Lane) (n : Notice) : x.Keeps (x.notify n) := by
  unfold Lane.notify
  split
  · obtain ⟨h, e⟩ := x.queueNotice_eq n
    rw [e]; exact ⟨rfl, rfl, rfl, rfl, rfl, rfl, rfl, rfl, rfl⟩
  · exact ⟨rfl, rfl, rfl, rfl, rfl, rfl, rfl, rfl, rfl⟩

/-- Queueing the notices that waited keeps all that a reaction keeps. -/
theorem keeps_noticeSync (x : Lane) : x.Keeps x.noticeSync := by
  obtain ⟨h, e⟩ := x.noticeSync_eq
  rw [e]; exact ⟨rfl, rfl, rfl, rfl, rfl, rfl, rfl, rfl, rfl⟩

theorem keeps_toState (x : Lane) (v : LState) : x.Keeps (x.toState v) := by
  unfold Lane.toState
  split
  · exact .refl x
  · refine Keeps.trans ?_ (keeps_irq _ _)
    refine Keeps.trans ?_ (keeps_notify _ _)
    exact ⟨rfl, rfl, rfl, rfl, rfl, rfl, rfl, rfl, rfl⟩

theorem keeps_dlInsert (x : Lane) (d : Fin 16) (key : Int) (tag : W16) : x.Keeps (x.dlInsert d key tag none) := by
  unfold Lane.dlInsert
  split <;> exact ⟨rfl, rfl, rfl, rfl, rfl, rfl, rfl, rfl, rfl⟩

theorem keeps_driveGates (x : Lane) (nn : AxisId) : x.Keeps (x.driveGates nn) := by
  unfold Lane.driveGates
  exact (keeps_onAxis _ _ _).trans (keeps_onAxis _ _ _)

theorem keeps_pwmOff (x : Lane) (nn : AxisId) : x.Keeps (x.pwmOff nn) := keeps_onAxis _ _ _

theorem keeps_supIdle (x : Lane) (nn : AxisId) : x.Keeps (x.supIdle nn) := by
  unfold Lane.supIdle
  dsimp only
  split
  · exact keeps_onAxis _ _ _
  · exact (keeps_onAxis _ _ _).trans (keeps_onAxis _ _ _)

theorem keeps_enterSafe (x : Lane) (nn : AxisId) : x.Keeps (x.enterSafe nn) := by
  unfold Lane.enterSafe
  dsimp only
  split
  · exact .refl x
  · split
    · exact (keeps_pwmOff x nn).trans (keeps_driveGates _ _)
    · exact (((keeps_pwmOff x nn).trans (keeps_supIdle _ _)).trans (keeps_onAxis _ _ _)).trans (keeps_driveGates _ _)

theorem keeps_driveAux (x : Lane) : x.Keeps x.driveAux := ⟨rfl, rfl, rfl, rfl, rfl, rfl, rfl, rfl, rfl⟩

theorem keeps_auxAllOff (x : Lane) : x.Keeps x.auxAllOff := by
  unfold Lane.auxAllOff
  refine Keeps.trans ?_ (keeps_driveAux _)
  exact ⟨rfl, rfl, rfl, rfl, rfl, rfl, rfl, rfl, rfl⟩

theorem keeps_stopSlots (x : Lane) (b : Bool) : x.Keeps (x.stopSlots b) := ⟨rfl, rfl, rfl, rfl, rfl, rfl, rfl, rfl, rfl⟩

theorem keeps_enterLaneSafe (x : Lane) : x.Keeps x.enterLaneSafe := by
  unfold Lane.enterLaneSafe
  dsimp only
  split
  · exact .refl x
  · refine Keeps.trans ?_ (keeps_stopSlots _ _)
    refine Keeps.trans ?_ (keeps_auxAllOff _)
    refine Keeps.trans ?_ (keeps_each _ (fun nn y => keeps_enterSafe y nn) _ _)
    refine Keeps.trans ?_ (keeps_toState _ _)
    exact ⟨rfl, rfl, rfl, rfl, rfl, rfl, rfl, rfl, rfl⟩

theorem keeps_reactL (x : Lane) (b : Bool) : x.Keeps (x.reactL b) := by
  unfold Lane.reactL
  split
  · exact .refl x
  · exact .refl x
  · split
    · exact ⟨rfl, rfl, rfl, rfl, rfl, rfl, rfl, rfl, rfl⟩
    · exact keeps_enterLaneSafe x
  · split
    · exact keeps_enterLaneSafe x
    · exact .refl x
  · exact keeps_enterLaneSafe x

theorem keeps_reactA (x : Lane) (nn : AxisId) : x.Keeps (x.reactA nn) := by
  unfold Lane.reactA
  split
  · exact .refl x
  · exact (keeps_enterSafe x nn).trans (keeps_onAxis _ _ _)

theorem keeps_react (x : Lane) (news : List (Flagged × Nat)) : x.Keeps (x.react news) := by
  have h2 : ∀ (a : Flagged × Nat) (y : Lane), y.Keeps
      (if a.2 = 2 then (match y.reportAxis a.1 with | some nn => y.reactA nn | none => y) else y) := by
    intro a y
    split
    · split
      · exact keeps_reactA _ _
      · exact .refl y
    · exact .refl y
  have h3 : ∀ (y : Lane) (b : Bool), y.Keeps (if b = true then y.enterLaneSafe else y) := by
    intro y b
    split
    · exact keeps_enterLaneSafe y
    · exact .refl y
  unfold Lane.react
  refine Keeps.trans ?_ (h3 _ _)
  refine Keeps.trans ?_ (keeps_each _ h2 _ _)
  split
  · exact .refl x
  · exact keeps_reactL _ _

theorem keeps_nameAxis (x : Lane) (f : Flagged) : x.Keeps (x.nameAxis f) := by
  unfold Lane.nameAxis
  split
  · exact .refl x
  · exact keeps_onAxis _ _ _

end Lane

/-! ### The queues of the host port -/

/-- An event changes the dispatcher's queue alone. -/
theorem Lane.event_eq (x : Lane) (n c : Nat) :
    x.event n c = { x with dsp := { x.dsp with events := (x.event n c).dsp.events } } := rfl

@[simp] theorem Lane.event_hp (x : Lane) (n c : Nat) : (x.event n c).hp = x.hp := rfl

@[simp] theorem Lane.event_mb (x : Lane) (n c : Nat) (m : MbId) : (x.event n c).mb m = x.mb m := rfl

@[simp] theorem Lane.event_axis (x : Lane) (n c : Nat) (nn : AxisId) : (x.event n c).axis nn = x.axis nn := rfl

/-- A mailbox that is posted stands POSTED, last in the order of posting. -/
theorem Lane.post_order (x : Lane) (m : MbId) : (x.post m).hp.order = x.hp.order ++ [m] := rfl

@[simp] theorem Lane.post_mb_self (x : Lane) (m : MbId) : (x.post m).mb m = { x.mb m with st := .posted } := by
  have : (x.post m).mb m = (x.onMb m fun b => { b with st := .posted }).mb m := rfl
  rw [this, Lane.onMb_mb_self]

theorem Lane.post_mb_ne (x : Lane) {m k : MbId} (h : k ≠ m) : (x.post m).mb k = x.mb k := by
  have : (x.post m).mb k = (x.onMb m fun b => { b with st := .posted }).mb k := rfl
  rw [this, Lane.onMb_mb_ne _ _ h]

end Sys2Proof.Machine
end

