-- ==== Sys2Proof/Laws/Greens.lean ====
section
/-! SUPPORT. What each operation of a Green keeps: a Green in range stays in range. -/

namespace Sys2Proof.Machine

/-- Fields that Green.Ok does not speak of may change. -/
theorem Green.ok_congr {x y : Green} (h : x.Ok) (hc : y.cycle = x.cycle) (hs : y.statusPort = x.statusPort) (hr : y.rate = x.rate)
    (hp : ∀ p, (y.port p).delays = (x.port p).delays) (ha : y.arb = x.arb) (hy : y.synced = x.synced) (hb : y.block = x.block)
    (hv : y.arriving = x.arriving) : y.Ok := by
  refine ⟨hc ▸ h.cycle, hs ▸ h.status, hr ▸ h.rate, ?_, ha ▸ h.arb, ?_, ?_⟩
  · intro p d hd; exact h.delays p d (hp p ▸ hd)
  · rw [hy, hb]; exact h.block
  · rw [hy, hv]; exact h.arriving

theorem Green.ok_onPort {x : Green} (h : x.Ok) (p : Fin 19) {f : GPort → GPort}
    (hf : ∀ q : GPort, q.Recent → (f q).Recent) : (x.onPort p f).Ok := by
  refine ⟨h.cycle, h.status, h.rate, ?_, h.arb, h.block, h.arriving⟩
  intro k
  by_cases hk : k = p
  · subst hk; rw [Green.onPort_port_self]; exact hf _ (h.delays k)
  · rw [Green.onPort_port_ne _ _ hk]; exact h.delays k

theorem GPort.count_delays (q : GPort) (k : Fin 8) : (q.count k).delays = q.delays := rfl

theorem Green.ok_violate {x : Green} (h : x.Ok) (p : Fin 19) : (x.violate p).Ok := by
  refine Green.ok_onPort h p ?_
  intro q _
  have := h.delays p
  simp only []
  split <;> simpa [GPort.Recent, GPort.count] using this

theorem Green.ok_send {x : Green} (h : x.Ok) (g : GreenId) (p : Fin 19) (f : CttFrame) (u : Rat) : (x.send g p f u).Ok :=
  Green.ok_congr h rfl rfl rfl (fun _ => rfl) rfl rfl rfl rfl

theorem Green.ok_heed {x : Green} (h : x.Ok) (g : GreenId) (p : Fin 19) (f : CttFrame) (u : Rat) : (x.heed g p f u).Ok := by
  unfold Green.heed
  dsimp only
  repeat' split
  all_goals first | exact h | exact Green.ok_congr h rfl rfl rfl (fun _ => rfl) rfl rfl rfl rfl

theorem Green.ok_measure {x : Green} (h : x.Ok) (g : GreenId) (p : Fin 19) (f : CttFrame) (u : Rat) : (x.measure g p f u).Ok := by
  simp only [Green.measure]
  split
  · split
    · refine Green.ok_onPort h p ?_
      intro q hq d hd
      rcases List.mem_cons.mp hd with hd | hd
      · subst hd; exact Nat.zero_lt_succ 7
      · exact hq d hd
    · exact h
  · exact h

theorem Green.ok_forward {x : Green} (h : x.Ok) (hs : x.synced = true) (g : GreenId) (p : Fin 19) (f : CttFrame) (u : Rat) (e : SlotEntry) :
    (x.forward g p f u e).Ok := by
  simp only [Green.forward]
  refine Green.ok_heed (Green.ok_send ?_ g p f u) g p f u
  have h' := Green.ok_onPort h p (f := fun q => { q.count 0 with
    hit := true, devNow := match q.devNow with | some d => some d | none => some (u - x.cycleAt - e.startNs) }) (fun q hq => hq)
  exact ⟨h'.cycle, h'.status, h'.rate, h'.delays, h'.arb, h'.block, fun hn => by simp [Green.onPort, hs] at hn⟩

theorem Green.ok_slotIngress {x : Green} (h : x.Ok) (hs : x.synced = true) (g : GreenId) (p : Fin 19) (f : CttFrame) (u : Rat) :
    (x.slotIngress g p f u).Ok := by
  simp only [Green.slotIngress]
  split
  · refine Green.ok_onPort (Green.ok_onPort h p ?_) p ?_
    · exact fun q hq => hq
    · intro q hq; split <;> exact hq
  · split
    · exact Green.ok_forward h hs g p f u _
    · refine Green.ok_violate (Green.ok_onPort h p ?_) p
      exact fun q hq => hq
    · refine Green.ok_violate (Green.ok_onPort h p ?_) p
      exact fun q hq => hq

theorem Green.ok_synchronise {x : Green} (h : x.Ok) (p : Fin 19) : (x.synchronise p).Ok := by
  unfold Green.synchronise
  refine ⟨h.cycle, h.status, h.rate, ?_, h.arb, fun _ => rfl, fun hn => Bool.noConfusion hn⟩
  intro k
  have := h.delays k
  simpa only [GPort.Recent, Green.synchronise, Green.port, vget, Vector.get_ofFn, Fin.getElem_fin, Vector.getElem_ofFn] using this

theorem Green.ok_coldForward {x : Green} (h : x.Ok) (hs : x.synced = false) (g : GreenId) (p : Fin 19) (f : CttFrame) (t : Int) (e : SlotEntry) :
    (x.coldForward g p f t e).Ok := by
  let a : Arbitration := {
    port := p, start := t, was := x.port p, refT := x.refT, refG := x.refG, slew := x.slew, cycle := x.cycle, cycleAt := x.cycleAt,
    lastFwd := x.lastFwd, follow := x.follow, coldNow := x.coldNow, quiet := x.quiet }
  have h0 : ({ x.send g p f 0 with arb := some a } : Green).Ok :=
    ⟨h.cycle, h.status, h.rate, h.delays, fun b hb => by cases hb; exact ⟨h.cycle, h.delays p⟩, h.block, h.arriving⟩
  have h1 : ({ x.send g p f 0 with arb := some a }.onPort p fun q => q.count 0).Ok := Green.ok_onPort h0 p (fun q hq => hq)
  have hs1 : ({ x.send g p f 0 with arb := some a }.onPort p fun q => q.count 0).synced = false := hs
  unfold Green.coldForward
  dsimp only
  change Green.Ok (if _ then _ else _)
  generalize ({ x.send g p f 0 with arb := some a }.onPort p fun q => q.count 0) = y at h1 hs1
  have h2 : ∀ b lf, ({ y with block := b, lastFwd := lf } : Green).Ok := fun b lf =>
    ⟨h1.cycle, h1.status, h1.rate, h1.delays, h1.arb, fun hn => absurd hn (by simp [hs1]), h1.arriving⟩
  split
  · exact h2 _ _
  · have h8 : ∀ (F : GPort → GPort), (∀ q, (F q).delays = q.delays) → ∀ k, (vget (vmod y.ports p F) k).Recent := by
      intro F hF k
      by_cases hk : k = p
      · subst hk; rw [vget_vmod_self]; intro d hd; rw [hF] at hd; exact h1.delays k d hd
      · rw [vget_vmod_ne _ _ hk]; exact h1.delays k
    have h9 : ∀ (w : Green), w.Ok → ∀ b : Bool, (if b = true then w.synchronise p else w).Ok := by
      intro w hw b; cases b
      · exact hw
      · exact Green.ok_synchronise hw p
    refine h9 _ ?_ _
    by_cases hk : f.kind = 3
    · rw [if_pos hk]
      refine ⟨Nat.mod_lt _ (by decide), h1.status, h1.rate, ?_, h1.arb, fun hn => absurd hn (by simp [Green.onPort, hs1]), h1.arriving⟩
      exact h8 _ (fun _ => rfl)
    · rw [if_neg hk]
      refine ⟨Nat.mod_lt _ (by decide), h1.status, h1.rate, ?_, h1.arb, fun hn => absurd hn (by simp [Green.onPort, hs1]), h1.arriving⟩
      exact h8 _ (fun _ => rfl)

theorem Green.ok_coldIngress {x : Green} (h : x.Ok) (hs : x.synced = false) (g : GreenId) (p : Fin 19) (f : CttFrame) (t : Int) :
    (x.coldIngress g p f t).Ok := by
  have h1 : (x.onPort p fun q => q.count 2).Ok := Green.ok_onPort h p fun q hq => hq
  unfold Green.coldIngress
  split
  · exact h1
  · split
    · exact h
    · split
      · split
        · exact Green.ok_coldForward h hs g p f t _
        · exact h1
      · exact Green.ok_coldForward h hs g p f t _

theorem Green.ok_yield {x : Green} (h : x.Ok) {a : Arbitration} (ha : x.arb = some a) : (x.yield a).Ok := by
  have hw := h.arb a ha
  unfold Green.yield
  refine ⟨hw.1, h.status, h.rate, ?_, (fun b hb => by cases hb), fun hn => Bool.noConfusion hn, fun _ => rfl⟩
  intro k
  by_cases hk : k = a.port
  · subst hk; rw [Green.onPort_port_self]; exact hw.2
  · rw [Green.onPort_port_ne _ _ hk]; exact h.delays k

theorem Green.ok_arbitrate {x : Green} (h : x.Ok) (g : GreenId) (p : Fin 19) (f : CttFrame) (t : Int) : (x.arbitrate g p f t).Ok := by
  unfold Green.arbitrate
  split
  · rename_i a ha
    split
    · exact Green.ok_coldIngress (Green.ok_yield h ha) rfl g p f t
    · exact Green.ok_onPort h p fun q hq => hq
  · exact h

theorem Green.ok_setRoles {x : Green} (h : x.Ok) (g : GreenId) : (x.setRoles g).Ok := by
  unfold Green.setRoles
  refine Green.ok_congr h rfl rfl rfl ?_ rfl rfl rfl rfl
  intro p
  simp [Green.port, vget]

theorem Green.ok_install {x : Green} (h : x.Ok) (g : GreenId) (c : SchedChunk) (ps : List Bytes) : (x.install g c ps).Ok := by
  simp only [Green.install]
  split
  · refine Green.ok_setRoles (x := { x with cascade := some (ps.headD []) }) ?_ g
    exact ⟨h.cycle, h.status, h.rate, h.delays, h.arb, h.block, h.arriving⟩
  · split
    · exact h
    · exact ⟨h.cycle, h.status, h.rate, h.delays, h.arb, fun _ => rfl, fun _ => rfl⟩

theorem Green.ok_schedule {x : Green} (h : x.Ok) (g : GreenId) (p : Fin 19) (f : CttFrame) (t : Int) : (x.schedule g p f t).Ok := by
  simp only [Green.schedule]
  split
  · split
    · refine Green.ok_install ?_ _ _ _
      exact Green.ok_congr h rfl rfl rfl (fun _ => rfl) rfl rfl rfl rfl
    · exact Green.ok_congr h rfl rfl rfl (fun _ => rfl) rfl rfl rfl rfl
  · exact h

theorem Green.ok_ingress {x : Green} (h : x.Ok) (g : GreenId) (p : Fin 19) (f : CttFrame) (t : Int) : (x.ingress g p f t).Ok := by
  have h1 : (if f.fcsOk = true then x else x.onPort p fun q => q.count 4).Ok := by
    split
    · exact h
    · exact Green.ok_onPort h p fun q hq => hq
  unfold Green.ingress
  dsimp only
  generalize (if f.fcsOk = true then x else x.onPort p fun q => q.count 4) = y at h1
  have h2 : (if p.val < 16 then y.onPort p fun q => q.countFec f.fec else y).Ok := by
    split
    · exact Green.ok_onPort h1 p fun q hq => hq
    · exact h1
  generalize (if p.val < 16 then y.onPort p fun q => q.countFec f.fec else y) = z at h2
  split
  · exact h
  · split
    · exact Green.ok_schedule h2 g p f t
    · replace h2 := Green.ok_measure h2 g p f (z.timeAt t)
      generalize z.measure g p f (z.timeAt t) = z at h2
      split
      · exact Green.ok_arbitrate h2 g p f t
      · split
        · rename_i hs; exact Green.ok_slotIngress h2 hs g p f _
        · rename_i hs; exact Green.ok_coldIngress h2 (by simpa using hs) g p f t

theorem Green.ok_truncate {x : Green} (h : x.Ok) (p : Fin 19) : (x.truncate p).Ok := by
  simp only [Green.truncate]
  split
  · exact h
  · refine Green.ok_violate (Green.ok_onPort ?_ p ?_) p
    · exact ⟨h.cycle, h.status, h.rate, h.delays, h.arb, h.block, fun hs => by simp [h.arriving hs]⟩
    · exact fun q hq => hq

theorem clampPpm_500 (v : Rat) : -(1 / 2000) ≤ clampPpm 500 v ∧ clampPpm 500 v ≤ 1 / 2000 := by
  have e : mkRat ((500 : Nat) : Int) 1000000 = 1 / 2000 := by norm_num [Rat.mkRat_eq_div]
  simp only [clampPpm, clamp]
  rw [e]
  split
  · norm_num
  · split
    · norm_num
    · rename_i h1 h2; exact ⟨by linarith [not_lt.mp h1], not_lt.mp h2⟩

theorem Green.ok_correct {x : Green} (h : x.Ok) : x.correct.Ok := by
  simp only [Green.correct]
  split
  · exact Green.ok_congr h rfl rfl rfl (fun _ => rfl) rfl rfl rfl rfl
  · split
    · exact Green.ok_congr h rfl rfl rfl (fun _ => rfl) rfl rfl rfl rfl
    · exact ⟨h.cycle, h.status, clampPpm_500 _, h.delays, h.arb, h.block, h.arriving⟩

theorem recentDelays_lt (ds : List (Nat × Rat)) : ∀ d ∈ recentDelays ds, d.1 < 8 := by
  intro d hd
  simpa using (List.mem_filter.mp hd).2

theorem Green.ok_cycleEnd {x : Green} (h : x.Ok) : x.cycleEnd.Ok := by
  simp only [Green.cycleEnd]
  split
  · exact h
  · rename_i hc
    have h1 := Green.ok_correct h
    refine ⟨Nat.mod_lt _ (by decide), h1.status, h1.rate, ?_, h1.arb, h1.block, fun _ => rfl⟩
    intro p d hd
    have hq : d ∈ recentDelays (x.correct.port p).delays := by simpa [Green.port, vget, GPort.cycleEnd] using hd
    exact recentDelays_lt _ d hq

theorem Green.ok_syncLoss {x : Green} (h : x.Ok) : x.syncLoss.Ok := by
  simp only [Green.syncLoss]
  split
  · exact ⟨h.cycle, h.status, h.rate, h.delays, h.arb, fun _ => rfl, fun _ => rfl⟩
  · exact h

theorem Green.ok_blockEnd {x : Green} (h : x.Ok) : x.blockEnd.Ok :=
  ⟨h.cycle, h.status, h.rate, h.delays, h.arb, fun _ => rfl, h.arriving⟩

theorem Green.ok_sendStatus {x : Green} (h : x.Ok) (g : GreenId) : (x.sendStatus g).Ok := by
  simp only [Green.sendStatus]
  split
  · exact h
  · exact ⟨h.cycle, Nat.mod_lt _ (by decide), h.rate, h.delays, h.arb, h.block, h.arriving⟩

theorem Green.ok_linkChange {x : Green} (h : x.Ok) (p : Fin 16) (c : LinkChange) : (x.linkChange p c).Ok := by
  simp only [Green.linkChange]
  split
  · exact h
  · refine Green.ok_onPort h _ ?_
    intro q hq
    cases c
    · simp only []; split <;> exact hq
    · simp only []; split <;> exact hq
    · exact hq

theorem Green.ok_afterReset (x : Green) : x.afterReset.Ok := by
  have hd : ∀ p : Fin 19, (Green.cold.port p).delays = [] := by decide
  unfold Green.afterReset
  dsimp only
  refine ⟨(by decide : Green.cold.cycle < 64), (by decide : Green.cold.statusPort < 16),
    (by simp [Green.cold] : -(1 / 2000) ≤ Green.cold.rate ∧ Green.cold.rate ≤ 1 / 2000), ?_, (fun a ha => by cases ha),
    fun _ => rfl, fun _ => rfl⟩
  intro p d h
  have : d ∈ (Green.cold.port p).delays := by
    simp only [Green.port, vget, Vector.getElem_ofFn] at h
    split at h <;> exact h
  rw [hd p] at this; cases this

theorem State.greensOk_onGreen {s : State} (h : s.GreensOk) (g : GreenId) {f : Green → Green} (hf : ∀ x : Green, x.Ok → (f x).Ok) :
    (s.onGreen g f).GreensOk := by
  intro k
  by_cases hk : k = g
  · subst hk; rw [State.onGreen_green_self]; exact hf _ (h k)
  · rw [State.onGreen_green_ne _ _ hk]; exact h k

end Sys2Proof.Machine
end

