-- ==== Sys2Proof/Laws/Memory.lean ====
section
/-! SUPPORT. The memories of a lane keep their canonical form (R37, R349, R481): the writers of trace window, stream memory and Granary,
and lane reset. Nothing else in the model assigns one of the three. -/

namespace Sys2Proof.Machine

/-- A lane whose three memories are as another's stands as it does. -/
theorem Lane.MemsOk.of_mem {x y : Lane} (h : x.MemsOk) (e : y.mem = x.mem) : y.MemsOk := by
  simpa only [Lane.MemsOk, e] using h

/-- Words written to the Granary, by a commit that completes or is cut (R349, R350). -/
theorem Lane.MemsOk.granary {x : Lane} (h : x.MemsOk) (a : Nat) (bs : Bytes) :
    ({ x with mem := { x.mem with granary := memWriteN x.mem.granary a bs } }).MemsOk :=
  ⟨h.1, h.2.1, memWriteN_ok bs _ a h.2.2⟩

/-- A producer's payload is no memory of the three. -/
theorem Lane.writePdu_mem (x : Lane) (e : Fin 512) (off : Nat) (bs : Bytes) (send : Bool) :
    (x.writePdu e off bs send).mem = x.mem := by
  unfold Lane.writePdu
  by_cases h : connRole (x.connRec e) ≠ 1 <;> simp only [h, if_true, if_false, Lane.onEp, not_false_eq_true, ne_eq]

/-- One byte that a stream writes (R483). -/
theorem Lane.MemsOk.streamPut {x : Lane} (h : x.MemsOk) (a : Nat) (b : Byte) : (x.streamPut a b).MemsOk := by
  unfold Lane.streamPut
  split
  · exact h.of_mem rfl
  · exact h.of_mem (Lane.writePdu_mem ..)
  · exact ⟨memWrite_ok _ _ _ h.1, h.2.1, h.2.2⟩
  · exact ⟨h.1, memWrite_ok _ _ _ h.2.1, h.2.2⟩
  · exact h

/-- The bytes of a stream's beat (R483). -/
theorem Lane.MemsOk.streamPutN {c : Fin 16} (bs : Bytes) : ∀ {x : Lane} (j : Nat), x.MemsOk → (x.streamPutN c j bs).MemsOk := by
  induction bs with
  | nil => exact fun _ h => h
  | cons b bs ih => exact fun j h => ih (j + 1) (h.streamPut _ b)

/-- A commit that stops leaves its first words (R350). -/
theorem Lane.MemsOk.stopCommit {x : Lane} (h : x.MemsOk) (nn : AxisId) : (x.stopCommit nn).MemsOk := by
  unfold Lane.stopCommit
  split
  · exact h
  · exact (Lane.MemsOk.granary (x := x.useFree) (h.of_mem rfl) _ _).of_mem rfl

/-- Commits of several axes stop. -/
theorem Lane.MemsOk.stopCommits {x : Lane} (ns : List AxisId) : x.MemsOk → (each ns (fun nn l => l.stopCommit nn) x).MemsOk := by
  induction ns generalizing x with
  | nil => exact id
  | cons n ns ih => exact fun h => ih (h.stopCommit n)

/-- Lane reset empties trace window and stream memory (R501). -/
theorem Lane.laneReset_trace (x : Lane) (power : Bool) : (x.laneReset power).mem.trace = [] := by
  simp only [Lane.laneReset, Memories.cold]

/-- Lane reset empties trace window and stream memory (R501). -/
theorem Lane.laneReset_stream (x : Lane) (power : Bool) : (x.laneReset power).mem.stream = [] := by
  simp only [Lane.laneReset, Memories.cold]

/-- Lane reset keeps the Granary unless it is a power-on reset (R501, R503). -/
theorem Lane.laneReset_granary (x : Lane) (power : Bool) :
    (x.laneReset power).mem.granary = if power then [] else (each (idxs 12) (fun nn l => l.stopCommit nn) x).mem.granary := by
  cases power <;> simp only [Lane.laneReset, if_true, if_false, Bool.false_eq_true]

/-- Lane reset keeps the form. -/
theorem Lane.MemsOk.laneReset {x : Lane} (h : x.MemsOk) (power : Bool) : (x.laneReset power).MemsOk := by
  have k := h.stopCommits (idxs 12)
  generalize e : each (idxs 12) (fun nn l => l.stopCommit nn) x = y at k
  unfold Lane.MemsOk
  rw [Lane.laneReset_trace, Lane.laneReset_stream, Lane.laneReset_granary, e]
  cases power
  · exact ⟨rfl, rfl, k.2.2⟩
  · exact ⟨rfl, rfl, rfl⟩

end Sys2Proof.Machine
end

