-- ==== Sys2Proof/Laws/PerInstr.lean ====
section
/-! SUPPORT. What holds of every command as syntax: each acts on one region, except the two rows of the power branches. -/

namespace Sys2Proof.Laws.Region

/-- The command names a region, unless it is a row of the power branches at the home ports. -/
def Statement : Instr → Prop
  | .branchOverload _ _ _ => True
  | .pdClassification _ _ => True
  | i => i.region.isSome = true

theorem hpRead (l : LaneId) (addr : BitVec 24) (len : Nat) : Statement (.hpRead l addr len) := rfl
theorem hpWrite (l : LaneId) (addr : BitVec 24) (data : Bytes) : Statement (.hpWrite l addr data) := rfl
theorem badInstr (l : LaneId) (code : Byte) : Statement (.badInstr l code) := rfl
theorem hpRegisterWrite (l : LaneId) (off : Nat) (val : W32) : Statement (.hpRegisterWrite l off val) := rfl
theorem ring (l : LaneId) (mask : BitVec 4) : Statement (.ring l mask) := rfl
theorem ack (l : LaneId) (mask : BitVec 4) : Statement (.ack l mask) := rfl
theorem hpIrqStatusClear (l : LaneId) (val : W32) : Statement (.hpIrqStatusClear l val) := rfl
theorem hpErrClear (l : LaneId) (val : W32) : Statement (.hpErrClear l val) := rfl
theorem mbAccept (l : LaneId) : Statement (.mbAccept l) := rfl
theorem mbDone (l : LaneId) (m : MbId) : Statement (.mbDone l m) := rfl
theorem gamarRestart (l : LaneId) : Statement (.gamarRestart l) := rfl
theorem sessionTimeout (l : LaneId) : Statement (.sessionTimeout l) := rfl
theorem passwordLockoutEnd (l : LaneId) : Statement (.passwordLockoutEnd l) := rfl
theorem hello (l : LaneId) (m : MbId) : Statement (.hello l m) := rfl
theorem bye (l : LaneId) (m : MbId) : Statement (.bye l m) := rfl
theorem ping (l : LaneId) (m : MbId) : Statement (.ping l m) := rfl
theorem versionsGet (l : LaneId) (m : MbId) : Statement (.versionsGet l m) := rfl
theorem almanacRead (l : LaneId) (m : MbId) : Statement (.almanacRead l m) := rfl
theorem infoGet (l : LaneId) (m : MbId) : Statement (.infoGet l m) := rfl
theorem serialGet (l : LaneId) (m : MbId) : Statement (.serialGet l m) := rfl
theorem sessionOpen (l : LaneId) (m : MbId) : Statement (.sessionOpen l m) := rfl
theorem recordRead (l : LaneId) (m : MbId) : Statement (.recordRead l m) := rfl
theorem recordWrite (l : LaneId) (m : MbId) : Statement (.recordWrite l m) := rfl
theorem commit (l : LaneId) (m : MbId) : Statement (.commit l m) := rfl
theorem commitDone (l : LaneId) : Statement (.commitDone l) := rfl
theorem discard (l : LaneId) (m : MbId) : Statement (.discard l m) := rfl
theorem sessionClose (l : LaneId) (m : MbId) : Statement (.sessionClose l m) := rfl
theorem configSeal (l : LaneId) (m : MbId) : Statement (.configSeal l m) := rfl
theorem passwordChange (l : LaneId) (m : MbId) : Statement (.passwordChange l m) := rfl
theorem workshopEnter (l : LaneId) (m : MbId) : Statement (.workshopEnter l m) := rfl
theorem workshopLeave (l : LaneId) (m : MbId) : Statement (.workshopLeave l m) := rfl
theorem graphLoad (l : LaneId) (m : MbId) : Statement (.graphLoad l m) := rfl
theorem graphStart (l : LaneId) (m : MbId) : Statement (.graphStart l m) := rfl
theorem graphStop (l : LaneId) (m : MbId) : Statement (.graphStop l m) := rfl
theorem graphUnload (l : LaneId) (m : MbId) : Statement (.graphUnload l m) := rfl
theorem graphStatus (l : LaneId) (m : MbId) : Statement (.graphStatus l m) := rfl
theorem coefWrite (l : LaneId) (m : MbId) : Statement (.coefWrite l m) := rfl
theorem coefRead (l : LaneId) (m : MbId) (during : Bool) : Statement (.coefRead l m during) := rfl
theorem axisStatus (l : LaneId) (m : MbId) : Statement (.axisStatus l m) := rfl
theorem axisEnable (l : LaneId) (m : MbId) : Statement (.axisEnable l m) := rfl
theorem axisDisable (l : LaneId) (m : MbId) : Statement (.axisDisable l m) := rfl
theorem axisHandover (l : LaneId) (m : MbId) : Statement (.axisHandover l m) := rfl
theorem granaryRead (l : LaneId) (m : MbId) : Statement (.granaryRead l m) := rfl
theorem faultRead (l : LaneId) (m : MbId) : Statement (.faultRead l m) := rfl
theorem faultClear (l : LaneId) (m : MbId) : Statement (.faultClear l m) := rfl
theorem healthRead (l : LaneId) (m : MbId) : Statement (.healthRead l m) := rfl
theorem noticeRead (l : LaneId) (m : MbId) : Statement (.noticeRead l m) := rfl
theorem portStatus (l : LaneId) (m : MbId) : Statement (.portStatus l m) := rfl
theorem connStatus (l : LaneId) (m : MbId) : Statement (.connStatus l m) := rfl
theorem connOpen (l : LaneId) (m : MbId) : Statement (.connOpen l m) := rfl
theorem connClose (l : LaneId) (m : MbId) : Statement (.connClose l m) := rfl
theorem streamStart (l : LaneId) (m : MbId) : Statement (.streamStart l m) := rfl
theorem streamStop (l : LaneId) (m : MbId) : Statement (.streamStop l m) := rfl
theorem streamStatus (l : LaneId) (m : MbId) : Statement (.streamStatus l m) := rfl
theorem streamResume (l : LaneId) (m : MbId) : Statement (.streamResume l m) := rfl
theorem selftestStatus (l : LaneId) (m : MbId) : Statement (.selftestStatus l m) := rfl
theorem selftestRun (l : LaneId) (m : MbId) : Statement (.selftestRun l m) := rfl
theorem selftestAbort (l : LaneId) (m : MbId) : Statement (.selftestAbort l m) := rfl
theorem timeGet (l : LaneId) (m : MbId) : Statement (.timeGet l m) := rfl
theorem angleGet (l : LaneId) (m : MbId) : Statement (.angleGet l m) := rfl
theorem logRead (l : LaneId) (m : MbId) : Statement (.logRead l m) := rfl
theorem logStatus (l : LaneId) (m : MbId) : Statement (.logStatus l m) := rfl
theorem logArchive (l : LaneId) (m : MbId) : Statement (.logArchive l m) := rfl
theorem handoverLineChange (l : LaneId) (k : LaneId) (alive : Bool) : Statement (.handoverLineChange l k alive) := rfl
theorem handoverLineFailed (l : LaneId) (k : LaneId) (high : Bool) : Statement (.handoverLineFailed l k high) := rfl
theorem linkUp (l : LaneId) (k : LaneId) : Statement (.linkUp l k) := rfl
theorem linkFrameReceive (l : LaneId) (k : LaneId) (f : LinkFrame) : Statement (.linkFrameReceive l k f) := rfl
theorem linkFrameSend (l : LaneId) (k : LaneId) : Statement (.linkFrameSend l k) := rfl
theorem linkIdleFrame (l : LaneId) (k : LaneId) : Statement (.linkIdleFrame l k) := rfl
theorem linkDown (l : LaneId) (k : LaneId) : Statement (.linkDown l k) := rfl
theorem branchOverload (g : GreenId) (k : LaneId) (star : Bool) : Statement (.branchOverload g k star) := trivial
theorem heartbeatToggle (l : LaneId) : Statement (.heartbeatToggle l) := rfl
theorem heartbeatLoss (l : LaneId) : Statement (.heartbeatLoss l) := rfl
theorem clockFault (c : ClockId) : Statement (.clockFault c) := by cases c <;> rfl
theorem greenLost (l : LaneId) (g : GreenId) : Statement (.greenLost l g) := rfl
theorem holdEnd (l : LaneId) : Statement (.holdEnd l) := rfl
theorem rampZeroEnd (l : LaneId) (nn : AxisId) : Statement (.rampZeroEnd l nn) := rfl
theorem rejoinDelayExpire (l : LaneId) : Statement (.rejoinDelayExpire l) := rfl
theorem runtimeTestComplete (l : LaneId) (r : RuntimeResult) : Statement (.runtimeTestComplete l r) := rfl
theorem rejoinTimeout (l : LaneId) : Statement (.rejoinTimeout l) := rfl
theorem timekeeperTick (l : LaneId) : Statement (.timekeeperTick l) := rfl
theorem resortComplete (l : LaneId) (d : Fin 16) : Statement (.resortComplete l d) := rfl
theorem dlRequestApply (l : LaneId) (d : Fin 16) : Statement (.dlRequestApply l d) := rfl
theorem cmpRequestApply (l : LaneId) (u : Fin 24) : Statement (.cmpRequestApply l u) := rfl
theorem triggerEvent (l : LaneId) : Statement (.triggerEvent l) := rfl
theorem dispatchCycle (l : LaneId) : Statement (.dispatchCycle l) := rfl
theorem nodeComplete (l : LaneId) (x : Fin 4) : Statement (.nodeComplete l x) := rfl
theorem mov (l : LaneId) (x : Fin 4) : Statement (.mov l x) := rfl
theorem add (l : LaneId) (x : Fin 4) : Statement (.add l x) := rfl
theorem sub (l : LaneId) (x : Fin 4) : Statement (.sub l x) := rfl
theorem mul (l : LaneId) (x : Fin 4) : Statement (.mul l x) := rfl
theorem mac (l : LaneId) (x : Fin 4) : Statement (.mac l x) := rfl
theorem neg (l : LaneId) (x : Fin 4) : Statement (.neg l x) := rfl
theorem abs (l : LaneId) (x : Fin 4) : Statement (.abs l x) := rfl
theorem shift (l : LaneId) (x : Fin 4) : Statement (.shift l x) := rfl
theorem div (l : LaneId) (x : Fin 4) : Statement (.div l x) := rfl
theorem recip (l : LaneId) (x : Fin 4) : Statement (.recip l x) := rfl
theorem sqrt (l : LaneId) (x : Fin 4) : Statement (.sqrt l x) := rfl
theorem dot (l : LaneId) (x : Fin 4) : Statement (.dot l x) := rfl
theorem sum (l : LaneId) (x : Fin 4) : Statement (.sum l x) := rfl
theorem pack (l : LaneId) (x : Fin 4) : Statement (.pack l x) := rfl
theorem select (l : LaneId) (x : Fin 4) : Statement (.select l x) := rfl
theorem clarke (l : LaneId) (x : Fin 4) : Statement (.clarke l x) := rfl
theorem park (l : LaneId) (x : Fin 4) : Statement (.park l x) := rfl
theorem ipark (l : LaneId) (x : Fin 4) : Statement (.ipark l x) := rfl
theorem svm (l : LaneId) (x : Fin 4) : Statement (.svm l x) := rfl
theorem pi (l : LaneId) (x : Fin 4) : Statement (.pi l x) := rfl
theorem pid (l : LaneId) (x : Fin 4) : Statement (.pid l x) := rfl
theorem limit (l : LaneId) (x : Fin 4) : Statement (.limit l x) := rfl
theorem rate (l : LaneId) (x : Fin 4) : Statement (.rate l x) := rfl
theorem fo (l : LaneId) (x : Fin 4) : Statement (.fo l x) := rfl
theorem biquad (l : LaneId) (x : Fin 4) : Statement (.biquad l x) := rfl
theorem notch (l : LaneId) (x : Fin 4) : Statement (.notch l x) := rfl
theorem lut (l : LaneId) (x : Fin 4) : Statement (.lut l x) := rfl
theorem min (l : LaneId) (x : Fin 4) : Statement (.min l x) := rfl
theorem max (l : LaneId) (x : Fin 4) : Statement (.max l x) := rfl
theorem deadzone (l : LaneId) (x : Fin 4) : Statement (.deadzone l x) := rfl
theorem sincos (l : LaneId) (x : Fin 4) : Statement (.sincos l x) := rfl
theorem atan2 (l : LaneId) (x : Fin 4) : Statement (.atan2 l x) := rfl
theorem mag (l : LaneId) (x : Fin 4) : Statement (.mag l x) := rfl
theorem pll (l : LaneId) (x : Fin 4) : Statement (.pll l x) := rfl
theorem bemf (l : LaneId) (x : Fin 4) : Statement (.bemf l x) := rfl
theorem hfi (l : LaneId) (x : Fin 4) : Statement (.hfi l x) := rfl
theorem satp (l : LaneId) (x : Fin 4) : Statement (.satp l x) := rfl
theorem rdAdc (l : LaneId) (x : Fin 4) : Statement (.rdAdc l x) := rfl
theorem rdPos (l : LaneId) (x : Fin 4) : Statement (.rdPos l x) := rfl
theorem rdPdu (l : LaneId) (x : Fin 4) : Statement (.rdPdu l x) := rfl
theorem rdTrig (l : LaneId) (x : Fin 4) : Statement (.rdTrig l x) := rfl
theorem rdFlags (l : LaneId) (x : Fin 4) : Statement (.rdFlags l x) := rfl
theorem wrDuty (l : LaneId) (x : Fin 4) : Statement (.wrDuty l x) := rfl
theorem wrMask (l : LaneId) (x : Fin 4) : Statement (.wrMask l x) := rfl
theorem commut (l : LaneId) (x : Fin 4) : Statement (.commut l x) := rfl
theorem wrAngle (l : LaneId) (x : Fin 4) : Statement (.wrAngle l x) := rfl
theorem wrPdu (l : LaneId) (x : Fin 4) : Statement (.wrPdu l x) := rfl
theorem emit (l : LaneId) (x : Fin 4) : Statement (.emit l x) := rfl
theorem ckpt (l : LaneId) (x : Fin 4) : Statement (.ckpt l x) := rfl
theorem coord (l : LaneId) (x : Fin 4) : Statement (.coord l x) := rfl
theorem flagclr (l : LaneId) (x : Fin 4) : Statement (.flagclr l x) := rfl
theorem dlInsert (l : LaneId) (x : Fin 4) : Statement (.dlInsert l x) := rfl
theorem dlCancel (l : LaneId) (x : Fin 4) : Statement (.dlCancel l x) := rfl
theorem cmpArm (l : LaneId) (x : Fin 4) : Statement (.cmpArm l x) := rfl
theorem cmpDisarm (l : LaneId) (x : Fin 4) : Statement (.cmpDisarm l x) := rfl
theorem ckptPost (l : LaneId) (k : Fin 64) : Statement (.ckptPost l k) := rfl
theorem emitRaise (l : LaneId) : Statement (.emitRaise l) := rfl
theorem periodStart (l : LaneId) (c : CarrierId) : Statement (.periodStart l c) := rfl
theorem periodMid (l : LaneId) (nn : AxisId) : Statement (.periodMid l nn) := rfl
theorem cotFixedEnd (l : LaneId) (c : CarrierId) : Statement (.cotFixedEnd l c) := rfl
theorem cotLimitExpire (l : LaneId) (c : CarrierId) : Statement (.cotLimitExpire l c) := rfl
theorem thresholdCrossing (l : LaneId) (c : CarrierId) : Statement (.thresholdCrossing l c) := rfl
theorem deadTimeEnd (l : LaneId) (nn : AxisId) (sw : Switch) : Statement (.deadTimeEnd l nn sw) := rfl
theorem delayLineCalibration (l : LaneId) (good : Bool) : Statement (.delayLineCalibration l good) := rfl
theorem shootThrough (l : LaneId) (nn : AxisId) (p : Phase) : Statement (.shootThrough l nn p) := rfl
theorem tripInputChange (l : LaneId) (k : Fin 4) (active : Bool) : Statement (.tripInputChange l k active) := rfl
theorem auxPullEnd (l : LaneId) (x : Fin 8) : Statement (.auxPullEnd l x) := rfl
theorem debugHalt (l : LaneId) : Statement (.debugHalt l) := rfl
theorem debugResume (l : LaneId) : Statement (.debugResume l) := rfl
theorem gateCommand (l : LaneId) (t : GateId) (on : Bool) : Statement (.gateCommand l t on) := rfl
theorem readbackMismatch (l : LaneId) (nn : AxisId) (sw : Switch) (high : Bool) : Statement (.readbackMismatch l nn sw high) := rfl
theorem blankingEnd (l : LaneId) (nn : AxisId) (sw : Switch) : Statement (.blankingEnd l nn sw) := rfl
theorem shortDetected (l : LaneId) (nn : AxisId) (sw : Switch) (cell : Bool) : Statement (.shortDetected l nn sw cell) := rfl
theorem senseCellFastTrip (l : LaneId) (nn : AxisId) (sw : Switch) : Statement (.senseCellFastTrip l nn sw) := rfl
theorem tltoPlateauEnd (l : LaneId) (nn : AxisId) (sw : Switch) : Statement (.tltoPlateauEnd l nn sw) := rfl
theorem softTurnOffEnd (l : LaneId) (nn : AxisId) (sw : Switch) : Statement (.softTurnOffEnd l nn sw) := rfl
theorem vgdUvlo (l : LaneId) (g : Fin 4) : Statement (.vgdUvlo l g) := rfl
theorem vgdValid (l : LaneId) (g : Fin 4) : Statement (.vgdValid l g) := rfl
theorem floatUvlo (l : LaneId) (nn : AxisId) (p : Phase) (low : Bool) : Statement (.floatUvlo l nn p low) := rfl
theorem gdenLow (l : LaneId) : Statement (.gdenLow l) := rfl
theorem gdenRise (l : LaneId) (longLow : Bool) : Statement (.gdenRise l longLow) := rfl
theorem adcConversionComplete (l : LaneId) (a : Fin 6) (raw : Int) : Statement (.adcConversionComplete l a raw) := rfl
theorem backgroundSlotForce (l : LaneId) (a : Fin 6) : Statement (.backgroundSlotForce l a) := rfl
theorem overcurrentComparator (l : LaneId) (nn : AxisId) (p : Phase) (active : Bool) : Statement (.overcurrentComparator l nn p active) := rfl
theorem busOvervoltage (l : LaneId) (active : Bool) : Statement (.busOvervoltage l active) := rfl
theorem encoderTransition (l : LaneId) (nn : AxisId) (a : Bool) (b : Bool) (z : Bool) : Statement (.encoderTransition l nn a b z) := rfl
theorem hallChange (l : LaneId) (nn : AxisId) (h : BitVec 3) : Statement (.hallChange l nn h) := rfl
theorem ssiBurstStart (l : LaneId) (nn : AxisId) : Statement (.ssiBurstStart l nn) := rfl
theorem ssiWordReceive (l : LaneId) (nn : AxisId) (w : SsiWord) : Statement (.ssiWordReceive l nn w) := rfl
theorem sentFrameReceive (l : LaneId) (nn : AxisId) (w : SentFrame) : Statement (.sentFrameReceive l nn w) := rfl
theorem feedbackTimeout (l : LaneId) (nn : AxisId) : Statement (.feedbackTimeout l nn) := rfl
theorem sensorSupplyFault (l : LaneId) (nn : AxisId) : Statement (.sensorSupplyFault l nn) := rfl
theorem sensorSupplySettle (l : LaneId) (nn : AxisId) : Statement (.sensorSupplySettle l nn) := rfl
theorem speedStop (l : LaneId) (nn : AxisId) : Statement (.speedStop l nn) := rfl
theorem emulationStep (l : LaneId) (e : Fin 2) : Statement (.emulationStep l e) := rfl
theorem lockWriteTimeout (l : LaneId) (nn : AxisId) : Statement (.lockWriteTimeout l nn) := rfl
theorem hfiAcqTimeout (l : LaneId) (nn : AxisId) : Statement (.hfiAcqTimeout l nn) := rfl
theorem polarityEnd (l : LaneId) (nn : AxisId) : Statement (.polarityEnd l nn) := rfl
theorem catchWindowEnd (l : LaneId) (nn : AxisId) : Statement (.catchWindowEnd l nn) := rfl
theorem coastEnd (l : LaneId) (nn : AxisId) : Statement (.coastEnd l nn) := rfl
theorem catchCountClear (l : LaneId) (nn : AxisId) : Statement (.catchCountClear l nn) := rfl
theorem announceRepeat (l : LaneId) (nn : AxisId) : Statement (.announceRepeat l nn) := rfl
theorem granaryCommitDone (l : LaneId) (nn : AxisId) : Statement (.granaryCommitDone l nn) := rfl
theorem takeSend (l : LaneId) (nn : AxisId) : Statement (.takeSend l nn) := rfl
theorem takeWaitTimeout (l : LaneId) (nn : AxisId) : Statement (.takeWaitTimeout l nn) := rfl
theorem standbyTestRotation (l : LaneId) (nn : AxisId) (r : StandbyResult) : Statement (.standbyTestRotation l nn r) := rfl
theorem faultReport (l : LaneId) (rs : List Report) : Statement (.faultReport l rs) := rfl
theorem faultLineInvalid (l : LaneId) (src : Fin 128) (code : Bool) : Statement (.faultLineInvalid l src code) := rfl
theorem complementMismatch (l : LaneId) (off : Nat) : Statement (.complementMismatch l off) := rfl
theorem signatureCompare (l : LaneId) (cycles : List PairCycle) (main : Comparator) (dup : Comparator) : Statement (.signatureCompare l cycles main dup) := rfl
theorem delayFault (l : LaneId) : Statement (.delayFault l) := rfl
theorem commitBufferFull (b : StoreBurst) : Statement (.commitBufferFull b) := rfl
theorem selftestSliceStart (l : LaneId) : Statement (.selftestSliceStart l) := rfl
theorem selftestSliceEnd (l : LaneId) (sig : W64) : Statement (.selftestSliceEnd l sig) := rfl
theorem sliceTimeout (l : LaneId) : Statement (.sliceTimeout l) := rfl
theorem sealWrite (l : LaneId) : Statement (.sealWrite l) := rfl
theorem greenFrameIngress (g : GreenId) (p : Fin 19) (f : CttFrame) (t : Int) : Statement (.greenFrameIngress g p f t) := rfl
theorem slotEndTruncate (g : GreenId) (p : Fin 19) : Statement (.slotEndTruncate g p) := rfl
theorem greenCycleEnd (g : GreenId) : Statement (.greenCycleEnd g) := rfl
theorem greenStatusSend (g : GreenId) : Statement (.greenStatusSend g) := rfl
theorem portLinkChange (g : GreenId) (p : Fin 16) (c : LinkChange) : Statement (.portLinkChange g p c) := rfl
theorem greenBlockEnd (g : GreenId) : Statement (.greenBlockEnd g) := rfl
theorem greenSyncLoss (g : GreenId) : Statement (.greenSyncLoss g) := rfl
theorem laneFrameReceive (l : LaneId) (g : GreenId) (f : CttFrame) (t : Int) : Statement (.laneFrameReceive l g f t) := rfl
theorem slotTransmit (l : LaneId) (g : GreenId) (slot : Fin 1024) : Statement (.slotTransmit l g slot) := rfl
theorem pduPack (l : LaneId) (slot : Fin 1024) : Statement (.pduPack l slot) := rfl
theorem scheduleDownloadSend (l : LaneId) (g : GreenId) : Statement (.scheduleDownloadSend l g) := rfl
theorem serviceConnLost (l : LaneId) (c : Fin 4) : Statement (.serviceConnLost l c) := rfl
theorem clusterCycleStart (l : LaneId) : Statement (.clusterCycleStart l) := rfl
theorem listenTimeout (l : LaneId) : Statement (.listenTimeout l) := rfl
theorem coldstartMaster (l : LaneId) : Statement (.coldstartMaster l) := rfl
theorem integrationTimeout (l : LaneId) : Statement (.integrationTimeout l) := rfl
theorem passiveTimeout (l : LaneId) : Statement (.passiveTimeout l) := rfl
theorem masterSuccession (l : LaneId) : Statement (.masterSuccession l) := rfl
theorem connWatchdogExpire (l : LaneId) (e : Fin 512) : Statement (.connWatchdogExpire l e) := rfl
theorem producerStale (l : LaneId) (e : Fin 512) : Statement (.producerStale l e) := rfl
theorem inputSample (l : LaneId) (c1 : BitVec 16) (c2 : BitVec 16) : Statement (.inputSample l c1 c2) := rfl
theorem testPulseStart (l : LaneId) (k : Fin 4) : Statement (.testPulseStart l k) := rfl
theorem testPulseCheck (l : LaneId) (k : Fin 4) (c1 : BitVec 16) (c2 : BitVec 16) : Statement (.testPulseCheck l k c1 c2) := rfl
theorem testPulseEnd (l : LaneId) (k : Fin 4) : Statement (.testPulseEnd l k) := rfl
theorem discrepancyTimeout (l : LaneId) (k : Fin 16) : Statement (.discrepancyTimeout l k) := rfl
theorem pairRestartEnd (l : LaneId) (k : Fin 16) : Statement (.pairRestartEnd l k) := rfl
theorem trunkLost (l : LaneId) (j : Fin 4) : Statement (.trunkLost l j) := rfl
theorem trunkHoldEnd (l : LaneId) (j : Fin 4) : Statement (.trunkHoldEnd l j) := rfl
theorem streamBeat (l : LaneId) (c : Fin 16) (err : Option BeatError) : Statement (.streamBeat l c err) := rfl
theorem streamTrigger (l : LaneId) (c : Fin 16) (ev : Byte) : Statement (.streamTrigger l c ev) := rfl
theorem tlbWalkComplete (l : LaneId) (c : Fin 16) : Statement (.tlbWalkComplete l c) := rfl
theorem pdClassification (g : GreenId) (p : Fin 16) : Statement (.pdClassification g p) := trivial
theorem homePortLoss (l : LaneId) (g : GreenId) : Statement (.homePortLoss l g) := rfl
theorem supplyValid (r : Region) : Statement (.supplyValid r) := rfl
theorem supplyLost (r : Region) : Statement (.supplyLost r) := rfl
theorem railFault (l : LaneId) : Statement (.railFault l) := rfl
theorem clockStartTimeout (l : LaneId) (src : Fin 6) : Statement (.clockStartTimeout l src) := rfl
theorem rstNLow (l : LaneId) : Statement (.rstNLow l) := rfl
theorem rstNRelease (l : LaneId) : Statement (.rstNRelease l) := rfl
theorem runHigh (l : LaneId) : Statement (.runHigh l) := rfl
theorem runLow (l : LaneId) : Statement (.runLow l) := rfl
theorem laneStart (l : LaneId) (o : StartOutcome) : Statement (.laneStart l o) := rfl
theorem temperatureSample (l : LaneId) (logic : Int) (gate : Int) : Statement (.temperatureSample l logic gate) := rfl
theorem greenTestPin (g : GreenId) (high : Bool) : Statement (.greenTestPin g high) := rfl
theorem bypass (l : LaneId) : Statement (.bypass l) := rfl
theorem samplePreload (l : LaneId) : Statement (.samplePreload l) := rfl
theorem extest (l : LaneId) : Statement (.extest l) := rfl
theorem idcode (l : LaneId) : Statement (.idcode l) := rfl
theorem tapReset (l : LaneId) : Statement (.tapReset l) := rfl
theorem faultLineHealthy (l : LaneId) (src : Fin 128) : Statement (.faultLineHealthy l src) := rfl
theorem greenOverTemperature (g : GreenId) : Statement (.greenOverTemperature g) := rfl
theorem greenCooled (g : GreenId) : Statement (.greenCooled g) := rfl

end Sys2Proof.Laws.Region
end

