-- ==== Sys2Proof/Laws/Turns.lean ====
section
/-! SUPPORT. How a command's next state is read off its meaning: one lane or one Green changed, a mailbox command served, a node
executed. -/

namespace Sys2Proof.Machine

/-- A command whose meaning changes one lane turns that lane into what the change gives. -/
theorem State.turns_onLane {s : State} {c : Instr} {l : LaneId} {f : Lane → Lane} {y : Lane}
    (h : exec c s = .next (s.onLane l f)) (e : f (s.lane l) = y) : s.Turns c l y := by
  refine ⟨_, h, ?_, fun k hk => State.onLane_lane_ne s f hk, rfl, rfl, rfl, rfl⟩
  obtain ⟨a, ha⟩ := Lane.almSync_eq (f (s.lane l)).noticeSync
  obtain ⟨p, hp⟩ := Lane.noticeSync_eq y
  rw [State.onLane_lane_self, ha, e, hp]

/-- A command whose meaning changes one Green turns that Green into what the change gives. -/
theorem State.turns_onGreen {s : State} {c : Instr} {g : GreenId} {f : Green → Green} {y : Green}
    (h : exec c s = .next (s.onGreen g f)) (e : f (s.green g) = y) : s.TurnsGreen c g y :=
  ⟨_, h, by rw [State.onGreen_green_self, e], fun _ hk => State.onGreen_green_ne s f hk, rfl, rfl, rfl, rfl⟩

/-- A mailbox command that Gamar executes does what its row says, on the payload of the request. -/
theorem Lane.serve_of_grants {x : Lane} {m : MbId} {op : Nat} (f : Lane → Bytes → Lane) (h : x.grants m op) :
    x.serve m op f = f x (x.mb m).payload := by
  obtain ⟨h1, h2⟩ := h
  by_cases hs : opNeedsSession op = true
  · simp [Lane.serve, h1, hs, Lane.sessionStatus, h2 hs]
  · simp [Lane.serve, h1, hs]

/-- The next state of a mailbox command that Gamar executes. -/
theorem State.turns_serve {s : State} {c : Instr} {l : LaneId} {m : MbId} {op : Nat} {f : Lane → Bytes → Lane} {y : Lane}
    (h : exec c s = s.serve l m op f) (g : (s.lane l).grants m op) (e : f (s.lane l) ((s.lane l).mb m).payload = y) :
    s.Turns c l y := State.turns_onLane h (by rw [Lane.serve_of_grants f g, e])

end Sys2Proof.Machine
end

