-- ==== Sys2Proof/Tests/Slice0.lean ====
section
/-! SUPPORT. Tests: the ill-formed commands that WellFormed refuses; for every statement with hypotheses a witness that concrete
lanes meet them (a clause each, at the ends of its range); and small tests of one step or one operation against the spec's own
worked examples and tables. -/

namespace Sys2Proof.Tests

set_option Elab.async false

open Sys2Proof.Machine

/-! ### Small states -/

/-- The state after reset with Ochre replaced. -/
def stateOf (x : Lane) : State := State.reset.setLane 0 x

theorem stateOf_lane (x : Lane) : (stateOf x).lane 0 = x := rfl

/-- The state after reset with Green A replaced. -/
def greenOf (x : Green) : State := { State.reset with greens := vset State.reset.greens 0 x }

theorem greenOf_green (x : Green) : (greenOf x).green 0 = x := rfl

/-- Ochre in LANE_ACTIVE and RUN, Gamar ready. -/
def up : Lane :=
  { Lane.cold 0 with
    sys := { Sys.cold with lstate := .active, mode := .run, run := true, pwrHold := true }
    hp := { HostPort.cold with ready := true } }

/-- The lane in another lane state. -/
def inState (v : LState) (x : Lane) : Lane := { x with sys := { x.sys with lstate := v } }

/-- The lane in another device mode. -/
def inMode (v : Mode) (x : Lane) : Lane := { x with sys := { x.sys with mode := v } }

/-- The lane with a default record of type `t` whose fields (offset, size, value) are replaced. -/
def withRec (t i : Nat) (fields : List (Nat × Nat × Nat)) (x : Lane) : Lane :=
  { x with fl := { x.fl with recs := x.fl.recs ++ [{ rtype := t, inst := i, parts :=
      [fields.foldl (fun b f => putAt b f.1 (leBytes f.2.1 f.2.2)) (defaultRec t i)] }] } }

/-- The default record with its header: one part, its CRC last. -/
def recPart (t i : Nat) : Bytes :=
  let b := defaultRec t i
  let p := putAt b 0 (leBytes 1 t ++ [1] ++ leBytes 2 i ++ leBytes 2 b.length ++ [0, 1])
  putAt p 12 (leBytes 4 (crc32c (bareRec p)))

/-- A request message without its CRC. -/
def request (op : Nat) (p : Bytes) : Mem :=
  memWriteN [] 0 (leBytes 2 op ++ leBytes 2 0x0302 ++ leBytes 2 7 ++ leBytes 2 p.length ++ List.replicate 8 0 ++ p)

/-- The lane with command `op` waiting in mailbox 0. -/
def asked (op : Nat) (p : Bytes) (x : Lane) : Lane :=
  x.onMb 0 fun b => { b with st := .busy, cmd := some (BitVec.ofNat 16 op), nego := some 0x0302, inBuf := request op p }

/-- The lane whose session mailbox 0 holds. -/
def session (x : Lane) : Lane := { x with ses := { x.ses with st := .opened, holder := some 0 } }

/-- The payload of the command that waits. -/
def body (x : Lane) : Bytes := (x.mb 0).payload

/-- `grants` as a test. -/
def granted (x : Lane) (op : Nat) : Bool := x.serving 0 op && (!opNeedsSession op || x.ses.holder = some 0)

theorem granted_grants (x : Lane) (op : Nat) (h : granted x op = true) : x.grants 0 op := by
  simp only [granted, Bool.and_eq_true, Bool.or_eq_true, Bool.not_eq_true', decide_eq_true_eq] at h
  exact ⟨h.1, fun n => by rcases h.2 with g | g <;> simp_all⟩

/-- Password "ochre-1-": 8 bytes, the least. -/
def pw : Bytes := [111, 99, 104, 114, 101, 45, 49, 45]

/-! ### Witnesses -/

theorem witness_StepTakesTheFront : (State.reset.withCommand (.railFault 0)).pending = [.railFault 0] ∧ State.reset.pending = [] := by
  decide

theorem witness_NoCommandStops : (State.reset.withCommand (.railFault 0)).pending = .railFault 0 :: [] := by decide

theorem witness_RegionIsolation :
    (Instr.railFault 0).region = some (.lane 0) ∧ (Instr.greenCooled 0).region = some (.green 0) ∧
      (Instr.pdClassification 0 0).region = none ∧ (∃ t, exec (.railFault 0) State.reset = .next t) ∧
      (∃ t, exec (.greenCooled 0) State.reset = .next t) ∧ (∃ t, exec (.pdClassification 0 0) State.reset = .next t) ∧
      State.reset.lane 0 = (State.reset.withCommand (.railFault 0)).lane 0 :=
  ⟨rfl, rfl, rfl, ⟨_, rfl⟩, ⟨_, rfl⟩, ⟨_, rfl⟩, rfl⟩

/-- A synchronised Green at the ends of its ranges. -/
def fullGreen : Green := { Green.cold with synced := true, cycle := 63, statusPort := 15, rate := 1 / 2000 }

theorem witness_GreensInvariant : (greenOf fullGreen).GreensOk ∧ ∃ t, step ((greenOf fullGreen).withCommand (.greenCycleEnd 0)) = .next t := by
  refine ⟨fun g => ?_, ⟨_, rfl⟩⟩
  have hd : ∀ g : GreenId, ∀ p : Fin 19, (((greenOf fullGreen).green g).port p).Recent := by unfold GPort.Recent; decide
  have hw : ∀ g : GreenId, ((greenOf fullGreen).green g).arb = none := by decide
  have hc : ∀ g : GreenId, ((greenOf fullGreen).green g).cycle < 64 := by decide
  have hs : ∀ g : GreenId, ((greenOf fullGreen).green g).statusPort < 16 := by decide
  have hr : ∀ g : GreenId, -(1 / 2000) ≤ ((greenOf fullGreen).green g).rate ∧ ((greenOf fullGreen).green g).rate ≤ 1 / 2000 := by
    decide +kernel
  have hb : ∀ g : GreenId, ((greenOf fullGreen).green g).block = none := by decide
  have ha : ∀ g : GreenId, ((greenOf fullGreen).green g).arriving = [] := by decide
  exact ⟨hc g, hs g, hr g, hd g, fun a h => by simp [hw g] at h, fun _ => hb g, fun _ => ha g⟩

theorem witness_PortStateCodes : 4 < 5 := by decide

theorem witness_MailboxAccessByState :
    up.portOn = true ∧ up.portBlocked = false ∧ ([0] : Bytes) ≠ [] ∧ 0x3FF + ([0] : Bytes).length ≤ 0x400 ∧
      (up.mb 0).st = .idle ∧ ((asked 3 [] up).mb 0).st ≠ .idle ∧ ((asked 3 [] up).mb 0).st ≠ .done := by decide +kernel

theorem witness_DoorbellOrder :
    let x := up.onMb 3 fun b => { b with st := .done }
    x.portOn = true ∧ x.portBlocked = false ∧ (x.mb 3).st = .done ∧ bit (0x808 : W32) 11 = true ∧ bit (0x808 : W32) 3 = true := by
  decide +kernel

/-- Endpoint 5 as a WAITING consumer of connection 9 in slot 4, its last sequence as given. -/
def listening (seq : Option W16) : Lane :=
  (withRec 8 5 [(0x10, 2, 9), (0x12, 1, 2), (0x14, 4, 0x100), (0x18, 4, 0x200), (0x1C, 2, 4), (0x1E, 1, 4)] up).onEp 5 fun e =>
    { e with st := .waiting, seq := seq }

/-- A PDU for it: sequence, flags, payload of 4 bytes. -/
def pdu (q flags : Nat) : Bytes :=
  let h := leBytes 2 9 ++ leBytes 2 q ++ leBytes 4 0 ++ [4, BitVec.ofNat 8 flags, 2, 0]
  h ++ [1, 2, 3, 4] ++ leBytes 4 (pduCrc ((listening none).connRec 5) h [1, 2, 3, 4])

/-- The ends of the two ranges of d, a first PDU, a RESTART, and an endpoint that opens. -/
theorem witness_SequenceCheck :
    (let x := listening (some 0)
     pduForm (x.connRec 5) (pdu 1 0) 0 = none ∧ pduForm (x.connRec 5) (pdu 32767 0) 0 = none ∧
      pduForm (x.connRec 5) (pdu 0 0) 0 = none ∧ pduForm (x.connRec 5) (pdu 32768 0) 0 = none ∧
      pduForm (x.connRec 5) (pdu 0 1) 0 = none ∧ (x.ep 5).seq = some 0 ∧ (fieldAt (pdu 0 1) 9 1) % 2 = 1 ∧
      x.consumerOf 4 9 = some 5 ∧ fieldAt (pdu 1 0) 0 2 = 9) ∧
    (let x := (listening none).onEp 5 fun e => { e with st := .closed }
     (x.ep 5).st = .closed ∧ (x.openConn 5).2 = stsOk) := by decide +kernel

theorem witness_HostPortAccess :
    up.portOn = true ∧ up.portBlocked = false ∧ (up.mb 3).st = .idle ∧ 0x3FF + ([0] : Bytes).length ≤ 0x400 ∧
      ([1, 2, 3, 4] : Bytes).length = 4 ∧ hpPlace 0x3FFF = .almanac 0x3FFF ∧ hpPlace 0x100000 = .trace 0 ∧
      hpPlace 0x21FFF = .outBuf 3 0x3FF ∧ hpPlace 0x4000 = .unmapped ∧ hpPlace 0x20000 = .inBuf 0 0 ∧
      ((asked 3 [] up).mb 0).st ≠ .idle ∧ hpPlace 0x10023 = .reg 0x23 := by decide +kernel

theorem witness_DoorbellsRestartAndTimers :
    (up.portOn = true ∧ up.portBlocked = false ∧ up.hp.ready = true) ∧
    (let x := { up with hp := { up.hp with ready := false } }
     x.portOn = true ∧ x.portBlocked = false ∧ x.hp.ready = false ∧ x.sys.pwrHold = true ∧ x.sys.lstate ≠ .init ∧
       x.startupRun = false) ∧
    (let x := { up with hp := { up.hp with coefJobs := [{ mb := 2, slot := 63, first := 250, done := 1, rest := [7] }] } }
     x.portOn = true ∧ x.portBlocked = false ∧ x.hp.ready = true) ∧
    (let x := session up; x.ses.holder = some 0 ∧ (x.mb 0).st = .idle) := by decide +kernel

/-- A PING as the host wrote it, with its CRC. -/
def ping (crc : Nat) : Lane :=
  { up with hp := { up.hp with order := [0] } }.onMb 0 fun b =>
    { b with st := .posted, nego := some 0x0302, inBuf := memWriteN (request 3 []) 12 (leBytes 4 crc) }

/-- CRC-32C of the 12 header bytes of that PING. -/
def pingCrc : Nat := crc32c (leBytes 2 3 ++ leBytes 2 0x0302 ++ leBytes 2 7 ++ leBytes 2 0 ++ List.replicate 4 0)

theorem witness_MailboxService :
    (let x := ping (pingCrc + 1); x.gamarRuns = true ∧ x.hp.order = 0 :: [] ∧ (x.mb 0).crcOk = false) ∧
    (let x := (ping pingCrc).onMb 0 fun b => { b with stored := some (7, [0]) }
     (x.mb 0).crcOk = true ∧ (x.mb 0).stored = some (7, [0]) ∧ (7 : W16).toNat = (x.mb 0).head 4 2) ∧
    (let x := (ping pingCrc).onMb 0 fun b => { b with nego := some 0x0207 }
     (x.mb 0).crcOk = true ∧ (x.mb 0).stored = none ∧ headerStatus (x.mb 0) = some stsVersion) ∧
    (let x := ping pingCrc
     x.gamarRuns = true ∧ (x.mb 0).crcOk = true ∧ (x.mb 0).stored = none ∧ headerStatus (x.mb 0) = none ∧ x.gateStatus 3 = none) ∧
    (inState .safe up).gateStatus 0x302 = some stsState ∧
    (let x := up.onMb 7 fun b => { b with st := .busy, resp := some [0] }
     let y := { x with hp := { x.hp with coefJobs := [{ mb := 7, slot := 63, first := 250, done := 1, rest := [7] }] } }
     y.gamarRuns = true ∧ (y.mb 7).st = .busy ∧ (y.mb 7).resp = some [0] ∧ (y.mb 7).discard = false ∧
       x.gamarRuns = true ∧ (x.mb 7).st = .busy ∧ (x.mb 7).resp = some [0] ∧ (x.mb 7).discard = false ∧
       ((x.onMb 7 fun b => { b with discard := true }).mb 7).discard = true) := by decide +kernel

theorem witness_ResponseMessage : ((asked 3 [] up).mb 0).nego = some 0x0302 := by decide +kernel

theorem witness_InformationCommands :
    (let x := asked 1 [1, 0, 2, 3] up; granted x 1 = true ∧ body x = [1, 0, 2, 3] ∧ choose (offered (body x)) = some 0x0302) ∧
    (let x := asked 1 [1, 0, 0, 1] up; granted x 1 = true ∧ choose (offered (body x)) = none) ∧
    (let x := asked 1 [9, 0] up; granted x 1 = true ∧ ¬ fieldAt (body x) 0 1 ≤ 8) ∧
    (∀ op ∈ [2, 3, 4, 0x102, 0x103, 0x801, 0x901], granted (asked op [] up) op = true) ∧
    (let x := asked 0x101 [0, 0, 0, 0, 0xF0, 3, 0, 0] up
     granted x 0x101 = true ∧ fieldAt (body x) 4 2 = 1008 ∧ 0 + 1008 ≤ x.almBytes.length) ∧
    (let x := asked 0x101 [0, 0, 0, 0, 0, 0, 0, 0] up; granted x 0x101 = true ∧ fieldAt (body x) 4 2 = 0) ∧
    (let x := asked 0x802 [0, 0, 0x80, 0] (session (inState .safe up))
     granted x 0x802 = true ∧ fieldAt (body x) 0 4 = 2 ^ 23 ∧ x.sys.lstate = .safe ∧ x.sys.mode ≠ .shutdown ∧ x.tst.run = none) ∧
    (let x := asked 0x802 [0, 0, 0, 1] (session up); granted x 0x802 = true ∧ 2 ^ 24 ≤ fieldAt (body x) 0 4) ∧
    (let x := asked 0x803 [] { up with tst := { up.tst with run := some {
       kind := .shutdown, todo := [1], now := none, passed := 1, failed := 0, wake := false } } }
     granted x 0x803 = true ∧ x.tst.run.isSome = true) ∧
    (let x := asked 0x803 [] up; granted x 0x803 = true ∧ x.tst.run = none) ∧
    (let x := asked 0x902 [11, 0, 0, 0] up; granted x 0x902 = true ∧ fieldAt (body x) 0 1 = 12 * x.idx.val + (11 : AxisId).val) ∧
    (let x := asked 0x902 [12, 0, 0, 0] up; granted x 0x902 = true ∧ fieldAt (body x) 0 1 / 12 ≠ x.idx.val) := by decide +kernel

/-- A sealed part with password `pw` under salt 0. -/
def sealedPart (x : Lane) : Lane :=
  let y := { x with fl := { x.fl with sealed := true } }
  withRec 12 0 [(0x20, 32, ofLe (sha256 (List.replicate 16 0 ++ pw)))] y

theorem witness_SessionCommands_records :
    (let x := asked 0x202 [6, 0, 24, 0, 0, 0, 0, 0] up; granted x 0x202 = true ∧ recInstanceOk x.idx 6 24 = false) ∧
    (∀ q ∈ [(0, 0), (1, 0), (0, 4)], let x := asked 0x202 [6, BitVec.ofNat 8 q.1, 23, 0, BitVec.ofNat 8 q.2, 0, 0, 0] (withRec 6 23 [] up)
      granted x 0x202 = true ∧ recInstanceOk x.idx 6 23 = true ∧ ((findRec x.fl.recs 6 23).map fun r => r.parts.length) = some 1 ∧
        fieldAt (body x) 1 1 = q.1 ∧ fieldAt (body x) 4 4 = q.2 ∧ findRec up.fl.recs 6 23 = none) ∧
    (∀ off ∈ [0, 8, 7, 12], let x := asked 0x202 [11, 0, 63, 0, off, 0, 0, 0] { up with fl := { up.fl with images := [(63, List.replicate 12 1)] } }
      granted x 0x202 = true ∧ recInstanceOk x.idx 11 63 = true ∧ fieldAt (body x) 4 4 = off.toNat ∧
        x.fl.images.find? (fun y => y.1 = 63) = some (63, List.replicate 12 1) ∧ up.fl.images.find? (fun y => y.1 = 63) = none) ∧
    (let x := asked 0x203 ([6, 0, 23, 0] ++ recPart 6 23) (session up)
     granted x 0x203 = true ∧ x.writeOk 6 23 ((body x).drop 4) = true ∧ x.ses.room (6, 23) = true) ∧
    (let y := session up
     let x := asked 0x203 ([6, 0, 23, 0] ++ recPart 6 23) { y with ses := { y.ses with items := (List.range 64).map .unload } }
     granted x 0x203 = true ∧ x.writeOk 6 23 ((body x).drop 4) = true ∧ x.ses.room (6, 23) = false) ∧
    (let x := asked 0x203 [6, 0, 24, 0] (session up); granted x 0x203 = true ∧ x.writeOk 6 24 [] = false) := by decide +kernel

theorem witness_SessionCommands :
    (let x := asked 0x201 (8 :: pw) up
     granted x 0x201 = true ∧ reqPassword (body x) = some pw ∧ x.ses.holder = none ∧ x.fl.locked = false ∧ x.fl.sealed = false) ∧
    (let x := asked 0x201 (8 :: pw.reverse) (sealedPart up)
     granted x 0x201 = true ∧ reqPassword (body x) = some pw.reverse ∧ x.fl.sealed = true ∧ x.passwordFits pw.reverse = false) ∧
    (let x := asked 0x201 (8 :: pw) { up with fl := { up.fl with locked := true } }; granted x 0x201 = true ∧ x.fl.locked = true) ∧
    (∀ b ∈ [false, true], let y := session up
      let x := asked 0x201 (8 :: pw) { y with fl := { y.fl with locked := b } }
      granted x 0x201 = true ∧ reqPassword (body x) = some pw ∧ x.ses.holder = some 0) ∧
    (let x := asked 0x201 [7] up; granted x 0x201 = true ∧ reqPassword (body x) = none) ∧
    (let x := asked 0x204 [] (session up); granted x 0x204 = true ∧ x.commitStatus = some stsState) ∧
    (let y := session up
     let x := asked 0x204 [] { y with ses := { y.ses with st := .staged, items := [.part 6 23 0 1 (recPart 6 23)] } }
     granted x 0x204 = true ∧ x.commitStatus = none) ∧
    (∀ op ∈ [0x205, 0x206], granted (asked op [] (session up)) op = true) ∧
    (let y := session up
     let x := asked 0x206 [] { y with ses := { y.ses with st := .staged } }
     granted x 0x206 = true ∧ x.ses.st = .staged) := by decide +kernel

/-- The password of a sealed part fits. -/
theorem witness_password : (sealedPart up).passwordFits pw = true := by decide +kernel

theorem witness_PasswordAndWorkshopCommands :
    (let x := asked 0x207 (8 :: pw) up
     granted x 0x207 = true ∧ reqPassword (body x) = some pw ∧ x.fl.sealed = false ∧ x.ses.holder = none ∧ x.fl.book.length < 4096) ∧
    (let x := asked 0x208 (8 :: pw) (session up)
     granted x 0x208 = true ∧ reqPassword (body x) = some pw ∧ x.ses.room (12, 0) = true) ∧
    (let x := asked 0x209 [] (session up); granted x 0x209 = true ∧ x.sys.mode = .run ∧ ∀ nn, x.restful nn = true) ∧
    (let x := asked 0x209 [] (session (up.onAxis 11 fun a => { a with enabled := true, role := .simplex }))
     granted x 0x209 = true ∧ x.sys.mode = .run ∧ x.restful 11 = false) ∧
    (let x := asked 0x209 [] (session (inMode .start up)); granted x 0x209 = true ∧ x.sys.mode ≠ .run ∧ x.sys.mode ≠ .degraded) ∧
    (let x := asked 0x20A [] (session (inMode .workshop { up with sys := { up.sys with under := .run } }))
     granted x 0x20A = true ∧ x.sys.mode = .workshop ∧ x.sys.under ≠ .workshop) ∧
    (let x := asked 0x20A [] (session up); granted x 0x20A = true ∧ x.sys.mode ≠ .workshop) ∧
    (let x := asked 0xA01 [0, 0, 15, 0] up; granted x 0xA01 = true ∧ fieldAt (body x) 2 1 = 15) ∧
    granted (asked 0xA02 [] up) 0xA02 = true ∧
    (let y := sealedPart up
     let x := asked 0xA03 (8 :: pw) { y with fl := { y.fl with book := [List.replicate 64 0] } }
     granted x 0xA03 = true ∧ reqPassword (body x) = some pw ∧ x.fl.sealed = true ∧ x.sys.mode ≠ .shutdown ∧
       onlyArchive x.fl.book = false ∧ x.ses.job = none ∧ x.bookHeld 0 = false ∧ x.fl.locked = false ∧ x.passwordFits pw = true ∧
       ({ x with fl := { x.fl with locked := true } }).fl.locked = true ∧
       (x.onMb 7 fun b => { b with st := .busy, inBuf := request 0xA01 [0, 0, 1, 0] }).bookHeld 0 = true) ∧
    (let x := asked 0xA03 (8 :: pw) up; granted x 0xA03 = true ∧ reqPassword (body x) = some pw ∧ x.fl.sealed = false) ∧
    (let x := asked 0x207 (8 :: pw) (sealedPart up); granted x 0x207 = true ∧ x.fl.sealed = true) ∧
    (let y := session up
     let x := { y with ses := { y.ses with job := some 0 } }
     x.gamarRuns = true ∧ x.inSlice 19 = false ∧ x.ses.job = some 0) := by decide +kernel

/-- The statuses of the same statement. -/
theorem witness_PasswordAndWorkshopCommands_refused :
    (let x := asked 0x207 (8 :: pw) (session { up with fl := { up.fl with book := List.replicate 4095 [] } })
     granted x 0x207 = true ∧ x.fl.sealed = false ∧ x.ses.holder = some 0 ∧ x.ses.st ≠ .staged ∧ x.fl.book.length < 4096) ∧
    (let x := asked 0x207 (8 :: pw) { up with fl := { up.fl with book := List.replicate 4096 [] } }
     granted x 0x207 = true ∧ 4096 ≤ x.fl.book.length) ∧
    (let x := asked 0x207 (8 :: pw) { up with ses := { up.ses with st := .opened, holder := some 1 } }
     granted x 0x207 = true ∧ x.ses.holder = some 1) ∧
    (∀ op ∈ [0x207, 0x208, 0xA03], let x := asked op [7] (session up); granted x op = true ∧ reqPassword (body x) = none) ∧
    (∀ n ∈ [0, 16], let x := asked 0xA01 [0, 0, n, 0] up; granted x 0xA01 = true ∧ fieldAt (body x) 2 1 = n.toNat) ∧
    (let y := sealedPart up
     let x := asked 0xA03 (8 :: pw.reverse) { y with fl := { y.fl with book := [List.replicate 64 0] } }
     granted x 0xA03 = true ∧ reqPassword (body x) = some pw.reverse ∧ x.fl.sealed = true ∧ x.sys.mode ≠ .shutdown ∧
       onlyArchive x.fl.book = false ∧ x.ses.job = none ∧ x.bookHeld 0 = false ∧ x.fl.locked = false ∧
       x.passwordFits pw.reverse = false ∧ ({ x with ses := { x.ses with job := some 1 } }).ses.job ≠ none) := by decide +kernel

/-- Slot 63 in the given state. -/
def slot63 (st : GState) (x : Lane) : Lane := x.onSlot 63 fun g => { g with st := st, coef := List.replicate 252 0 }

/-- A run in flight. -/
def aRun : Run :=
  { trig := { num := 75, ctx := 5, late := false, time := 0 }, deps := [0, 1], completed := 0, bank := false, missed := false, ckpt := [] }

/-- An image of one FLAGCLR node, 88 bytes, with the given version. -/
def image (ver : Nat) : Bytes :=
  let h := putAt (putAt (putAt (List.replicate 88 0) 0 (leBytes 4 0x47525048 ++ [0, BitVec.ofNat 8 ver] ++ leBytes 2 1 ++ leBytes 4 88))
    0x12 ([0xFF, 0] ++ leBytes 2 1)) 0x1E (leBytes 2 2 ++ leBytes 2 0xFFFF)
  let b := putAt (putAt h 0x28 [75, 1]) 0x40 [0xA8, 1]
  putAt b 0x0C (leBytes 4 (imageCrc b))

theorem witness_GraphCommands :
    (let x := asked 0x301 ([63, 0, 0, 0] ++ leBytes 4 0 ++ leBytes 4 1048576 ++ List.replicate 996 0) (session up)
     reqSlot (body x) = some 63 ∧ granted x 0x301 = true ∧ fieldAt (body x) 1 3 = 0 ∧ ((body x).drop 12).length = 996 ∧ fieldAt (body x) 8 4 = 1048576 ∧
       x.ses.chunkBase 63 0 1048576 = some [] ∧ ((body x).drop 12).length < 1048576 ∧ x.ses.room (11, 63) = true) ∧
    (let x := asked 0x301 ([63, 0, 0, 0] ++ leBytes 4 0 ++ leBytes 4 64 ++ List.replicate 4 0) (session up)
     granted x 0x301 = true ∧ fieldAt (body x) 1 3 = 0 ∧ ((body x).drop 12).length = 4 ∧ fieldAt (body x) 8 4 = 64 ∧
       x.ses.chunkBase 63 0 64 = some [] ∧ x.ses.room (11, 63) = true) ∧
    (let x := asked 0x301 ([63, 0, 0, 0] ++ leBytes 4 0 ++ leBytes 4 88 ++ image 1) (session up)
     granted x 0x301 = true ∧ ((body x).drop 12).length = 88 ∧ x.imageStatus (image 1) = none) ∧
    (let x := asked 0x301 ([63, 0, 0, 0] ++ leBytes 4 0 ++ leBytes 4 88 ++ image 2) (session up)
     granted x 0x301 = true ∧ ((body x).drop 12).length = 88 ∧ x.imageStatus (image 2) = some stsVersion) ∧
    (let x := asked 0x302 [63, 0, 0, 0] (session (slot63 .stopped up))
     granted x 0x302 = true ∧ (x.slot 63).st = .stopped ∧ x.sys.lstate = .active ∧ x.canReserve 63 = true) ∧
    (let x := asked 0x302 [63, 0, 0, 0] (session (slot63 .running up)); granted x 0x302 = true ∧ (x.slot 63).st = .running) ∧
    (let x := asked 0x303 [63, 0, 0, 0] (session ((slot63 .running up).onSlot 63 fun g => { g with run := some aRun }))
     granted x 0x303 = true ∧ (x.slot 63).st = .running ∧ (x.slot 63).run.isSome = true) ∧
    (let x := asked 0x303 [63, 0, 0, 0] (session (slot63 .running up))
     granted x 0x303 = true ∧ (x.slot 63).st = .running ∧ (x.slot 63).run = none) ∧
    (∀ st ∈ [GState.stopping, .stopped, .halted, .excluded], let x := asked 0x303 [63, 0, 0, 0] (session (slot63 st up))
     granted x 0x303 = true ∧ (x.slot 63).st = st) ∧
    (let x := asked 0x303 [0, 0, 0, 0] (session up); granted x 0x303 = true ∧ reqSlot (body x) = some 0 ∧ (x.slot 0).st = .empty) ∧
    (let x := asked 0x304 [63, 0, 0, 0] (session (slot63 .halted up))
     granted x 0x304 = true ∧ (x.slot 63).st = .halted ∧ x.ses.room (11, 63) = true) ∧
    (let x := asked 0x304 [63, 0, 0, 0] (session (slot63 .stopping up)); granted x 0x304 = true ∧ (x.slot 63).st = .stopping) ∧
    granted (asked 0x305 [63, 0, 0, 0] up) 0x305 = true ∧
    (let x := asked 0x306 ([63, 0, 0, 0] ++ leBytes 2 249 ++ List.replicate 6 0 ++ List.replicate 996 0) (session (slot63 .running up))
     granted x 0x306 = true ∧ fieldAt (body x) 4 2 = 249 ∧ (body x).length = 12 + 4 * 249 ∧ 0 + 249 ≤ (x.slot 63).coef.length ∧
       (x.slot 63).touchesGather 0 249 = false) ∧
    (let x := asked 0x307 ([63, 0, 0, 0] ++ leBytes 2 252 ++ leBytes 2 0) (slot63 .running up)
     granted x 0x307 = true ∧ fieldAt (body x) 4 2 = 252 ∧ 0 + 252 ≤ (x.slot 63).coef.length) ∧
    (let x := asked 0x307 ([63, 0, 0, 0] ++ leBytes 2 252 ++ leBytes 2 0) (slot63 .running up)
     let y := { x with hp := { x.hp with coefJobs := [{ mb := 2, slot := 63, first := 250, done := 1, rest := [7] }] } }
     granted y 0x307 = true ∧ (y.hp.coefJobs.any fun j => j.touches 63 0 252) = true ∧
       ((y.coefFinish fun j => j.touches 63 0 252).slot 63).coef[251]? = some 7) := by decide +kernel

/-- Axis channel 11 with the given role, all enable conditions met. -/
def axis11 (r : Role) (x : Lane) : Lane :=
  { x.onAxis 11 fun a => { a with role := r } with gd := { x.gd with valid := 0xF, everValid := 0xF, gden := true }, afe := { x.afe with vbus := some 1024 } }

theorem witness_AxisCommandsAnswer :
    (∀ op ∈ [0x401, 0x403], let x := asked op [11, 0, 0, 0] (axis11 .simplex up)
      granted x op = true ∧ fieldAt (body x) 0 1 = 12 * x.idx.val + (11 : AxisId).val ∧ x.jobHolds 2 (x.dev 11) = false) ∧
    (let x := asked 0x402 [11, 0, 0, 0] (session (axis11 .simplex up))
     granted x 0x402 = true ∧ x.sys.lstate = .active ∧ x.axisUsed 11 = true ∧ (x.axis 11).role ≠ .unused ∧
       x.jobHolds 2 (x.dev 11) = false ∧ x.canEnable 11 = true ∧ (x.axis 11).classA = false) ∧
    (let x := asked 0x402 [11, 0, 0, 0] (session ((axis11 .simplex up).onAxis 11 fun a => { a with classA := true }))
     granted x 0x402 = true ∧ (x.axis 11).classA = true) ∧
    (let x := asked 0x402 [0, 0, 0, 0] (session up); granted x 0x402 = true ∧ (x.axis 0).role = .unused) ∧
    (let y := axis11 .duplexActive (withRec 2 11 [(0x11, 1, 20)] up)
     let x := asked 0x404 [11, 0, 0, 0] (session ({ y with
       mem := { y.mem with health := vset y.mem.health 20 1 } }.onLink 1 fun k => { k with up := true }))
     granted x 0x404 = true ∧ x.sys.lstate = .active ∧ (x.axis 11).role = .duplexActive ∧ x.jobHolds 2 (x.dev 11) = false ∧
       x.standbyReady 11 = true ∧ (x.axis 11).red.planned = .none ∧
       (let z := x.onAxis 11 fun a => { a with red := { a.red with planned := .posted 1 } }
        z.standbyReady 11 = true ∧ (z.axis 11).red.planned = .posted 1)) ∧
    (let x := asked 0x404 [11, 0, 0, 0] (session (axis11 .duplexActive (withRec 2 11 [(0x11, 1, 20)] up)))
     granted x 0x404 = true ∧ (x.axis 11).role = .duplexActive ∧ x.standbyReady 11 = false) ∧
    (let x := asked 0x404 [11, 0, 0, 0] (session (axis11 .simplex up)); granted x 0x404 = true ∧ (x.axis 11).role ≠ .duplexActive) ∧
    (let x := asked 0x405 [11, 0, 0, 0] (axis11 .duplexStandby up); granted x 0x405 = true ∧ (x.axis 11).role = .duplexStandby) ∧
    (let x := asked 0x405 [11, 0, 0, 0] (axis11 .simplex up); granted x 0x405 = true ∧ (x.axis 11).role ≠ .duplexStandby) ∧
    (∀ op ∈ [0x401, 0x402, 0x403, 0x404, 0x405], let x := asked op [12, 0, 0, 0] (session up)
      granted x op = true ∧ fieldAt (body x) 0 1 / 12 ≠ x.idx.val) ∧
    granted (asked 0x501 [] up) 0x501 = true ∧
    (let x := asked 0x502 [] up
     granted x 0x502 = true ∧ x.tripBlocks = false ∧
       ({ x with fc := { x.fc with present := bitPut x.fc.present 0 false } }).blocking = false) ∧
    (let x := asked 0x502 [] { up with fc := { up.fc with present := 2 } }
     granted x 0x502 = true ∧ ({ x with fc := { x.fc with present := bitPut x.fc.present 0 false } }).blocking = true) ∧
    (let x := asked 0x502 [] { up with fc := { up.fc with present := 1 } }
     granted x 0x502 = true ∧ bit x.fc.present 0 = true ∧ x.tripBlocks = false ∧
       ({ x with fc := { x.fc with present := bitPut x.fc.present 0 false } }).blocking = false) ∧
    granted (asked 0x503 [] up) 0x503 = true := by decide +kernel

/-- A commit being written holds the record; entering and leaving the safe state, at every value of safe_state. -/
theorem witness_AxisCommandsAnswer_safe :
    (∀ op ∈ [0x402, 0x403, 0x404], let y := session (axis11 .duplexActive up)
      let x := asked op [11, 0, 0, 0] { y with ses := { y.ses with items := [.part 2 11 0 1 []], job := some 1 } }
      granted x op = true ∧ x.jobHolds 2 (x.dev 11) = true ∧ x.sys.lstate = .active ∧ x.axisUsed 11 = true ∧
        (x.axis 11).role = .duplexActive) ∧
    (∀ v ∈ [0, 1, 2, 3], let x := axis11 .simplex (withRec 2 11 [(0xE0, 1, v)] up)
      safeState (x.axisRec 11) % 16 = v ∧ (x.axis 11).safe = false ∧ x.axisUsed 11 = true) ∧
    (let x := axis11 .duplexStandby up; (x.axis 11).safe = false ∧ x.axisUsed 11 = true ∧ (x.axis 11).role = .duplexStandby) ∧
    ((up.onAxis 11 fun a => { a with safe := true }).axis 11).safe = true ∧
    (let x := up.onAxis 11 fun a => { a with safe := true, pattern := .shortLow, patAuto := true, gate := { a.gate with short := 4 } }
     x.patternHeld 11 = true ∧ (x.axis 11).patAuto = true ∧ x.bridgeFault 11 = true) ∧
    (let x := axis11 .simplex up
     (x.axis 11).enabled = false ∧ ((((x.fbReturn 11).endProfile 11).axis 11).role) = .simplex) := by decide +kernel

/-- Stream channel 15 in the given state. -/
def chan15 (st : StState) (x : Lane) : Lane := (withRec 10 15 [(0x18, 3, 1)] x).onStream 15 fun h => { h with st := st }

theorem witness_ConnectionAndStreamCommands :
    (∀ op ∈ [0x602, 0x603, 0x604], let x := asked op [0xFF, 1, 0, 0] (session up)
      reqEndpoint (body x) = some 511 ∧ granted x op = true ∧ x.jobHolds 8 511 = false) ∧
    (let x := asked 0x603 [0xFF, 1, 0, 0] (session up); connRole (x.connRec 511) = 0) ∧
    (∀ st ∈ [EpState.closed, .failed, .running], ∀ b ∈ [false, true],
      let x := ((withRec 8 511 [(0x10, 2, 9), (0x12, 1, 1), (0x30, 2, 5)] (session up)).onEp 511 fun e => { e with st := st }).onEp 5
        fun e => { e with offer := if b then some 0 else some 1 }
      connRole (x.connRec 511) = 1 ∧ (x.ep 511).st = st ∧ x.offerBad 511 = b) ∧
    (∀ op ∈ [0x603, 0x604], let y := session up
      let x := asked op [0xFF, 1, 0, 0] { y with ses := { y.ses with items := [.part 8 511 0 1 []], job := some 1 } }
      granted x op = true ∧ x.jobHolds 8 511 = true) ∧
    (let x := asked 0x701 [15, 0, 0, 0] (chan15 .stopped up)
     reqChan (body x) = some 15 ∧ granted x 0x701 = true ∧ x.jobHolds 10 15 = false ∧ x.streamStartable 15 = true) ∧
    (let x := asked 0x701 [15, 0, 0, 0] (chan15 .waiting up); granted x 0x701 = true ∧ x.streamStartable 15 = false) ∧
    (∀ st ∈ [StState.running, .waiting, .halted], let x := asked 0x702 [15, 0, 0, 0] (chan15 st up)
      granted x 0x702 = true ∧ (x.chan 15).st = st) ∧
    (let x := asked 0x704 [15, 0, 0, 0] (chan15 .halted up); granted x 0x704 = true ∧ (x.chan 15).noResume = false) ∧
    (let x := asked 0x704 [15, 0, 0, 0] (chan15 .running up); granted x 0x704 = true ∧ (x.chan 15).st ≠ .halted) ∧
    granted (asked 0x703 [15, 0, 0, 0] up) 0x703 = true ∧ granted (asked 0x504 [] up) 0x504 = true ∧
    (let x := asked 0x601 [31, 0, 0, 0] up; granted x 0x601 = true ∧ fieldAt (body x) 0 1 = (31 : Fin 32).val) ∧
    (let x := asked 0x601 [32, 0, 0, 0] up; granted x 0x601 = true ∧ 32 ≤ fieldAt (body x) 0 1) := by decide +kernel

/-- The link to Madder in the given condition. -/
def link1 (alive up everUp : Bool) (x : Lane) : Lane :=
  x.onLink 1 fun k => { k with alive := alive, up := up, everUp := everUp }

theorem witness_HandoverAndLinkState :
    (1 : LaneId) ≠ up.idx ∧ up.awake = true ∧ (vget (link1 true true true up).links 1).alive = true ∧
      (vget up.links 1).alive = false ∧ up.linkRuns = true ∧ (((stateOf up).setLane 1 { up with idx := 1 }).lane 1).linkRuns = true ∧ (vget up.links 1).up = false ∧
      (vget (link1 true true true up).links 1).up = true ∧ (vget (link1 true true true up).links 1).everUp = true ∧
      (vget up.links 1).active = false ∧ (vget (up.onLink 1 fun k => { k with active := true }).links 1).active = true := by decide +kernel

theorem witness_LinkFrames :
    (let x := (link1 true true true up).onLink 1 fun k => { k with txq := vset k.txq 2 [.idle] }
     (1 : LaneId) ≠ x.idx ∧ x.linkRuns = true ∧ (vget x.links 1).up = true ∧ vget (vget x.links 1).txq 2 = .idle :: [] ∧
       ∀ d : Fin 4, d < 2 → vget (vget x.links 1).txq d = []) ∧
    (∀ d : Fin 4, vget (vget (link1 true true true up).links 1).txq d = []) ∧
    (let x := (link1 true false true up).onLink 1 fun k => { k with txq := vset k.txq 1 [.idle] }
     x.linkRuns = true ∧ (vget x.links 1).up = false ∧ ∀ d : Fin 4, vget (vget x.links 1).txq d = [] ∨ d.val < 2) ∧
    (let f : LinkFrame := { cls := 3, seq := 1, crcOk := true, body := .idle }
     f.crcOk = true ∧ f.cls < 4 ∧ vget (vget (link1 true true true up).links 1).rxSeq (fin f.cls) = none) ∧
    (let f : LinkFrame := { cls := 2, seq := 0, crcOk := true, body := .idle }
     let x := (link1 true true true up).onLink 1 fun k => { k with rxSeq := vset k.rxSeq 2 (some 0xFFFF) }
     vget (vget x.links 1).rxSeq 2 = some (f.seq - 1)) ∧
    (let f : LinkFrame := { cls := 4, seq := 0, crcOk := true, body := .idle }; 4 ≤ f.cls) := by decide +kernel

theorem witness_BranchesBeatAndClocks :
    up.sys.lstate ≠ .off ∧ up.sys.inReset = false ∧ bit up.sys.badClocks 6 = false ∧ up.inSlice 23 = false ∧ up.gd.hbSeen = false ∧
      ({ up with gd := { up.gd with hbSeen := true } }).gd.hbSeen = true ∧ up.sys.powered = true ∧ up.awake = true ∧
      ({ up with sys := { up.sys with inReset := true } }).sys.powered = true ∧
      ({ up with sys := { up.sys with inReset := true } }).awake = false ∧
      ({ up with sys := { up.sys with powered := false } }).sys.powered = false := by decide

theorem witness_LossAndRejoin :
    (let x := up.onChan 0 fun c => { c with view := .present, missed := 255 }
     (vget x.net.chan 0).view = .present ∧ (vget x.net.chan 0).gotNow = false ∧ greenLossCycles x.laneRec ≤ (vget x.net.chan 0).missed) ∧
      ({ up with net := { up.net with hold := .holding } }).net.hold = .holding ∧
      ((up.onAxis 11 fun a => { a with profile := 2 }).axis 11).profile = 2 ∧
      (let x := inState .safe { up with sys := { up.sys with autoClear := true } }
       x.sys.lstate = .safe ∧ x.sys.autoClear = true ∧ x.sys.rejoined = false ∧ x.lk.failed = false) ∧
      (let x := inState .test { up with sys := { up.sys with rejoining := true } }
       x.sys.lstate = .test ∧ x.sys.rejoining = true ∧ x.sys.rejoinTime = false ∧ x.runtimeBits true = 0 ∧
         x.runtimeBits false ≠ 0) := by decide +kernel

/-- Delay list 15 with the given request on its way, and a re-sort as given. -/
def list15 (r : List DlReq) (s : Option (Nat × Int × Int)) : Lane :=
  { up with dls := vmod up.dls 15 fun d => { d with inflight := r.map fun q => ({ cycle := 0, slot := 63, node := 0 }, q), resort := s } }

/-- Compare unit 23 with the given request on its way. -/
def unit23 (r : CmpReq) : Lane := { up with cus := vmod up.cus 23 fun c => { c with inflight := [({ cycle := 0, slot := 63, node := 0 }, r)] } }

theorem witness_TimekeeperRequests :
    let key : ReqKey := { cycle := 0, slot := 63, node := 0 }
    up.awake = true ∧ up.clockOn 3 = true ∧ up.inSlice 9 = false ∧ (vget (list15 [.cancel 1 none] (some (3, 0, 0))).dls 15).inflight = (key, .cancel 1 none) :: [] ∧
      (vget (list15 [.cancel 1 none] (some (3, 0, 0))).dls 15).resort.isSome = true ∧
      (vget (list15 [.insertRel 0 1 none] none).dls 15).inflight = (key, .insertRel 0 1 none) :: [] ∧
      (vget (list15 [.insertRel 0 1 none] none).dls 15).resort = none ∧
      (vget (unit23 .disarm).cus 23).inflight = (key, .disarm) :: [] ∧
      (vget (unit23 (.armAbs 7 none)).cus 23).inflight = (key, .armAbs 7 none) :: [] ∧
      (vget (unit23 (.armRel 7 none)).cus 23).inflight = (key, .armRel 7 none) :: [] ∧
      (vget (list15 [] (some (0, 5, 0))).dls 15).resort = some (0, 5, 0) ∧
      (vget ({ up with cus := vmod up.cus 23 fun c => { c with fresh := true } }).cus 23).fresh = true := by decide +kernel

theorem witness_DispatcherRows :
    (let e : Event := { num := 75, ctx := 0, late := false, time := 0 }
     let x := { up with dsp := { up.dsp with events := [e] } }
     let y := { x with tm := { x.tm with loc := 5 } }
     x.dsp.events = e :: [] ∧ x.engineOk = true ∧ x.ripe e = false ∧ y.dsp.events = e :: [] ∧ y.engineOk = true ∧ y.ripe e = true) ∧
    ({ up with sys := { up.sys with badClocks := 0x7F } }).engineOk = false ∧
    (let j : UnitJob := { slot := 63, node := 0, left := 0, executed := true, orphan := false, bank := false, trig := aRun.trig, snap := [], snapFlags := 0 }
     let x := ({ up with dsp := { up.dsp with units := vset up.dsp.units 3 (some j) } }).onSlot 63 fun g => { g with run := some aRun }
     x.unit 3 = some j ∧ j.executed = true ∧ (x.slot j.slot).run = some aRun ∧
       (up.slot j.slot).run = none ∧ ({ j with orphan := true } : UnitJob).orphan = true) := by decide +kernel

/-- A node word (R180): operation, LEN, OPT, immediate, operands A, B and C. -/
def word (op len opt imm a b c : Nat) : BitVec 128 :=
  BitVec.ofNat 128 (op + 2 ^ 8 * len + 2 ^ 13 * opt + 2 ^ 24 * imm + 2 ^ 48 * a + 2 ^ 72 * b + 2 ^ 96 * c)

/-- A coefficient operand at word i (R182). -/
def coefAt (i : Nat) : Nat := 2 ^ 23 + i

/-- The work of unit 3. -/
def job : UnitJob :=
  { slot := 63, node := 0, left := 0, executed := false, orphan := false, bank := false, trig := aRun.trig, snap := [], snapFlags := 0 }

/-- A lane whose unit 3 holds the one node of slot 63, not yet executed, with its coefficients and 32 state words. -/
def node (w : BitVec 128) (coef : List W32) (x : Lane) : Lane :=
  ({ x with dsp := { x.dsp with units := vset x.dsp.units 3 (some job) } }).onSlot 63 fun g =>
    { g with st := .running, nodes := [w], coef := coef, state := List.replicate 32 0, run := some aRun }

/-- 1, 0.5, -0.5 and 0 as BFP words (R168). -/
def one : W32 := 0x40000001
def half : W32 := 0x40000000
def negHalf : W32 := 0xC0000000

/-- The rule for stages: values that fit the exponent and values that do not, the least exponent, values beyond the range and below
it, and a largest value, a named result and an undefined point beside a value. -/
theorem witness_ArithmeticOperations_stage :
    (let hi (e : Int) : Rat := 0x7FFFFF * pow2 (e - 23)
     let lo (e : Int) : Rat := -0x800000 * pow2 (e - 23)
     (∀ q ∈ [(1 : Rat), -1 / 2], lo 1 ≤ q ∧ q ≤ hi 1) ∧ ¬ (1 : Rat) ≤ hi 0 ∧
       (∀ p ∈ [(-128 : Int), 127], lo p ≤ pow2 (p - 1) ∧ pow2 (p - 1) ≤ hi p ∧ ¬ pow2 (p - 1) ≤ hi (p - 1)) ∧
       ¬ pow2 127 ≤ hi 127 ∧ lo (-129) ≤ 0 ∧ (0 : Rat) ≤ hi (-129)) ∧
    (∀ y ∈ [Pick.largest true, .undef 1], y.live = none) ∧ (Pick.largest true).top = true ∧ (Pick.undef 1).top = false ∧
    (Pick.num 1).live ≠ none ∧ ([1, 1 / 2] : List Rat).length ≤ 8 ∧ -128 ≤ (mkStage none [.num 1]).exp ∧
    (mkStage none [.num 1]).exp ≤ 127 := by decide +kernel

theorem witness_ArithmeticOperations :
    (∀ op ∈ [1, 2, 3, 4, 5, 6, 7, 8, 9, 10, 11, 12, 13, 14, 15],
      (node (word op 1 0 1 (coefAt 0) (coefAt 0) (coefAt 0)) [half] up).unit 3 = some job ∧
        (node (word op 1 0 1 (coefAt 0) (coefAt 0) (coefAt 0)) [half] up).holds 3 op = true) ∧
    (let x := node (word 0x0E 8 0 7 (coefAt 0) (coefAt 0) 0) [half] up
     x.holds 3 0x0E = true ∧ (x.nodeCtx job).imm % 16 ≤ (x.nodeCtx job).len) := by decide +kernel

theorem witness_TransformAndTableOperations :
    (let x := node (word 0x20 2 0 0 (coefAt 0) 0 0) [half, half, half] up
     x.unit 3 = some job ∧ x.holds 3 0x20 = true ∧ (x.nodeCtx job).opt 0 = false) ∧
    (let x := node (word 0x20 2 1 0 (coefAt 0) 0 0) [half, half] up; x.holds 3 0x20 = true ∧ (x.nodeCtx job).opt 0 = true) ∧
    (∀ op ∈ [0x21, 0x22, 0x23, 0x50, 0x51, 0x52, 0x53, 0x60, 0x61, 0x62],
      (node (word op 2 0 1 (coefAt 0) (coefAt 0) 0) [half] up).holds 3 op = true) ∧
    (let x := node (word 0x61 1 0 0 (coefAt 0) 0 0) [0, 0] up
     (x.nodeCtx job).elem (nodeDesc (x.nodeCtx job).word 0) 0 = 0 ∧ (x.nodeCtx job).elem (nodeDesc (x.nodeCtx job).word 0) 1 = 0) ∧
    (let x := node (word 0x61 1 0 0 (coefAt 0) 0 0) [0, half] up
     (x.nodeCtx job).elem (nodeDesc (x.nodeCtx job).word 0) 1 ≠ 0) ∧
    (∀ q ∈ [(1, 0), (2, 0), (2, 1)],
      let w := word 0x50 1 q.2 0 (coefAt 5) (coefAt 0) 0
      let x := (node w [0, one, BitVec.ofNat 32 q.1, half, one, half] up).onSlot 63 fun g =>
        { g with hdr := putAt (List.replicate 64 0) 0x1C (leBytes 2 6) }
      let c := x.nodeCtx job
      let d := nodeDesc c.word 1
      x.holds 3 0x50 = true ∧ (c.coefWord d 2).toNat = q.1 ∧ c.opt 0 = decide (q.2 = 1) ∧ d.index + 2 + 3 ≤ c.tableEnd d) := by
  decide +kernel

theorem witness_ControlAndFilterOperations :
    ∀ op ∈ [0x30, 0x31, 0x32, 0x33, 0x40, 0x41, 0x42],
      (node (word op 8 1 0 (coefAt 0) (coefAt 8) 0) [half] up).unit 3 = some job ∧
        (node (word op 8 1 0 (coefAt 0) (coefAt 8) 0) [half] up).holds 3 op = true := by decide +kernel

theorem witness_ObserverOperations :
    (let x := node (word 0x80 2 0 0 (coefAt 0) (coefAt 0) 0) [half, half, half] up
     x.unit 3 = some job ∧ x.holds 3 0x80 = true ∧ 0 < (x.nodeCtx job).par1 2) ∧
    (let x := node (word 0x80 2 0 0 (coefAt 0) (coefAt 0) 0) [half, half, 0] up; x.holds 3 0x80 = true ∧ (x.nodeCtx job).par1 2 ≤ 0) ∧
    (let x := node (word 0x81 2 0 0 (coefAt 0) (coefAt 0) (coefAt 0)) [half, half, half, half, half] up
     x.holds 3 0x81 = true ∧ 0 < (x.nodeCtx job).par2 1 ∧ 0 < (x.nodeCtx job).par2 2) ∧
    (let x := node (word 0x81 2 0 0 (coefAt 0) (coefAt 0) (coefAt 0)) [half, 0, half] up
     x.holds 3 0x81 = true ∧ (x.nodeCtx job).par2 1 ≤ 0) ∧
    (node (word 0x82 2 0 0 (coefAt 0) (coefAt 0) 0) [half] up).holds 3 0x82 = true ∧
    (∀ opt ∈ [0, 1], (node (word 0x83 2 opt 0 (coefAt 0) (coefAt 0) 0) [half] up).holds 3 0x83 = true) ∧
    (let x := (node (word 0x83 2 1 0 (coefAt 0) (coefAt 0) 0) [half] up).onSlot 63 fun g =>
       { g with state := List.replicate 5 0 ++ [one] }
     ((x.nodeCtx job).opState 2).floor = 1 ∧ rmax ((x.nodeCtx job).opState 1) (rabs (1 / 2)) ≠ 0) ∧
    (let x := node (word 0x83 2 0 0 (coefAt 0) (coefAt 0) 0) [half] up
     (x.nodeCtx job).opt 0 = false ∧ ((x.nodeCtx job).opState 2).floor = 0 ∧
       rabs ((x.nodeCtx job).elem (nodeDesc (x.nodeCtx job).word 0) 0) ≠ 0) ∧
    (let x := node (word 0x83 2 0 0 (coefAt 0) (coefAt 0) 0) [0] up
     (x.nodeCtx job).elem (nodeDesc (x.nodeCtx job).word 0) 0 = 0 ∧ (x.nodeCtx job).opState 0 = 0) := by decide +kernel

/-- Channel 11 has published the given set. -/
def published (v : AdcSet) (x : Lane) : Lane := x.onAxis 11 fun a => { a with sense := { a.sense with done := [v] } }

theorem witness_InputNodes :
    (∀ op ∈ [0x90, 0x91, 0x92, 0x93, 0x94], let x := node (word op 1 0 0 0 0 11) [] up
      x.unit 3 = some job ∧ x.holds 3 op = true ∧ (x.slot 63).run = some aRun ∧ nodeOp (x.nodeCtx job).word = op) ∧
    (let x := node (word 0x90 3 0 0 0 0 11) [] up
     aRun.trig.num.toNat ≠ 4 * (x.nodeCtx job).axis.val + 2 ∧ (x.axis (x.nodeCtx job).axis).sense.done.head? = none) ∧
    (let v : AdcSet := { set := 1, content := 2, codes := [(8191, true), (1, false), (2, false), (3, false), (4, false), (5, false)] }
     let x := published v (node (word 0x90 3 1 0 0 0 11) [] up)
     let t : Event := { num := 46, ctx := 1, late := false, time := 0 }
     t.num.toNat = 4 * (x.nodeCtx job).axis.val + 2 ∧ (x.axis 11).sense.done.find? (fun q => q.set = t.ctx.toNat) = some v ∧
       ∀ i ∈ contentInputs 1, i ∈ contentInputs v.content) ∧
    (∀ opt ∈ [0, 1, 2], nodeOpt ((node (word 0x91 3 opt 0 0 0 11) [] up).nodeCtx job).word % 4 = opt) ∧
    (∀ s ∈ [0, 4], ((node (word 0x92 2 s 0 0 0 511) [] up).nodeCtx job).opt 2 = decide (s = 4)) := by decide +kernel

theorem witness_OutputNodes :
    (let x := withRec 2 11 [(0xB2, 1, 2)] up
     up.angleSrc 11 ≠ 2 ∧ x.angleSrc 11 = 2 ∧ x.supRuns 11 = false ∧ (x.axis 11).acc.valid = false ∧
       ((x.onAxis 11 fun a => { a with acc := { a.acc with valid := true } }).axis 11).acc.valid = true) ∧
    up.sys.halted = false ∧ ({ up with sys := { up.sys with halted := true } }).sys.halted = true ∧
    (∀ op ∈ [0xA0, 0xA2, 0xA3, 0xA5], (node (word op 2 0 15 (coefAt 0) 0 11) [half] up).holds 3 op = true) ∧
    (let x := node (word 0xA1 1 0 0 (coefAt 0) 0 11) [0x7E000006] up
     x.unit 3 = some job ∧ x.holds 3 0xA1 = true ∧
       roundEven ((x.nodeCtx job).elem (nodeDesc (x.nodeCtx job).word 0) 0) = (63 : Fin 64).val) ∧
    (let x := node (word 0xA1 1 0 0 (coefAt 0) 0 11) [0x40000007] up
     63 < roundEven ((x.nodeCtx job).elem (nodeDesc (x.nodeCtx job).word 0) 0)) ∧
    (let x := node (word 0xA1 1 0 0 (coefAt 0) 0 11) [0xC0000001] up
     roundEven ((x.nodeCtx job).elem (nodeDesc (x.nodeCtx job).word 0) 0) < 0) ∧
    (let x := node (word 0xA4 1 4 0 (coefAt 0) 0 511) [half] (withRec 8 511 [(0x12, 1, 1), (0x1E, 1, 2)] up)
     x.holds 3 0xA4 = true ∧ connRole (x.connRec (x.nodeCtx job).endpoint) = 1) ∧
    (let x := node (word 0xA4 1 4 0 (coefAt 0) 0 511) [half] up; connRole (x.connRec (x.nodeCtx job).endpoint) ≠ 1) := by
  decide +kernel

theorem witness_ExchangeAndFlagNodes :
    (let x := (node (word 0xA6 1 0 0 (coefAt 0) 0 11) [half] up).onAxis 11 fun a => { a with role := .duplexActive }
     x.unit 3 = some job ∧ x.holds 3 0xA6 = true ∧ (x.axis (x.nodeCtx job).axis).role = .duplexActive ∧ job.orphan = false ∧
       ({ job with orphan := true } : UnitJob).orphan = true) ∧
    (let x := node (word 0xA6 1 0 0 (coefAt 0) 0 11) [half] up; (x.axis (x.nodeCtx job).axis).role ≠ .duplexActive) ∧
    (node (word 0xA7 1 0 0 (coefAt 0) (coefAt 1) 11) [half, 0] up).holds 3 0xA7 = true ∧
    (let x := node (word 0xA8 1 0 0 0 0 0) [] up; x.holds 3 0xA8 = true ∧ ∀ v, v ≠ 3 → x.unit v = none) ∧
    (let x := ((slot63 .running (withRec 2 11 [(0x11, 1, 20)] up)).onSlot 63 fun g => { g with ckptDue := [(11, 0, [half]), (11, 1, [])] })
     let y := (x.onAxis 11 fun a => { a with role := .duplexActive }).onLink 1 fun k => { k with line := .r10 }
     (y.slot 63).ckptDue = [(11, 0, [half]), (11, 1, [])] ∧ y.sys.mode ≠ .shutdown ∧ (y.axis 11).role = .duplexActive ∧
       (vget y.links (axisLane (peer0 (y.axisRec 11)))).line ≠ .r01 ∧ (vget x.links 1).line = .r01 ∧
       (x.axis 11).role ≠ .duplexActive) ∧
    (let x := { up with dsp := { up.dsp with emits := [(15, 7)] } }
     x.gamarRuns = true ∧ x.dsp.emits = (15, 7) :: [] ∧ natBit (emitEnable x.laneRec) 15 = false) ∧
    natBit (emitEnable (withRec 1 0 [(0x68, 2, 0x8000)] up).laneRec) 15 = true := by decide +kernel

theorem witness_SchedulingNodes :
    (∀ op ∈ [0xB0, 0xB2], ∀ opt ∈ [0, 1, 2], let x := node (word op 1 opt 0 (coefAt 0) 0 15) [half, half] up
      x.unit 3 = some job ∧ x.holds 3 op = true ∧ nodeOpt (x.nodeCtx job).word % 4 = opt ∧ (x.slot job.slot).run = some aRun) ∧
    srcAngle (up.dlSrc 15) = false ∧ srcAngle ((withRec 7 15 [(0x10, 1, 3)] up).dlSrc 15) = true ∧
    srcAngle (cmpSource ((withRec 6 15 [(0x10, 1, 2)] up).cmpRec 15)) = true ∧
    srcAngle (cmpSource ((withRec 6 15 [(0x10, 1, 0)] up).cmpRec 15)) = false ∧
    (node (word 0xB1 1 0 0 (coefAt 0) 0 15) [half] up).holds 3 0xB1 = true ∧
    (node (word 0xB3 1 0 0 0 0 23) [] up).holds 3 0xB3 = true := by decide +kernel

/-- Axis channel 11 with record fields and a change of the channel. -/
def ax11 (fields : List (Nat × Nat × Nat)) (f : Axis → Axis) : Lane := (withRec 2 11 fields up).onAxis 11 f

theorem witness_CarrierRows :
    up.sys.halted = false ∧
    (∀ q ∈ [(100, true), (50, false)],
      let x := ax11 [] fun a => { a with pwm := { a.pwm with running := true, firstWait := false, length := 100, since := q.1 } }
      (x.axis 11).pwm.running = true ∧ x.clockOn 3 = true ∧ x.inSlice 12 = false ∧ carrierVar (carrier (x.axisRec 11)) = false ∧ x.periodDue 11 = q.2 ∧
        (x.axis 11).pwm.firstWait = false ∧ 50 % (x.axis 11).pwm.length = (x.axis 11).pwm.length / 2) ∧
    (let x := ax11 [(0xE2, 1, 0xFF)] fun a => { a with pwm := { a.pwm with running := true, mask := 0x15, since := 40 } }
     zeroPulse (x.axisRec 11) (x.axis 11).pwm = true ∧ minPulseNs (x.axisRec 11) ≤ 5 * (x.axis 11).pwm.since) ∧
    (∀ q ∈ [(true, 100), (false, 100), (false, 99)],
      let x := ax11 [(0x30, 1, 2), (0x3E, 2, 500), (0x40, 4, 500), (0x44, 4, 500)] fun a => { a with pwm := { a.pwm with
        running := true, firstWait := false, fixedInt := vset a.pwm.fixedInt 2 q.1, count := vset a.pwm.count 2 q.2 } }
      (x.axis 11).pwm.running = true ∧ carrierVar (carrier (x.axisRec 11)) = true ∧ (x.axis 11).pwm.firstWait = false ∧
        vget (x.axis 11).pwm.fixedInt 2 = q.1 ∧
        (tFixedNs (x.axisRec 11) ≤ 5 * vget (x.axis 11).pwm.count 2 ↔ q.2 = 100) ∧
        (tLimitNs (x.axisRec 11) ≤ 5 * vget (x.axis 11).pwm.count 2 ↔ q.2 = 100) ∧
        (minPulseNs (x.axisRec 11) ≤ 5 * (vget (x.axis 11).pwm.count 2 - vget (x.axis 11).pwm.varAt 2) ↔ q.2 = 100)) ∧
    (let x := { up with aux := vmod up.aux 7 fun a => { a with running := true, firstWait := false, since := auxPeriod (up.auxRec 7) } }
     (vget x.aux 7).running = true ∧ x.auxDue 7 = true) ∧
    (∀ q ∈ [(true, 40), (false, 40)],
      let x := { withRec 3 7 [(0x10, 1, 2)] up with aux := vmod up.aux 7 fun a => { a with running := true, fixedInt := q.1, since := q.2 } }
      (vget x.aux 7).running = true ∧ (vget x.aux 7).fixedInt = q.1 ∧ carrierVar (auxCarrier (x.auxRec 7)) = true ∧
        auxMinPulseNs (x.auxRec 7) ≤ 5 * ((vget x.aux 7).since - (vget x.aux 7).varAt)) ∧
    (let x := { withRec 3 7 [(0x10, 1, 2), (0x1C, 4, 200), (0x20, 4, 200)] up with aux := vmod up.aux 7 fun a => { a with since := 40 } }
     auxFixedNs (x.auxRec 7) ≤ 5 * (vget x.aux 7).since ∧ auxLimitNs (x.auxRec 7) ≤ 5 * (vget x.aux 7).since) := by decide +kernel

theorem witness_PwmProtectionRows :
    ({ up with afe := { up.afe with running := true } }).afe.running = true ∧
      (vget (vmod up.aux 7 fun (a : Aux) => { a with pulling := true }) 7).pulling = true ∧ up.sys.halted = false ∧
      (1 : Int) ≠ 0 ∧ (inMode .workshop up).sys.mode = .workshop ∧ up.sys.mode ≠ .workshop := by decide +kernel

/-- Switch 5 of channel 11 is on, its blanking over, with the given enables. -/
def lit5 (flags : Nat) : Lane :=
  ax11 [(0x73, 1, flags)] fun a => { a with enabled := true, gate := { a.gate with drive := vset a.gate.drive 5 .on } }

theorem witness_GateCommandAndFaultRows :
    ((lit5 0).axis 11).enabled = true ∧ (lit5 0).patternHeld 11 = false ∧ bit ((lit5 0).axis 11).gate.cmd (other 5).val = false ∧
      bit (((lit5 0).onAxis 11 fun a => { a with gate := { a.gate with cmd := 0x10 } }).axis 11).gate.cmd (other 5).val = true ∧
      (up.axis 11).enabled = false ∧ rbEnabled ((lit5 2).axisRec 11) = true ∧ rbEnabled ((lit5 0).axisRec 11) = false ∧
      vget ((lit5 5).axis 11).gate.drive 5 = .on ∧ bit ((lit5 5).axis 11).gate.short (phaseOf 5).val = false ∧
      bit ((lit5 5).axis 11).gate.blank 5 = false ∧ scEnabled ((lit5 5).axisRec 11) = true ∧
      scellEnabled ((lit5 5).axisRec 11) 11 = true ∧ scEnabled ((lit5 0).axisRec 11) = false ∧
      scellEnabled ((lit5 0).axisRec 11) 11 = false ∧
      vget ((ax11 [] fun a => { a with gate := { a.gate with drive := vset a.gate.drive 5 .plateau } }).axis 11).gate.drive 5 = .plateau ∧
      vget ((ax11 [] fun a => { a with gate := { a.gate with drive := vset a.gate.drive 5 .soft } }).axis 11).gate.drive 5 = .soft := by
  decide +kernel

theorem witness_GateSupplyRows :
    bit (axis11 .simplex up).gd.valid 3 = true ∧ bit up.gd.valid 3 = false ∧ up.gd.gden = false ∧
      (let x := (axis11 .simplex up).onAxis 11 fun a => { a with enabled := true }
       (x.axis 11).enabled = true ∧ bit x.gd.valid (groupOf 11) = true) := by decide +kernel

theorem witness_ConversionAndSensorSupplyRows :
    (let c : Conv := { nn := 11, set := 1, input := 5, heldAt := 0 }
     let x := { up with afe := { up.afe with running := true, queues := vset up.afe.queues 5 [c, { c with input := 4 }], now := vset up.afe.now 5 .conv } }
     let y := (x.onAxis 11 fun a => { a with sense := { a.sense with sets := vset a.sense.sets 1 { waiting := true, left := 2, codes := [], content := 1 } } })
     x.afe.running = true ∧ x.afeOk = true ∧ vget x.afe.now 5 = .conv ∧ vget x.afe.queues 5 = [c, { c with input := 4 }] ∧
       (vget (x.axis 11).sense.sets 1).left ≤ 1 ∧ 2 ≤ (vget (y.axis 11).sense.sets 1).left) ∧
    (let x := { up with afe := { up.afe with running := true } }
     x.afe.running = true ∧ x.afeOk = true ∧ vget x.afe.now 5 ≠ .conv ∧ vget x.afe.queues 5 = []) ∧
    up.afe.running = false ∧
    (let x := { up with afe := { up.afe with running := true }, tm := { up.tm with loc := 65000000 } }
     x.forceDue 5 = true ∧ ({ x with tm := up.tm }).forceDue 5 = false) ∧
    ((up.onAxis 11 fun a => { a with fb := { a.fb with supply := .on } }).axis 11).fb.supply = .on ∧ (up.axis 11).fb.supply ≠ .on ∧
    (∀ n ∈ [(-1 : Int), 0, 1],
      let x := { up with emu := vmod up.emu 1 fun u => { u with running := true, count := n } }
      let y := x.onAxis (x.emulNn 1) fun a => { a with acc := { a.acc with valid := true } }
      (vget y.emu 1).running = true ∧ (y.axis (y.emulNn 1)).acc.valid = true ∧ y.fbClock = true ∧ (vget y.emu 1).count = n ∧
        y.emulTarget 1 = 0 ∧ (vget y.emu 1).stepAt = none ∧
        (let z := { y with emu := vmod y.emu 1 fun u => { u with stepAt := some 1000 }, tm := { y.tm with loc := 1100 } }
         (vget z.emu 1).stepAt = some 1000 ∧ 1000 + 100 ≤ z.tm.loc.toNat ∧
           ¬ 1000 + 100 ≤ ({ z with tm := { z.tm with loc := 1099 } }).tm.loc.toNat)) ∧
    (vget up.emu 1).running = false := by decide +kernel

/-- Channel 11 decodes the given protocol. -/
def feedback (p : Nat) (fields : List (Nat × Nat × Nat)) (f : Feedback → Feedback) : Lane :=
  ax11 ((0xB0, 1, p) :: fields) fun a => { a with fb := f { a.fb with running := true } }

/-- An SSI word with 8 bits, all 0. -/
def ssi0 : SsiWord := { bits := 0, startHigh := true, highAfter := some 0 }

/-- The pulses of SENT nibbles at a tick of 3 us: 12 ticks and one more for each unit, the low part 5 ticks (R305). -/
def nibbles (ns : List (BitVec 4)) : List SentPulse := ns.map fun n => { low := 15000, len := 3000 * (12 + n.toNat) }

/-- A SENT frame of six zero nibbles. -/
def sent0 (fields : List (Nat × Nat × Nat)) : Lane × SentFrame :=
  let d : List (BitVec 4) := List.replicate 6 0
  (feedback 4 ([(0xD0, 1, 12), (0xD2, 1, 0xFF), (0xD8, 2, 3000), (0xD7, 1, 6)] ++ fields) fun f => f,
    { sample := 0, sync := 168000, syncLow := 12000, pulses := nibbles ([0] ++ d ++ [BitVec.ofNat 4 (sentCrc d)]) })

theorem witness_PositionSensorRows :
    (let x := feedback 1 [] fun f => { f with first := true }
     let r := x.axisRec 11
     x.decodes 11 1 = true ∧ x.fbClock = true ∧ (x.axis 11).fb.sampled = false ∧ (x.axis 11).fb.first = true ∧ x.tooFast 11 = false ∧
       quadStep r false false true true = none ∧ quadStep r false false false false = some 0 ∧
       (quadStep r false false true false).isSome = true ∧ quadStep r false false true false ≠ some 0 ∧
       ({ pin := true, last := true, run := 255, level := none } : InFilter).sample 255 =
         { pin := true, last := true, run := 256, level := some true } ∧
       (InFilter.cold.sample 255).level = none) ∧
    (feedback 1 [] fun f => { f with window := [(0, 0)] }).tooFast 11 = true ∧
    ((feedback 1 [] fun f => { f with sampled := true }).axis 11).fb.sampled = true ∧
    ((feedback 1 [] fun f => f).axis 11).fb.first = false ∧
    (let x := feedback 2 [] fun f => { f with sector := some 5 }
     x.decodes 11 2 = true ∧ hallSector (x.axisRec 11) 7 = none ∧ (x.axis 11).fb.sector = some 5 ∧ (x.axis 11).fb.hall ≠ some 7 ∧
       hallSector (x.axisRec 11) 5 = some 5 ∧ hallSector (x.axisRec 11) 1 = some 0 ∧ 0 % 6 = (5 + 1) % 6 ∧
       hallSector (x.axisRec 11) 4 = some 4 ∧ (4 + 1) % 6 = 5 % 6 ∧
       hallSector (x.axisRec 11) 3 = some 1 ∧ 1 = (5 + 2) % 6 ∧ hallSector (x.axisRec 11) 6 = some 3 ∧ 3 = (5 + 4) % 6) ∧
    ((feedback 2 [] fun f => { f with hall := some 7 }).axis 11).fb.hall = some 7 ∧
    ((feedback 2 [] fun f => f).axis 11).fb.sector = none ∧
    (let x := feedback 3 [(0xD2, 1, 0xFF)] fun f => { f with ssiDue := true }
     x.decodes 11 3 = true ∧ (x.axis 11).fb.burst = false ∧ (x.axis 11).fb.readyAt ≤ x.tm.loc.toNat ∧ (x.axis 11).fb.ssiDue = true ∧
       ssiCause (x.axisRec 11) ssi0 false 0 0 = none ∧ 
         { ssi0 with startHigh := false }.startHigh = false ∧ { ssi0 with highAfter := none }.highAfter = none ∧
         1000 * monoUs (x.axisRec 11) < 1000 * monoUs (x.axisRec 11) + 1) ∧
    ((feedback 3 [] fun f => { f with burst := true }).axis 11).fb.burst = true ∧
    (let x := sent0 []
     x.1.decodes 11 4 = true ∧ x.1.decodes 11 3 = false ∧ sentCause (x.1.axisRec 11) x.2 = none ∧
       (((x.1.axis 11).fb.esmStep (x.1.axisRec 11) x.2).2 = false) ∧
       sentCause (x.1.axisRec 11) { x.2 with pulses := nibbles (List.replicate 8 0) } = some 2 ∧
       sentCause (x.1.axisRec 11) { x.2 with sync := 201700 } = some 4 ∧
       56 * ({ x.2 with syncLow := 11999 }).syncLow < 4 * x.2.sync ∧ ¬ 56 * x.2.syncLow < 4 * x.2.sync) := by decide +kernel

/-- R307: an encoder transition leaves the accumulator until the next cycle, which applies the new count. -/
theorem test_position_applied_in_next_cycle :
    let x := feedback 1 [(0xB2, 1, 1), (0xB8, 4, 64)] fun f => { f with first := true }
    let y := x.encoder 11 true false false
    (x.axis 11).acc.pos = 0 ∧ (y.axis 11).acc = (x.axis 11).acc ∧ (y.axis 11).fb.apply = some (none, false) ∧
      ((y.advance 11).axis 11).acc.pos = 1 / 64 ∧ ((y.advance 11).axis 11).acc.valid = true ∧
      ((y.advance 11).axis 11).fb.apply = none := by decide +kernel

/-- The status bits 3 and 2 of an enhanced message with an 8-bit identifier and 12 bits of data, oldest first. -/
def message (id data : Nat) : List (Bool × Bool) :=
  let bits (n v : Nat) : List Bool := (List.range n).map fun i => natBit v (n - 1 - i)
  let b3 := [true, true, true, true, true, true, false, false] ++ bits 4 (id / 16) ++ [false] ++ bits 4 (id % 16) ++ [false]
  let crc := (((b3.drop 6).zip (bits 12 data)).flatMap (fun x => [x.2, x.1]) ++ List.replicate 6 false).foldl esmCrcBit 21
  b3.zip (bits 6 crc ++ bits 12 data)

/-- The eighteenth frame of a diagnostic message completes it. -/
theorem witness_PositionSensorRows_message :
    let x := (sent0 [(0xDA, 1, 3), (0xDB, 1, 0x51)]).1.onAxis 11 fun a =>
      { a with fb := { a.fb with esm := (message 0x51 0x123).reverse.drop 1 } }
    let w := { (sent0 []).2 with pulses := nibbles ([4] ++ List.replicate 6 0 ++ [BitVec.ofNat 4 (sentCrc (List.replicate 6 0))]) }
    sentCause (x.axisRec 11) w = none ∧ ((x.axis 11).fb.esmStep (x.axisRec 11) w).2 = true := by decide +kernel

/-- Channel 11's supervisor in the given state. -/
def sup11 (d : Drive) (fails : Nat) : Lane :=
  ax11 [(0xE1, 1, 1), (0xB2, 1, 2), (0xFC, 2, 1000)] fun a => { a with sup := { a.sup with drive := d, fails := fails } }

theorem witness_SupervisorTimers :
    (∀ d ∈ [Drive.hfi, .observer, .catching, .coast, .polarity],
      ((sup11 d 0).axis 11).sup.drive = d ∧ ((sup11 d 0).axis 11).sup.movedAt ≠ some up.tm.loc) ∧
    ((sup11 .idle 0).axis 11).sup.drive = .idle ∧ ((sup11 .catching 1).axis 11).sup.fails < 2 ∧
    2 ≤ ((sup11 .catching 2).axis 11).sup.fails ∧ (sup11 .idle 0).supRuns 11 = true ∧ announceUs ((sup11 .idle 0).axisRec 11) ≠ 0 ∧
    ((sup11 .catching 0).axis 11).sup.locked = false ∧
    (∀ d ∈ [Drive.idle, .failed], ∀ b ∈ [false, true], ∀ f ∈ [none, some Drive.hfi],
      let x := (sup11 d 2).onAxis 11 fun a => { a with sup := { a.sup with start := b, fall := f } }
      (x.axis 11).sup.movedAt ≠ some x.tm.loc ∧ (x.axis 11).sup.drive = d ∧ (x.axis 11).sup.start = b ∧ (x.axis 11).sup.fall = f) ∧
    (let x := (sup11 .failed 2).onAxis 11 fun a => { a with sup := { a.sup with movedAt := some 1 } }
     let y := { x with tm := { x.tm with loc := 1 } }
     (y.axis 11).sup.movedAt = some y.tm.loc) ∧
    (∀ q ∈ [(0, false), (4, true)],
      let x := (ax11 [(0xE2, 1, q.1)] fun a => { a with sup := { a.sup with say := true } })
      (x.axis 11).sup.say = true ∧ natBit (commFlags (x.axisRec 11)) 2 = q.2 ∧ x.keeperStopped = false) ∧
    ((sup11 .idle 0).axis 11).sup.say = false := by
  decide +kernel

/-- A checkpoint record of device axis `axis` with one gather value. -/
def checkpoint (axis seq : Nat) (good : Bool) : Bytes :=
  let b := putAt (putAt (List.replicate 192 0) 0 ([BitVec.ofNat 8 axis, 1, 1, 0] ++ leBytes 4 seq)) 0xB8 (leBytes 4 seq)
  putAt b 0xBC (leBytes 4 (crc32c (b.take 0xBC) + b2n (!good)))

/-- Channel 11 stands by for device axis 20 and commits the given record. -/
def standby (fields : List (Nat × Nat × Nat)) (b : Bytes) : Lane :=
  ax11 ((0x11, 1, 20) :: fields) fun a => { a with role := .duplexStandby, red := { a.red with commit := some (1, b) } }

theorem witness_CheckpointCommit :
    (up.axis 11).red.commit = none ∧
    (let x := standby [] (checkpoint 20 1 false)
     (x.axis 11).red.commit = some (1, checkpoint 20 1 false) ∧ ckptValid (peer0 (x.axisRec 11)) (checkpoint 20 1 false) = false) ∧
    (let x := standby [] (checkpoint 20 1 true)
     ckptValid (peer0 (x.axisRec 11)) (checkpoint 20 1 true) = true ∧ (x.axis 11).acc.valid = false) ∧
    (let x := (standby [(0x18, 1, 2)] (checkpoint 20 1 true)).onAxis 11 fun a => { a with acc := { a.acc with valid := true } }
     let y := { x with tm := { x.tm with sync := .lane } }
     ckptValid (peer0 (y.axisRec 11)) (checkpoint 20 1 true) = true ∧ monMode (y.axisRec 11) ≠ 0 ∧ (y.axis 11).acc.valid = true ∧
       y.tm.sync ≠ .none) := by decide +kernel

/-- A takeover in the given condition. -/
def takeover (c : TakeCause) (role : Bool) : Takeover := { cause := c, role := role, duty := false, released := false }

theorem witness_TakeoverWaitAndRotations :
    (∃ t : Takeover, ((ax11 [] fun a => { a with red := { a.red with takeover := some (takeover .mismatch false) } }).axis 11).red.takeover
      = some t ∧ t.cause = .mismatch ∧ t.released = false) ∧
    ((up.axis 11).red.takeover = none) ∧
    (let x := ax11 [] fun a => { a with role := .duplexStandby }; x.sys.lstate = .active ∧ (x.axis 11).role = .duplexStandby ∧
      (x.axis 11).red.takeover = none) ∧
    ¬((up.sys.lstate = .active ∧ (up.axis 11).role = .duplexStandby)) ∧
    (let b := checkpoint 20 1 true
     let x := (standby [] b).onSlot 63 fun g => { g with st := .running, nodes := [word 0xA6 1 0 1 0 (coefAt 0) 11], coef := [0] }
     let y := { x with mem := { x.mem with granary := memWriteN [] (granaryAt 11 1) b } }
     (y.usableRecord 11 = some (b, 63, 0)) ∧ y.usableRecord 10 = none ∧ staleAction (y.axisRec 10) ≠ 1) ∧
    (let x := ax11 [(0x22, 1, 1)] fun a => a; x.usableRecord 11 = none ∧ staleAction (x.axisRec 11) = 1) := by
  refine ⟨⟨takeover .mismatch false, by decide +kernel⟩, ?_⟩; decide +kernel

/-- A report of the given source. -/
def flagged (src : Nat) : Flagged := report src 0xFF 0 63 0

/-- A lane whose collector holds a record of source 3. -/
def recorded : Lane := { up with fc := { up.fc with first := some { src := 3, cls := 1, time := 0, ctx := [] }, checked := true } }

theorem witness_FaultReportRows :
    up.awake = true ∧ storedReg 0x48 = true ∧ bit up.fc.mask 0 = false ∧
      (let z := recorded.collect [{ rep := { src := 0, axis := 0xFF, detail := 0, index := 0x18, data := 0, units := [] }, wire := false, complement := true }]
       (∃ r, z.fc.first = some r ∧ r.src.val ≠ 0) ∧ recorded.fc.first ≠ none ∧ storedReg 0x18 = true ∧ 0x18 < 0x1C) ∧
      up.fc.first = none ∧ storedReg 0x4C = false ∧ up.lineHeld 102 = false ∧
      (up.onChan 0 fun c => { c with view := .lost }).lineHeld 102 = true ∧ (inState .off up).awake = false ∧
      bit ({ up with fc := { up.fc with mask := 0xC0 } }).fc.mask (flagged 7).rep.src.val = true ∧
      (∀ s ∈ [6, 7], (flagged s).rep.src.val = s ∧ (flagged s).wire = false ∧ (flagged s).rep.index.toNat = (63 : Fin 64).val) ∧
      (flagged 9).rep.src.val = 9 ∧ (flagged 16).rep.src.val = 16 ∧ (flagged 22).rep.src.val = 22 ∧
      (∀ s ∈ [1, 2, 3, 12], (flagged s).rep.src.val ∈ [1, 2, 3, 12]) ∧ (flagged 23).rep.src.val = 23 ∧
      (∀ s ∈ [6, 7, 9], ({ flagged s with wire := true }).rep.src.val = s ∧ ({ flagged s with wire := true }).wire = true) ∧
      64 ≤ (report 6 0xFF 0 64 0).rep.index.toNat ∧ srcReserved 13 = true ∧ srcReserved 102 = false := by
  refine ⟨?_, ?_, ?_, ⟨⟨{ src := 3, cls := 1, time := 0, ctx := [] }, ?_⟩, ?_⟩, ?_⟩ <;> decide +kernel

theorem witness_CollectorRecord :
    up.awake = true ∧ up.reportNew (flagged 7) = true ∧ up.fc.first = none ∧ recorded.reportNew (flagged 7) = true ∧
      recorded.fc.first = some { src := 3, cls := 1, time := 0, ctx := [] } ∧ up.reportNew (flagged 127) = false := by decide +kernel

/-- A supervisor cycle in which the primary core makes the given request, the delayed word upset as given. -/
def pairCycleOf (r : Option BusReq) (marker : BitVec 2) (invalid : Bool) : PairCycle :=
  let out : CoreOut := { req := r, reg := none, pc := none, ack := false }
  { readData := 0, irq := 0, debug := false, release := true, primary := out, shadow := out, accept := true,
    upset := { readData := 0, irq := 0, stall := false, debug := false, release := false, parity := false, marker := marker },
    damagePrimary := 0, damageShadow := 0, releaseInvalid := invalid }

/-- The lane whose pair is changed. -/
def withPair (f : Lockstep → Lockstep) : Lane := { up with lk := f up.lk }

/-- The window that the comparators judge in the next cycle: window 5, its signatures 7 and `b`. -/
def dueWindow (b : W64) (k : Lockstep) : Lockstep :=
  { k with closed := [{ num := 5, length := 64, sigPrimary := 7, sigShadow := some b, wait := 1 }] }

/-- A delayed word as it stands in the second stage. -/
def delayed (marker : BitVec 2) : DelayWord :=
  let i : PairInput := { readData := 0, irq := 0, stall := false, debug := false, release := true }
  { input := i, marker := marker, parity := i.parity }

theorem witness_LockstepRows :
    up.portOn = true ∧ up.pairRuns = true ∧ (withPair fun k => { k with failed := true }).pairRuns = false ∧
      (∀ n ∈ [20, 21, 22], ({ up with tst := { up.tst with run := some {
        kind := .service, todo := [], now := some n, passed := 0, failed := 0, wake := false } } }).pairRuns = false) ∧
      ({ lane := 0, cycles := [pairCycleOf none 0 false] } : StoreBurst).lane = 0 ∧
      (let k := { up.lk with stage2 := some (delayed 0), marker := 3 }
       k.delayFails (pairCycleOf none 0 false) = false ∧ k.delayFails (pairCycleOf none 1 false) = true ∧
         up.lk.delayFails (pairCycleOf none 0 false) = false) ∧
      (let z := up.lk.cycle false false (pairCycleOf none 0 false); z.failed = false ∧ z.due = none) ∧
      (∀ q ∈ [(Comparator.sound, Comparator.sound, 7, true, true), (.sound, .sound, 8, false, false),
          (.stuckClean, .sound, 8, true, false), (.stuckMismatch, .sound, 7, false, true)],
        let z := (dueWindow q.2.2.1 up.lk).cycle false false (pairCycleOf none 0 false)
        z.failed = false ∧ (z.due.map fun w => (w.1.num, w.1.sigPrimary, w.2)) = some (5, 7, q.2.2.1) ∧
          finds q.1 7 q.2.2.1 = q.2.2.2.1 ∧ finds q.2.1 7 q.2.2.1 = q.2.2.2.2) ∧
      (pairCycleOf none 0 true).releaseInvalid = true ∧ (pairCycleOf none 0 false).releaseInvalid = false ∧
      up.pairTesting = false ∧ (inState .init up).pairTesting = true := by decide +kernel

/-- A request at 0x40. -/
def reqAt (kind : ReqKind) : BusReq := { addr := 0x40, data := 7, be := 0xFF, kind := kind }

theorem witness_LockstepRows_cycle :
    up.lk.stage2 = none ∧ ({ up.lk with stage2 := some (delayed 0) }).stage2 = some (delayed 0) ∧ up.lk.done ≠ 63 ∧
      ({ up.lk with done := 63 }).done = 63 ∧
      (∀ kind ∈ [ReqKind.load, .store, .pop], (pairCycleOf (some (reqAt kind)) 0 false).primary.req = some (reqAt kind)) ∧
      (pairCycleOf none 0 false).primary.req = none ∧ (reqAt .load).kind = .load ∧ (reqAt .pop).kind ≠ .load ∧
      (let k := { up.lk with
         buffer := [{ req := reqAt .store, window := 0, clean := true }, { req := { reqAt .store with data := 8 }, window := 1, clean := false }] }
       let y := { k with done := 63 }.cycle false false (pairCycleOf (some (reqAt .load)) 0 false)
       y.forward = some 8 ∧ y.buffer.length = 1 ∧ y.window = 1 ∧ y.done = 0) ∧
      (let k := { up.lk with buffer := List.replicate 127 { req := reqAt .store, window := 0, clean := false } }
       (k.cycle false false (pairCycleOf (some (reqAt .store)) 0 false)).stall = true ∧
         (k.cycle false true (pairCycleOf (some (reqAt .store)) 0 false)).stall = false) := by decide +kernel

/-- A self-test run. -/
def testRun (kind : RunKind) (todo : List Nat) (now : Option Nat) (wake : Bool) : TestRun :=
  { kind := kind, todo := todo, now := now, passed := 0, failed := 0, wake := wake }

/-- A lane with that run in progress. -/
def testing (r : TestRun) : Lane := { up with tst := { up.tst with run := some r } }

theorem witness_SelfTestSlices :
    (∀ kind ∈ [RunKind.startup, .shutdown, .service], let q := testRun kind [14, 23] none false
      (testing q).awake = true ∧ (testing q).tst.run = some q ∧ q.now = none ∧ q.wake = false ∧ q.todo = 14 :: [23] ∧ q.passed = 0 ∧ q.failed = 0) ∧
    ((∀ i : Fin 64, (up.slot i).run = none) ∧ ∀ u : UnitId, up.unit u = none) ∧
    (({ up with dsp := { up.dsp with units := vset up.dsp.units 3 (some job) } }).unit 3 = some job) ∧
    (let q := testRun .service [] none false; (testing q).tst.run = some q ∧ q.todo = []) ∧
    up.tst.run = none ∧ (∃ q, (testing (testRun .service [1] none true)).tst.run = some q ∧ q.wake = true) ∧
    (let q := testRun .startup [] (some 23) false; (testing q).tst.run = some q ∧ q.now = some 23) ∧
    (∃ sig, sig ≠ Config.sliceSignature up.idx 23) := by
  refine ⟨by decide +kernel, by decide +kernel, by decide +kernel, by decide +kernel, by decide, ⟨_, rfl, rfl⟩, by decide +kernel, ⟨Config.sliceSignature up.idx 23 + 1, ?_⟩⟩
  intro h
  have := congrArg (· - Config.sliceSignature up.idx 23) h
  simp at this

theorem witness_SelfTestSeal :
    (let q := testRun .shutdown [] none false
     (testing q).awake = true ∧ (testing q).tst.run = some q ∧ q.now = none ∧ q.todo = [] ∧ q.kind = .shutdown ∧ q.wake = false) ∧
    (let q := testRun .shutdown [5] none true; (testing q).tst.run = some q ∧ q.now = none ∧ q.wake = true) ∧
    (let q := testRun .startup [] none false; (testing q).tst.run = some q ∧ q.todo = [] ∧ q.kind ≠ .shutdown) ∧
    up.tst.run = none ∧
    (let q := testRun .startup [5] none false; (testing q).tst.run = some q ∧ q.todo ≠ [] ∧ q.wake = false) := by decide +kernel

/-- Endpoint 511 with the given role and state. -/
def endpoint (role : Nat) (st : EpState) : Lane :=
  (withRec 8 511 [(0x12, 1, role), (0x28, 4, 1000)] up).onEp 511 fun e => { e with st := st, watch := true }

theorem witness_ConnectionTimersAndTrunks :
    (∀ st ∈ [EpState.waiting, .running], let x := (endpoint 2 st).onChan 1 fun c => { c with view := .lost }
      connRole (x.connRec 511) = 2 ∧ (x.ep 511).watch = true ∧ (x.ep 511).st = st ∧ (vget x.net.chan 1).view ≠ .absent ∧
        x.heldFor 511 = false ∧ ({ x with net := { x.net with hold := .holding } }).heldFor 511 = true) ∧
    (let x := endpoint 2 .failed; (x.ep 511).st ≠ .waiting ∧ (x.ep 511).st ≠ .running) ∧
    (let x := endpoint 1 .running; connRole (x.connRec 511) = 1 ∧ refreshUs (x.connRec 511) ≠ 0 ∧ (x.ep 511).st = .running) ∧
    (let x := endpoint 1 .waiting; (x.ep 511).st ≠ .running) ∧
    (let x := { up with net := { up.net with trunkSeen := 8, trunkMissed := vset up.net.trunkMissed 3 255 } }
     x.awake = true ∧ bit x.net.trunkSeen 3 = true ∧ bit x.net.trunkLost 3 = false ∧
       trunkLossCycles x.cascadeRec ≤ vget x.net.trunkMissed 3) ∧
    (let x := { up with net := { up.net with trunkSeen := 8, trunkLost := 8 } }
     x.awake = true ∧ bit x.net.trunkLost 3 = true ∧ bit x.net.trunkEnded 3 = false) := by decide +kernel

/-- What consumers and producers do: the ends of a container, the checks, an endpoint FAILED with and without its recovery complete,
an offer below and at ver_min, a producer with and without a payload. -/
theorem witness_ConnectionTimersAndTrunks_pdus :
    (pdu 1 0).length = 20 ∧ ¬(pdu 1 0).length < 0 + 20 ∧ (pdu 1 0).length < 1 + 20 ∧ fieldAt (pdu 1 0) 0 2 ≠ 0 ∧
    fieldAt (List.replicate 20 0) 0 2 = 0 ∧
    pduForm ((listening none).connRec 5) (pdu 1 0) 1 = some 5 ∧ pduForm ((listening none).connRec 5) ((pdu 1 0).set 12 7) 0 = some 1 ∧
    (seqCheck (some 0) false 32768).1 = false ∧ (seqCheck (some 0) false 32767).1 = true ∧
    (let x := (listening none).onEp 5 fun e => { e with st := .failed }
     (x.ep 5).st = .failed ∧ recoverCount (x.connRec 5) ≤ recoverCount (x.connRec 5) + 0 + 1 ∧
       ¬(recoverMode (x.connRec 5) = 0 ∧ recoverCount (x.connRec 5) ≤ (x.ep 5).okRun + 1) ∧
       (let y := x.onEp 5 fun e => { e with okRun := recoverCount (x.connRec 5) - 1 }
        recoverMode (y.connRec 5) = 0 ∧ recoverCount (y.connRec 5) ≤ (y.ep 5).okRun + 1)) ∧
    ((listening none).ep 5).st ≠ .failed ∧ ((listening none).ep 5).offer = none ∧
    (((listening none).onEp 5 fun e => { e with offer := some 1 }).ep 5).offer = some 1 ∧
    (let x := (endpoint 1 .running).onEp 511 fun e => { e with complete := some [1, 2, 3, 4] }
     (x.ep 511).complete = some [1, 2, 3, 4] ∧ connRole (x.connRec 511) = 1 ∧ (x.ep 511).st = .running) ∧
    ((endpoint 1 .running).ep 511).complete = none := by decide +kernel

/-- Pair 15 in use, changed. -/
def pair15 (f : Pair → Pair) : Lane := (withRec 4 15 [(0x10, 1, 1)] up).onPair 15 f

theorem witness_InputAndTestPulseRows :
    up.awake = true ∧ up.sys.parked = false ∧ up.clockOn 1 = true ∧ up.inSlice 7 = false ∧ up.inp.low = none ∧ up.inp.exclTo ≤ up.tm.loc.toNat ∧
      up.tm.loc.toNat % 10000 = 0 ∧ ¬(({ up with inp := { up.inp with exclTo := 1 } }).inp.exclTo ≤ up.tm.loc.toNat) ∧
      (let x := { up with inp := { up.inp with pulsing := true }, tm := { up.tm with loc := 12000000 } }
       x.inp.pulsing = true ∧ x.inp.low = none ∧ x.tm.loc.toNat % 16000000 = 4000000 * (3 : Fin 4).val + 0) ∧
      (∀ ns ∈ [200000, 300000],
        let x := { up with inp := { up.inp with pulsing := true, low := some 3 }, tm := { up.tm with loc := BitVec.ofNat 64 (12000000 + ns) } }
        x.inp.pulsing = true ∧ x.inp.low = some 3 ∧ x.tm.loc.toNat % 16000000 = 4000000 * (3 : Fin 4).val + ns) ∧
      (let x := pair15 fun p => { p with discr := true }; pairMode (x.pairRec 15) ≠ 0 ∧ (x.pair 15).discr = true) ∧
      (let x := pair15 fun p => { p with restart := true }; pairMode (x.pairRec 15) ≠ 0 ∧ (x.pair 15).restart = true) ∧
      pairMode (up.pairRec 15) = 0 := by decide +kernel

/-- Samples, tests and leaving: a first rejected change that reaches chatter_count and one that does not, a stuck and a cross-fed
contact, a pair that may leave and one that may not. -/
theorem witness_InputAndTestPulseRows_pairs :
    pairMode (up.pairRec 15) = 0 ∧
    (∀ n ∈ [1, 2],
      let x := (withRec 4 15 [(0x10, 1, 1), (0x18, 1, n)] up).onPair 15 fun p => { p with n1 := 1 }
      chatterCount (x.pairRec 15) = n ∧ pairMode (x.pairRec 15) = 1 ∧ false = (x.pair 15).f1 ∧ (x.pair 15).n1 ≠ 0 ∧ (x.pair 15).rejects = []) ∧
    (let x := (withRec 4 15 [(0x10, 1, 1), (0x11, 1, 3), (0x12, 1, 2)] up).onPair 15 fun p => { p with r1 := true, r2 := true }
     pairMode (x.pairRec 15) ≠ 0 ∧ tp1 (x.pairRec 15) = (3 : Fin 4).val ∧ tp2 (x.pairRec 15) ≠ (3 : Fin 4).val ∧ (x.pair 15).r1 = true ∧ (x.pair 15).r2 = true) ∧
    (let x := pair15 fun p => { p with forced := true, restartDone := true, cleared := true, tested := 3 }
     (x.pair 15).agreed (pairMode (x.pairRec 15)) = some false ∧ (x.pair 15).forced = true ∧ (x.pair 15).restartDone = true ∧
       (x.pair 15).cleared = true ∧ bit (x.pair 15).tested 0 = true ∧ bit (x.pair 15).tested 1 = true) ∧
    (let x := pair15 fun p => { p with f2 := true }; (x.pair 15).agreed (pairMode (x.pairRec 15)) = none) ∧
    ((pair15 fun p => { p with forced := false }).pair 15).forced = false ∧
    (let x := pair15 fun p => { p with causeAt := some up.tm.loc, cause := 1 }; (x.pair 15).causeAt = some x.tm.loc) := by decide +kernel

/-- Channel 15 moves 8 bytes from the source address to the destination, in units of 4. -/
def stream (src dst : Nat) (st : StState) (tlb : List (Nat × Nat)) : Lane :=
  let x := (withRec 10 15 [(0x10, 4, src), (0x14, 4, dst), (0x18, 3, 8), (0x1B, 1, 0x22)] up).onStream 15 fun h => { h with st := st }
  { x with str := { x.str with tlb := tlb } }

theorem witness_StreamBeats :
    (∀ st ∈ [StState.running, .stopping], let x := stream 0x50000000 0x50000100 st []
      (x.chan 15).st = st ∧ (x.chan 15).walking = none ∧ x.portOn = true ∧ x.supClock = true ∧ x.inSlice 6 = false ∧
        (∀ d : Fin 16, d ≠ 15 → (x.chan d).st ≠ .running ∧ (x.chan d).st ≠ .stopping) ∧
        (x.streamLatch 15).srcFault 15 = none ∧ (x.streamLatch 15).beatMiss 15 = some 0x50000000) ∧
    ((stream 0x40000000 0x50000100 .running []).streamLatch 15).srcFault 15 = some (.notPermitted, 0x40000000) ∧
    (let x := (stream 0x50000000 0x60000000 .running []).streamLatch 15
     x.srcFault 15 = none ∧ (x.streamFill 15).dstFault 15 = some (.notMapped, 0x60000000)) ∧
    (let x := (stream 0x50000000 0x50000100 .running []).streamLatch 15
     (x.chan 15).nextSrc < x.readEnd 15 (x.beatTo 15 (x.chan 15).beat) ∧ (x.streamFill 15).dstFault 15 = none) ∧
    (let x := ((stream 0x50000000 0x50000100 .running []).onStream 15 fun h => { h with nextSrc := 4 }).streamLatch 15
     ¬(x.chan 15).nextSrc < x.readEnd 15 (x.beatTo 15 (x.chan 15).beat)) ∧
    ¬((stream 0x50000000 0x50000100 .halted []).chan 15).st = .running ∧
    (∀ w ∈ [false, true], ∀ m ∈ [false, true], ({ write := w, memory := m } : BeatError).write = w) ∧
    0 < retryMax ((stream 0 0 .running []).streamRec 15) ∧ ¬255 < retryMax ((stream 0 0 .running []).streamRec 15) ∧
    streamPlace 0x10FFFFFF = .coef 63 0x3FFFF ∧ streamPlace 0x14000000 = .node 0 0 ∧ streamPlace 0x30000000 = .granary 0 ∧
    streamPlace 0x40000000 = .trace 0 ∧ streamPlace 0x500FFFFF = .memory 0xFFFFF ∧ streamPlace 0x20000080 = .endpoint 1 0 ∧
    streamPlace 0x60000000 = .none := by decide +kernel

/-- The channel with the pages of its first beat in the TLB. -/
def mapped : Lane :=
  stream 0x50000000 0x50000100 .running
    [(15, Config.tlbPage 0x50000000), (15, Config.tlbPage 0x50000003), (15, Config.tlbPage 0x50000100)]

theorem witness_StreamBeats_hit : (mapped.streamLatch 15).beatMiss 15 = none := by
  have h : (mapped.streamLatch 15) = mapped := rfl
  have a : (mapped.chan 15).nextSrc = 0 := rfl
  have b : mapped.readEnd 15 (mapped.beatTo 15 (mapped.chan 15).beat) = 4 := by decide +kernel
  have c : mapped.srcAddr 15 0 = 0x50000000 := by decide +kernel
  have d : mapped.srcAddr 15 3 = 0x50000003 := by decide +kernel
  have e : mapped.beatAddr 15 (mapped.chan 15).beat = 0x50000100 := by decide +kernel
  have t : mapped.str.tlb = [(15, Config.tlbPage 0x50000000), (15, Config.tlbPage 0x50000003), (15, Config.tlbPage 0x50000100)] := rfl
  rw [h]
  simp [Lane.beatMiss, a, b, c, d, e, t]

theorem witness_StreamTriggersWalksAndMap :
    (∀ st ∈ [StState.waiting, .running], let x := (withRec 10 15 [(0x1E, 1, 75), (0x1F, 1, 1)] up).onStream 15 fun h => { h with st := st }
      streamWait (x.streamRec 15) = true ∧ streamTrigger (x.streamRec 15) = (75 : Byte).toNat ∧ x.inSlice 6 = false ∧ (x.chan 15).st = st) ∧
    streamWait ((stream 0 0 .running []).streamRec 15) = false ∧ ((stream 0 0 .running []).chan 15).walking = none ∧
    (((stream 0 0 .running []).onStream 15 fun h => { h with walking := some 0x50000000 }).chan 15).walking = some 0x50000000 ∧
    (stream 0 0 .running []).str.tlb.length < 256 ∧ 256 ≤ (stream 0 0 .running (List.replicate 256 (0, 0))).str.tlb.length ∧
    connRole (up.connRec (fin ((0x2000FFFF - 0x20000000) / 0x80))) ≠ 1 ∧ memOk up.mem.stream = true := by decide +kernel

/-- A schedule entry: start 1,000 ns, length 2,000 ns, in every cycle, acceptance window 500 ns. -/
def entry (owner kind : Nat) : Bytes :=
  leBytes 4 1000 ++ leBytes 4 2000 ++ leBytes 1 owner ++ leBytes 1 kind ++ [1, 0] ++ leBytes 2 500 ++ [1, 0]

/-- A working Green with one slot, its port 0 in the given state. -/
def greenWith (sync : Bool) (owner kind : Nat) (st : PortState) : Green :=
  { Green.cold with synced := sync, sched := some [entry owner kind], section8 := [0, 0, 0, 0, 4, 3, 8, 8] }.onPort 0 fun q => { q with st := st }

/-- A frame of schedule 0 in good form. -/
def frame (kind slot : Nat) (p : Bytes) : CttFrame :=
  { cttFrame { chan := 0, source := 0, kind := kind, slot := slot, cycle := 0, rank := 0, scheduleId := 0, length := 0 } [] with
    payload := p }

/-- The verdict on a start t ns after the cycle's. -/
def verdict (x : Green) (kind : Nat) (t : Int) : Judged :=
  let now := x.timeAt t
  let w := x.measure 0 0 (frame kind 0 []) now
  w.judge 0 0 (now - w.cycleAt)

theorem witness_GreenFrameIngressRow :
    (let x := greenWith true 0 1 .opened
     x.powered = true ∧ x.clockOk = true ∧ x.testPin = false ∧ x.hot = false ∧ (x.port 0).st = .opened ∧ x.synced = true ∧
       (frame 1 0 []).kind ≠ 5 ∧ verdict x 1 500 = .inside (slotEntry (entry 0 1)) ∧ verdict x 1 499 = .outside ∧
       verdict x 1 1501 = .outside) ∧
    verdict (greenWith true 1 1 .opened) 1 500 = .stranger ∧
    ((greenWith true 0 1 .closed).port 0).st = .closed ∧
    (frame 5 0 []).kind = 5 ∧ 16 ≤ (18 : Fin 19).val ∧
    (let x := greenWith false 0 3 .opened
     x.synced = false ∧ x.coldSlot 0 (frame 3 0 []) = some (slotEntry (entry 0 3)) ∧ x.coldSlot 0 (frame 1 0 []) = none ∧
       x.block = none ∧ ({ x with block := some 7 } : Green).block = some 7 ∧ (7 : Fin 19) ≠ 0) ∧
    ((greenWith true 0 1 .down).port 0).st ≠ .opened ∧ ((greenWith true 0 1 .down).port 0).st ≠ .closed ∧
    (((greenWith true 0 1 .opened).port 16).up = true ∧ (16 : Fin 19) ≠ 0 ∧
      ((greenWith true 0 1 .opened).send 0 0 (frame 1 0 []) 0).egress.length = 3) := by decide +kernel

/-- An unsynchronised Green with COLDSTART slots of the ports 0 and 1, on which a frame at `p` has won the forwarding at time 100. -/
def contending (p : Fin 19) : Green :=
  ({ greenWith false 0 3 .opened with sched := some [entry 0 3, entry 1 3] }.onPort 1 fun q => { q with st := .opened }).ingress 0 p
    (frame 3 p.val []) 100

theorem witness_GreenFrameIngressRow_rivals :
    ∀ p : Fin 2, let x := contending (fin p.val)
      let q : Fin 19 := fin (1 - p.val)
      (x.arb.map fun a => (a.port.val, a.start)) = some (p.val, 100) ∧ x.coldSlot q (frame 3 q.val []) ≠ none ∧
        (x.port q).st = .opened ∧ ((108 : Int) - 100).natAbs ≤ 8 ∧ ¬((109 : Int) - 100).natAbs ≤ 8 := by decide +kernel

/-- A part of a download, and a Green that forwarded a COLDSTART frame from port 0 one cycle of 1,000,000 ns before time 1,000,000. -/
def chunk (casc : Bool) : SchedChunk := { dlCrc := 7, cascade := casc, netSection := [], part := 0, parts := 1, record := [1] }

theorem witness_GreenFrameIngressRow_effects :
    (let x := { greenWith false 0 3 .opened with lastFwd := [(0, 1000, 0)] }
     let e := slotEntry (entry 0 3)
     (∀ d ∈ [-500, (500 : Int)], ∃ k ∈ x.lastFwd, k.1 = 0 ∧ ((x.cycleNs : Int) + d - k.2.2 - x.cycleNs).natAbs ≤ e.acceptNs) ∧
       ¬(∃ k ∈ x.lastFwd, k.1 = 0 ∧ ((x.cycleNs : Int) + 501 - k.2.2 - x.cycleNs).natAbs ≤ e.acceptNs)) ∧
    (frame 3 0 []).fcsOk = true ∧ ({ frame 3 0 [] with fcsOk := false } : CttFrame).fcsOk = false ∧ (frame 5 0 []).sched = none ∧
    (∀ c ∈ [false, true], ({ frame 5 0 [] with sched := some (chunk c) } : CttFrame).sched = some (chunk c) ∧
      twoCopies [(16, 0, chunk c)] 16 (chunk c) = none ∧
      twoCopies [(17, 0, chunk c), (16, 10000000000, chunk c)] 16 (chunk c) = some [[1]] ∧ (chunk c).cascade = c) ∧
    (greenWith true 0 1 .opened).sched ≠ none ∧ Green.cold.sched = none ∧ ({ Green.cold with dlCrc := 7 } : Green).dlCrc = (chunk false).dlCrc ∧
    Green.cold.dlCrc ≠ (chunk false).dlCrc := by decide +kernel

theorem witness_GreenCycleAndLinkRows :
    (let x := { greenWith true 0 1 .opened with arriving := [18], quiet := 8 }
     x.on = true ∧ 18 ∈ x.arriving ∧ x.synced = true ∧ x.follow = none ∧ 8 ≤ x.quiet) ∧
    (let x := { greenWith true 0 1 .opened with hot := true }; x.on = false) ∧
    (Green.cold.synced = false ∧ (0 : Fin 19) ∉ Green.cold.arriving) ∧
    (let x := (greenWith true 0 1 .closed).onPort 0 fun q => { q with hit := true, clean := 7 }
     (x.port 0).st = .closed ∧ (x.port 0).hit = true ∧ (x.port 0).miss = false ∧ x.reopenCycles = 8) ∧
    (greenWith true 0 1 .closed).quiet < 8 := by decide +kernel

/-- A lane with one slot on Green A. -/
def scheduled (owner kind : Nat) (fields : List (Nat × Nat × Nat)) (x : Lane) : Lane :=
  let y := withRec 1 0 fields x
  { y with fl := { y.fl with recs := y.fl.recs ++ [{ rtype := 9, inst := 0, parts := [List.replicate 16 0 ++ entry owner kind] }] } }

/-- The lane in the given integration state. -/
def integ (v : Integ) (x : Lane) : Lane := { x with net := { x.net with integ := v } }

theorem witness_LaneFrameRow :
    (let x := integ .active (scheduled 0 1 [] up)
     let f := frame 1 0 []
     x.awake = true ∧ f.kind ≠ 6 ∧ (f.fcsOk = true ∧ f.ethertype = 0x88B5 ∧ f.vlan = false ∧ f.version.toNat / 256 = 1 ∧
       f.flags.toNat / 2 = 0 ∧ f.flags.toNat % 2 = (0 : GreenId).val) ∧ f.scheduleId.toNat = scheduleId x.laneRec ∧
       x.adoptable 0 f = none ∧ x.frameSlot 0 f 500 = some (slotEntry (entry 0 1)) ∧ x.frameSlot 0 f 499 = none ∧
       x.frameSlot 0 f 3520 = some (slotEntry (entry 0 1)) ∧ x.frameSlot 0 f 3521 = none) ∧
    (let x := integ .listen (scheduled 0 3 [] up)
     x.adoptable 0 (frame 3 0 []) = some (slotEntry (entry 0 3)) ∧ x.adopts (frame 3 0 []) = true) ∧
    (frame 6 0 []).kind = 6 ∧ ({ frame 1 0 [] with fcsOk := false } : CttFrame).fcsOk ≠ true ∧ (inState .off up).awake = false ∧
    (let x := { up with net := { up.net with copies := [(0, 0, [1])] } }
     x.net.copies.find? (fun c => c.1 = (frame 1 0 []).slot.toNat && c.2.1 = (frame 1 0 []).cycle.toNat) = some (0, 0, [1]) ∧
       ((0, 0, [1]) : Nat × Nat × Bytes).2.2 ≠ (frame 1 0 []).payload.take (frame 1 0 []).length.toNat) ∧
    (up.net.copies.find? (fun c => c.1 = (frame 1 0 []).slot.toNat && c.2.1 = (frame 1 0 []).cycle.toNat) = none) := by decide +kernel

theorem witness_LaneSendRows :
    (∀ v ∈ [Integ.coldstart, .integrating, .active, .listen, .passive], ∀ k ∈ [1, 2, 3, 4],
      let x := integ v (scheduled 16 k [(0x31, 1, 3)] up)
      x.slotOf 0 0 = some (slotEntry (entry 16 k)) ∧ x.awake = true ∧ x.keeperStopped = false ∧
        (slotEntry (entry 16 k)).owner = 16 + x.idx.val ∧ (slotEntry (entry 16 k)).occurs x.net.cycle = true ∧ x.net.integ = v ∧
        (slotEntry (entry 16 k)).kind = k) ∧
    up.slotOf 0 1023 = none ∧ (scheduled 17 1 [] up).slotOf 0 0 = some (slotEntry (entry 17 1)) ∧ (slotEntry (entry 17 1)).owner ≠ 16 ∧
    (let x := integ .active (scheduled 16 1 [] up)
     x.net.integ = .active ∧ ¬x.sys.lstate = .safe ∧ x.ownsData 0 = true) ∧
    (let x := scheduled 16 1 [] (up.onChan 1 fun c => { c with download := some 1 })
     (vget x.net.chan 1).download = some 1 ∧ x.awake = true ∧ x.keeperStopped = false ∧ ¬x.sys.lstate = .safe) ∧
    (vget up.net.chan 1).download = none ∧ (vget up.net.chan 1).cascade = none ∧
    (vget (up.onChan 1 fun c => { c with cascade := some 2 }).net.chan 1).cascade ≠ none ∧
    (let x := { up with net := { up.net with svcOut := [(0, 7, [1])] } }
     (x.net.svcOut.find? fun y => decide (y.1 = x.net.cycle) && decide (y.2.1 = 7)) = some (0, 7, [1])) ∧
    (let x := up.onMb 7 fun b => { b with st := .done }
     (x.net.svcOut.find? fun y => decide (y.1 = x.net.cycle) && decide (y.2.1 = 7)) = none ∧ (x.mb (fin (4 + (3 : Fin 4).val))).st = .done ∧
       ∀ j : Fin 4, j < 3 → (x.mb (fin (4 + j.val))).st ≠ .done) ∧
    (∀ k : Fin 4, (up.mb (fin (4 + k.val))).st ≠ .done) ∧
    (let x := { (up.onMb 7 fun b => { b with st := .posted }) with net := { up.net with svcSeen := 8 } }
     x.awake = true ∧ bit x.net.svcSeen 3 = true ∧ (x.mb 7).st = .posted) ∧
    (let x := { up with net := { up.net with svcSeen := 8 } }; bit x.net.svcSeen 3 = true ∧ (x.mb 7).st = .idle) ∧
    bit up.net.svcSeen 3 = false := by decide +kernel

theorem witness_IntegrationStateRows :
    (let x := scheduled 16 3 [(0x10, 4, 9), (0x31, 1, 3)] { up with net := { up.net with inState := 64, lowerAge := 8 } }
     x.awake = true ∧ x.keeperStopped = false ∧ x.net.integ = .listen ∧ coldstartEn x.laneRec = true ∧
       listenCycles x.laneRec ≤ x.net.inState ∧ x.hasSchedule = true ∧
       (integ .coldstart x).net.integ = .coldstart ∧ coldstartCycles x.laneRec ≤ x.net.inState ∧
       (integ .active x).net.integ = .active ∧ syncEn x.laneRec = true ∧ masterLossCycles x.laneRec ≤ x.net.lowerAge ∧ x.net.lowerHeard = false) ∧
    (let x := integ .integrating { up with net := { up.net with quiet := 8 } }
     x.awake = true ∧ x.net.integ = .integrating ∧ 8 ≤ x.net.quiet) ∧
    (let x := integ .passive { up with net := { up.net with inState := 8 } }
     x.awake = true ∧ x.net.integ = .passive ∧ 8 ≤ x.net.inState) ∧
    (inState .off up).awake = false ∧ up.net.integ ≠ .coldstart ∧ (integ .active up).net.integ ≠ .listen ∧
    ¬8 ≤ (integ .integrating up).net.quiet ∧ ¬8 ≤ (integ .passive up).net.inState ∧
    ¬masterLossCycles up.laneRec ≤ up.net.lowerAge ∧ 0 < rateLimitPpm up.laneRec := by decide +kernel

/-- Offsets of both channels at twice the limit and beyond it, and of one channel; offsets at the ends of the ranges of each state. -/
theorem witness_IntegrationStateRows_offsets :
    (let lim : Rat := 2 * passiveLimitNs up.laneRec
     let both (d : Rat) : Lane := (up.onChan 0 fun c => { c with off := some (d, true, 0) }).onChan 1 fun c => { c with off := some (0, false, 0) }
     (vget up.net.chan 0).off = none ∧ (vget (both lim).net.chan 0).off = some (lim, true, 0) ∧
       (vget (both lim).net.chan 1).off = some (0, false, 0) ∧ rabs (lim - 0) ≤ lim ∧ lim < rabs (lim + 1 - 0)) ∧
    (let lim : Rat := passiveLimitNs up.laneRec
     rabs lim ≤ lim ∧ rabs (lim / 2) ≤ lim / 2 ∧ lim < rabs (-lim - 1) ∧
       ¬(up.tm.rate = mkRat (rateLimitPpm up.laneRec) 1000000 ∨ up.tm.rate = -(mkRat (rateLimitPpm up.laneRec) 1000000)) ∧
       ({ up with tm := { up.tm with rate := mkRat (rateLimitPpm up.laneRec) 1000000 } }).tm.rate = mkRat (rateLimitPpm up.laneRec) 1000000) ∧
    (∀ k ∈ [0, 1], ({ up.net with goodRun := k }).goodRun = k) ∧ (∀ k ∈ [6, 7], ({ up.net with limitRun := k }).limitRun = k) ∧
    (∀ v ∈ [Integ.listen, .coldstart, .integrating, .active, .passive], (integ v up).net.integ = v) := by decide +kernel

/-- The lane without power. -/
def dark : Lane := inState .off { up with sys := { up.sys with powered := false, run := false } }

theorem witness_SuppliesClocksAndHomePorts :
    up.sys.powered = true ∧ dark.sys.powered = false ∧
      (let x := Lane.cold 0; x.sys.lstate = .init ∧ x.sys.pwrHold = false ∧ x.sys.inReset = false) ∧ up.sys.lstate ≠ .init ∧
      up.awake = true ∧ (inState .off up).awake = false ∧ Green.cold.powered = true ∧
      ({ Green.cold with powered := false } : Green).powered = false ∧ vget State.reset.pd (fin (16 * 1 + 2)) ≠ none ∧
      (vget State.reset.homes (fin (3 * 1 + 2))).laneTrip = false ∧ (vget State.reset.homes (fin (3 * 1 + 2))).starTrip = false ∧
      (∀ k, vget (vset State.reset.pd 18 none) k ≠ none ∨ k = 18) := by decide

theorem witness_ResetAndRunPins :
    (let x := { up with sys := { up.sys with inReset := true } }; x.sys.inReset = true ∧ x.awake = false) ∧ up.sys.inReset = false ∧
      (inMode .shutdown up).sys.mode = .shutdown ∧ up.awake = true ∧ up.startupRun = false ∧ up.sys.mode ≠ .off ∧
      up.sys.mode ≠ .shutdown ∧ ¬(up.sys.mode = .start ∧ up.sys.pwrHold = false) ∧ (Lane.cold 0).sys.mode = .off ∧
      (let x := inMode .start (Lane.cold 0); x.awake = true ∧ x.sys.mode = .start ∧ x.sys.pwrHold = false) ∧
      (testing (testRun .startup [1] none false)).startupRun = true ∧
      (let x := Lane.cold 0; x.sys.run = false ∧ x.sys.inReset = false ∧ x.sys.powered = true ∧ x.sys.mode = .off) ∧
      (let x := inMode .shutdown (Lane.cold 0); x.sys.run = false ∧ x.sys.mode = .shutdown) ∧
      (let x := inMode .degraded (Lane.cold 0); x.sys.run = false ∧ x.sys.mode ≠ .off ∧ x.sys.mode ≠ .shutdown) ∧
      (∀ nn, (up.axis nn).red.commit = none) ∧ ((ax11 [] fun a => { a with red := { a.red with commit := some (1, []) } }).axis 11).red.commit ≠ none ∧
      ({ up with sys := { up.sys with inReset := true } }).sys.inReset = true ∧
      up.sys.run = true ∧ up.tst.run = none ∧ (testing (testRun .startup [1] none false)).tst.run ≠ none := by decide +kernel

/-- A lane ready to start, with the given seal. -/
def starting (v : LState) (sealRec : Option Bytes) (tested : Bool) : Lane :=
  let x := inState v (inMode .start (Lane.cold 0))
  { x with sys := { x.sys with run := true }, fl := { x.fl with sealRec := sealRec }, tst := { x.tst with tested := tested } }

theorem witness_LaneStartTestPortAndGreenPins :
    up.startable = false ∧ (starting .init none false).startable = true ∧
      (∀ c k : Bool, ∃ o : StartOutcome, o.selfCheckOk = c ∧ injectionOk o.injection = k) ∧
      (starting .init none false).clocksBad = false ∧
      (let x := starting .init none false
       let y := { x with sys := { x.sys with badClocks := 0x20 } }; y.startable = true ∧ y.clocksBad = true) ∧
      (let x := starting .init (some (sealRecord 1 .failed 0 1 0)) true
       x.startable = true ∧ x.readSeal.tst.sealState = .failed ∧ x.tst.tested = true) ∧
      (let x := starting .init none true
       x.startable = true ∧ x.readSeal.tst.quick = false ∧ x.sys.lstate = .init ∧ x.tst.tested = true) ∧
      (let x := starting .init none false; x.readSeal.tst.quick = false ∧ x.sys.lstate = .init ∧ x.readSeal.tst.sealState ≠ .failed) ∧
      (let x := starting .init (some (sealRecord 1 .pass 0xFFFFFF 0 0)) false; x.startable = true ∧ x.readSeal.tst.quick = true) ∧
      (let x := starting .safe none false; x.startable = true ∧ x.sys.lstate = .safe) ∧
      up.tap.pins = false ∧ ({ up with tap := { up.tap with pins := true } }).tap.pins = true ∧ drivePins.idxOf? .faultN = some 0 ∧
      injectionFails { primary := [], shadow := [], main := .stuckMismatch, dup := .sound } = some 0 ∧
      up.sys.powered = true ∧ dark.sys.powered = false ∧ Green.cold.testPin ≠ true ∧ Green.cold.testPin = false ∧
      Green.cold.hot = false ∧ ({ Green.cold with hot := true } : Green).hot = true := by
  refine ⟨by decide +kernel, by decide +kernel, fun c k => ⟨{
    selfCheckOk := c, injection := { primary := [], shadow := [], main := bif k then .sound else .stuckClean, dup := .sound }, oCal := [] }, rfl, ?_⟩, ?_⟩
  · revert c k; decide +kernel
  · decide +kernel

/-! ### Ill-formed commands: one for each check of WellFormed -/

theorem test_wellFormed_operands :
    wellFormed (.hpRead 0 0 0) = false ∧ wellFormed (.hpWrite 0 0 []) = false ∧ wellFormed (.badInstr 0 0x3B) = false ∧
      wellFormed (.badInstr 0 0x32) = false ∧ wellFormed (.hpRegisterWrite 0 0x24 0) = false ∧
      wellFormed (.hpRegisterWrite 0 2 0) = false ∧ wellFormed (.complementMismatch 0 0x4C) = false ∧
      wellFormed (.adcConversionComplete 0 0 8192) = false ∧
      wellFormed (.adcConversionComplete 0 0 (-8193)) = false ∧
      wellFormed (.laneStart 0 { selfCheckOk := true, injection := { primary := [], shadow := [], main := .sound, dup := .sound }, oCal := [] }) = false := by
  decide

theorem test_wellFormed_injection :
    let idle : CoreOut := { req := none, reg := none, pc := none, ack := false }
    let cals : List Int := List.replicate 85 0
    ∀ os ∈ [List.replicate 65 idle, [{ idle with req := some (reqAt .store) }]],
      wellFormed (.laneStart 0 { selfCheckOk := true, injection := { primary := os, shadow := [], main := .sound, dup := .sound }, oCal := cals })
        = false ∧
      wellFormed (.laneStart 0 { selfCheckOk := true, injection := { primary := [], shadow := os, main := .sound, dup := .sound }, oCal := cals })
        = false ∧
      wellFormed (.runtimeTestComplete 0 { injection := { primary := os, shadow := [], main := .sound, dup := .sound }, rotations := [] })
        = false := by decide +kernel

theorem test_wellFormed_links :
    wellFormed (.handoverLineChange 1 1 true) = false ∧ wellFormed (.handoverLineFailed 1 1 true) = false ∧
      wellFormed (.linkUp 1 1) = false ∧ wellFormed (.linkFrameSend 1 1) = false ∧ wellFormed (.linkIdleFrame 1 1) = false ∧
      wellFormed (.linkDown 1 1) = false ∧ wellFormed (.linkFrameReceive 1 1 { cls := 3, seq := 0, crcOk := true, body := .idle }) = false ∧
      wellFormed (.linkFrameReceive 0 1 { cls := 0, seq := 0, crcOk := true, body := .time 0 }) = false ∧
      wellFormed (.linkFrameReceive 0 1 { cls := 1, seq := 0, crcOk := true, body := .checkpoint 20 [] }) = false ∧
      wellFormed (.linkFrameReceive 0 1 { cls := 3, seq := 0, crcOk := true, body := .service (List.replicate 257 0) }) = false := by
  decide +kernel

theorem test_wellFormed_frames :
    wellFormed (.laneFrameReceive 0 0 (frame 1 0 (List.replicate 1483 0)) 0) = false ∧
      wellFormed (.greenFrameIngress 0 0 { frame 1 0 [] with header := List.replicate 27 0 } 0) = false ∧
      wellFormed (.laneFrameReceive 0 0 (frame 5 0 []) 0) = false ∧
      wellFormed (.sentFrameReceive 0 0 { sample := 0, sync := 168000, syncLow := 12000, pulses := nibbles [0, 0] }) = false ∧
      wellFormed (.sentFrameReceive 0 0 { sample := 0, sync := 168000, syncLow := 12000, pulses := nibbles (List.replicate 9 0) }) = false ∧
      wellFormed (.sentFrameReceive 0 0 { sample := 0, sync := 168000, syncLow := 168001, pulses := nibbles [0, 0, 0] }) = false := by
  decide +kernel

theorem test_wellFormed_reports :
    wellFormed (.standbyTestRotation 0 0 { gateFail := 0, gateHigh := 1, cmpFail := 0 }) = false ∧
      wellFormed (.runtimeTestComplete 0 { injection := { primary := [], shadow := [], main := .sound, dup := .sound }, rotations := [(0, { gateFail := 0, gateHigh := 1, cmpFail := 0 })] })
        = false ∧
      wellFormed (.runtimeTestComplete 0 { injection := { primary := [], shadow := [], main := .sound, dup := .sound }, rotations := [(0, { gateFail := 0, gateHigh := 0, cmpFail := 0 }),
        (0, { gateFail := 0, gateHigh := 0, cmpFail := 0 })] }) = false ∧
      wellFormed (.faultReport 0 []) = false ∧ wellFormed (.faultReport 0 [(report 13 0 0 0 0).rep]) = false ∧
      wellFormed (.faultReport 0 [(report 5 0 0 0 0).rep, (report 5 0 0 0 0).rep]) = false ∧
      wellFormed (.faultLineInvalid 0 122 false) = false ∧ wellFormed (.faultLineHealthy 0 105) = false := by decide +kernel

/-! ### Tests of one step or one operation -/

/-- An idle block: a step of an empty queue changes nothing. -/
theorem test_idle : step State.reset = .next State.reset := rfl

/-- R7: the CRC of "123456789". -/
theorem test_crc32c : crc32c [0x31, 0x32, 0x33, 0x34, 0x35, 0x36, 0x37, 0x38, 0x39] = 0xE3069283 := by decide +kernel

/-- R166's example words. -/
theorem test_bfp_words : bfpValue 0x60000000 = 3 / 4 ∧ bfpValue 0x400000FD = 1 / 16 ∧ bfpValue 0x100000FF = 1 / 16 := by
  decide +kernel

/-- Lane Ochre after the command. -/
def after (c : Instr) (x : Lane) : Lane :=
  match exec c (stateOf x) with
  | .next t => t.lane 0
  | _ => x

/-- State words of slot 63. -/
def words (x : Lane) : List W32 := (x.slot 63).state

/-- 07, after R169: (1.0, -0.5, 0.0) in normalising mode. -/
theorem test_mov_normalises :
    (words (after (.mov 0 3) (node (word 0x01 3 0 0 (coefAt 0) 0 0) [one, negHalf, 0] up))).take 4
      = [0x301, 0x400000, 0xFFE00000, 0] := by decide +kernel

/-- The same vector pinned at exponent 0: element 0 clipped with SAT. -/
theorem test_mov_pinned :
    (words (after (.mov 0 3) (node (word (0x01 + 2 ^ 12) 3 0 0 (coefAt 0) 0 0) [one, negHalf, 0] up))).take 4
      = [0x10300, 0x7FFFFF, 0xFFC00000, 0] := by decide +kernel

/-- 08, the PI example: Kp 0.5, KiT 0.0625, limits 0.375 and -0.375, the integrator at 0.3125. -/
def piNode (e : W32) : Lane :=
  (node (word 0x30 1 0 0 (coefAt 0) (coefAt 1) 0) [e, half, 0x400000FD, 0x600000FF, 0xA00000FF] up).onSlot 63 fun g =>
    { g with state := [0, 0, 0x500000FF, 0] }

/-- First execution: the integrator is held, the output 0x60_0000 at E = -1. -/
theorem test_pi_held : (words (after (.pi 0 3) (piNode 0x400000FF))) = [0x1FF, 0x600000, 0x500000FF, 0] := by decide +kernel

/-- Second execution: the integrator moves to 0x4E00_00FF, the output 0x7C_0000 at E = -2. -/
theorem test_pi_moves : (words (after (.pi 0 3) (piNode 0x800000FD))) = [0x1FE, 0x7C0000, 0x4E0000FF, 0] := by decide +kernel

/-- 08, the CLARKE example: 0.5, -0.25, -0.25 give 0.5 and 0. -/
theorem test_clarke :
    (words (after (.clarke 0 3) (node (word 0x20 2 0 0 (coefAt 0) 0 0) [half, 0xC00000FF, 0xC00000FF] up))).take 3
      = [0x200, 0x400000, 0] := by decide +kernel

/-- 08, the PARK example: (0.5, 0) at 0.125 turn gives 0.353 553 39 and its negative, at E = -1. -/
theorem test_park :
    (words (after (.park 0 3) (node (word 0x21 2 0 0 (coefAt 0) (coefAt 2) 0) [half, 0, 0x400000FE] up))).take 3
      = [0x2FF, 0x5A827A, 0xFFA57D86] := by decide +kernel

/-- 08, the example's node word: 21 02 00 00 28 00 05 00 40 06 00 40 and zeros. -/
theorem test_node_word :
    let w := word128 ([0x21, 2, 0, 0, 0x28, 0, 5, 0, 0x40, 6, 0, 0x40] ++ List.replicate 4 0)
    nodeOp w = 0x21 ∧ nodeLen w = 2 ∧ nodeState w = 0x28 ∧ (nodeDesc w 0).kind = 1 ∧ (nodeDesc w 0).index = 5 ∧
      (nodeDesc w 1).kind = 1 ∧ (nodeDesc w 1).index = 6 := by decide +kernel

/-- R115: 10.6875 revolutions, 4 pole pairs. -/
theorem test_electrical :
    let x := ax11 [(0xB3, 1, 4)] fun a => { a with acc := { a.acc with pos := 171 / 16 } }
    polePairs (x.axisRec 11) = 4 ∧ (x.axis 11).elec (x.axisRec 11) = 0x2AC0000000 := by decide +kernel

/-- 10, after R234: duty 0.400 390 625 of 320,000 steps. -/
theorem test_centre_width :
    (placeWidth (205 / 512) 320000 false 0 6400 200).width = 128125 ∧ placeStart 0 320000 128125 = 95937 := by decide +kernel

/-- 10, the short pulse with carry: dropped with carry 6,400, then 12,800 steps from 153,600. -/
theorem test_carry :
    placeWidth (1 / 50) 320000 true 0 6400 200 = { width := 0, carry := 6400 } ∧
      placeWidth (1 / 50) 320000 true 6400 6400 200 = { width := 12800, carry := 0 } ∧ placeStart 0 320000 12800 = 153600 := by
  decide +kernel

/-- 02, the negotiation on Madder: the response's payload. -/
theorem test_hello :
    let x := asked 1 [2, 0, 5, 2, 4, 3] { up with idx := 1 }
    (x.helloBody 0x0302) = [2, 3, 2, 3, 1, 2, 2, 2, 7, 2, 2, 3] ∧ choose (offered (body x)) = some 0x0302 := by decide +kernel

/-- 21, the setpoint connection: the PDU of endpoint 40, 8 us old, is accepted. -/
theorem test_setpoint_pdu :
    let x := (withRec 8 40 [(0x10, 2, 0x231), (0x12, 1, 2), (0x1C, 2, 52), (0x1E, 1, 4), (0x20, 4, 500)]
      { up with tm := { up.tm with sync := .synced } }).onEp 40 fun e => { e with st := .waiting }
    let h : Bytes := [0x31, 0x02, 0x40, 0x1F, 0xD2, 0x02, 0x96, 0x49, 4, 0, 0x22, 0]
    let p : Bytes := [0, 0, 0, 0xF0]
    let c := h ++ p ++ leBytes 4 (pduCrc (x.connRec 40) h p)
    x.pduCheck 40 c 0 1234567898000 = (.accept, 0) ∧ x.pduCheck 40 c 0 1234568391000 = (.discard 4, 0) := by decide +kernel

/-- 16, two faults in one monitor cycle: class L is recorded, the other source sets OVERFLOW. -/
theorem test_two_faults :
    let x := (axis11 .simplex up)
    let y := after (.faultReport 0 [(report 53 5 4 0 0).rep, (report 5 0xFF 0 0 0).rep]) { x with fc := { x.fc with checked := true } }
    (y.fc.first.map fun r => (r.src.val, r.cls)) = some (5, 3) ∧ y.fc.overflow = true ∧ y.faultPin = true ∧ y.sys.lstate = .safe := by
  decide +kernel

/-- R43: a write of both bits of a DONE mailbox posts it again. -/
theorem test_doorbell_again :
    let x := after (.hpRegisterWrite 0 8 0x202) (up.onMb 1 fun b => { b with st := .done })
    (x.mb 1).st = .posted ∧ x.hp.order = [1] := by decide +kernel

/-- R6, R37: four bytes of HP_SCRATCH written. -/
theorem test_scratch_write : (after (.hpWrite 0 0x10020 [1, 2, 3, 4]) up).hp.scratch = 0x04030201 := by decide +kernel

/-- R34: a READ that passes the end of HP_SCRATCH finds an unmapped address. -/
theorem test_scratch_read :
    let x := after (.hpRead 0 0x10021 4) { up with hp := { up.hp with scratch := 0x04030201 } }
    x.hp.dataOut = [2, 3, 4, 0] ∧ x.hp.err = 2 := by decide +kernel

/-- R168, R199: undefined points whose rule names the result keep it, at the exponent it needs, with DIVZ (a DEADZONE of negative
width). -/
theorem test_undefined_stage :
    (words (after (.deadzone 0 3) (node (word 0x53 2 0 0 (coefAt 0) (coefAt 2) 0) [half, half, negHalf, negHalf] up))).take 3
      = [0x40200, 0x400000, 0x400000] := by decide +kernel

/-- The 68 supervisor cycles to the comparison of a window in which the primary core stores 7 and the shadow core, two cycles
later, `v`. -/
def stores (v : W64) : List PairCycle :=
  let out (d : Option W64) : CoreOut :=
    { req := d.map fun d => { addr := 0x40, data := d, be := 0xFF, kind := .store }, reg := none, pc := none, ack := false }
  (List.range 68).map fun n => { pairCycleOf none 0 false with
    primary := out (if n = 0 then some 7 else none), shadow := out (if n = 2 then some v else none), accept := false }

/-- 17, the corrupted store: window 1,000,000 compares unequal, source 1 is recorded with class L and the store never leaves. -/
theorem test_corrupted_store :
    let x := { up with fc := { up.fc with checked := true }, lk := { up.lk with window := 1000000 } }
    let y := after (.signatureCompare 0 (stores 8) .sound .sound) x
    let z := after (.signatureCompare 0 (stores 7) .sound .sound) x
    (y.fc.first.map fun r => (r.src.val, r.cls, r.ctx.drop 8)) = some (1, 3, [0x40, 0x42, 0x0F, 0, 0, 0, 0, 0]) ∧
      y.lk.buffer = [] ∧ z.lk.failed = false ∧ z.lk.window = 1000001 ∧ (z.lk.buffer.map fun h => h.clean) = [true] := by decide +kernel

/-- R6, R403: the EtherType of a CTT frame travels as the bytes 0x88 and 0xB5. -/
theorem test_ctt_header : (((frame 1 0 []).header.drop 12).take 2) = [0x88, 0xB5] ∧ (frame 1 0 []).header.length = 28 := by decide +kernel

end Sys2Proof.Tests
end

section
/-! The scope of the machine (00_scope.md): what the next state of every command is made of, and the response that Gamar
works out for a mailbox. -/

namespace Sys2Proof.Machine

/-! ### The next state of a command

A command acts through `State.onLane` or `State.onGreen`, which leave the queue alone; only the rows of the power
branches at the home ports (R12, R494 to R497) write other parts of the state. -/

/-- The rows that act on the power of home ports and regions. -/
def PowerRow : Instr → Prop
  | .branchOverload _ _ _ => True
  | .pdClassification _ _ => True
  | .homePortLoss _ _ => True
  | .supplyValid _ => True
  | .supplyLost _ => True
  | _ => False

/-- The command answers the state with the lane that it names changed, and nothing else. -/
def ChangesLane (c : Instr) (s : State) : Prop :=
  ∃ (l : LaneId) (f : Lane → Lane), c.region = some (.lane l) ∧ exec c s = .next (s.onLane l f)

/-- The command answers the state with the Green that it names changed, and nothing else. -/
def ChangesGreen (c : Instr) (s : State) : Prop :=
  ∃ (g : GreenId) (f : Green → Green), c.region = some (.green g) ∧ exec c s = .next (s.onGreen g f)

/-- What a command can do: it changes its lane, or its Green, or it is a row of the power branches. -/
theorem exec_cases (c : Instr) (s : State) : ChangesLane c s ∨ ChangesGreen c s ∨ PowerRow c := by
  cases c with
  | branchOverload | pdClassification | homePortLoss | supplyValid | supplyLost => exact .inr (.inr trivial)
  | greenFrameIngress | slotEndTruncate | greenCycleEnd | greenStatusSend | portLinkChange | greenBlockEnd | greenSyncLoss
  | greenTestPin | greenOverTemperature | greenCooled => exact .inr (.inl ⟨_, _, rfl, rfl⟩)
  | clockFault k =>
    cases k with
    | laneClock => exact .inl ⟨_, _, rfl, rfl⟩
    | greenClock => exact .inr (.inl ⟨_, _, rfl, rfl⟩)
  | _ => exact .inl ⟨_, _, rfl, rfl⟩

@[simp] theorem State.supplyValid_pending (s : State) (r : Region) : (s.supplyValid r).pending = s.pending := by
  unfold State.supplyValid
  split
  · rfl
  · cases r with
    | lane l => exact s.onLane_pending l Lane.supplyUp
    | green g => exact s.onGreen_pending g _

@[simp] theorem State.unfeed_pending (s : State) (r : Region) : (s.unfeed r).pending = s.pending := by
  simp only [State.unfeed]

@[simp] theorem State.supplyLost_pending (s : State) (r : Region) : (s.supplyLost r).pending = s.pending := by
  cases r with
  | lane l => simp only [State.supplyLost, State.onLane_pending, State.unfeed_pending]
  | green g => simp only [State.supplyLost, State.onGreen_pending, State.unfeed_pending]

/-- A row of the power branches completes with the queue as it was. -/
theorem exec_powerRow_next {c : Instr} (h : PowerRow c) (s : State) : ∃ t, exec c s = .next t ∧ t.pending = s.pending := by
  cases c with
  | branchOverload g k star => exact ⟨s.tripBranch g k star, rfl, rfl⟩
  | pdClassification g p => exact ⟨s.classify g p, rfl, rfl⟩
  | homePortLoss l g => exact ⟨_, rfl, State.onLane_pending ..⟩
  | supplyValid r => exact ⟨s.supplyValid r, rfl, s.supplyValid_pending r⟩
  | supplyLost r => exact ⟨s.supplyLost r, rfl, s.supplyLost_pending r⟩
  | _ => exact h.elim

/-- Every command completes with the queue as it was (R9, R42, R54). -/
theorem exec_next_pending (c : Instr) (s : State) : ∃ t, exec c s = .next t ∧ t.pending = s.pending := by
  obtain ⟨l, f, -, h⟩ | ⟨g, f, -, h⟩ | h := exec_cases c s
  · exact ⟨_, h, State.onLane_pending s l f⟩
  · exact ⟨_, h, State.onGreen_pending s g f⟩
  · exact exec_powerRow_next h s

/-- A step of a queue that is not empty is its front command on the state with the rest. -/
theorem step_of_pending_cons {s : State} {c : Instr} {cs : List Instr} (h : s.pending = c :: cs) :
    step s = exec c { s with pending := cs } := by
  simp only [step, h]

/-- Settles O2: a command changes a lane, a Green or a power branch, and none of these touches the queue. -/
theorem noCommandStops : Obligations.NoCommandStops := by
  refine ⟨exec_next_pending, fun s c cs h => ?_⟩
  rw [step_of_pending_cons h]
  exact exec_next_pending c { s with pending := cs }

/-! ### The response (R49, R51, R60) -/

/-- The flags of a response: NOTICE where notices wait. -/
theorem b2n_not_isEmpty {α : Type} [DecidableEq α] (ns : List α) : b2n (!ns.isEmpty) = if ns = [] then 0 else 1 := by
  cases ns <;> rfl

/-- The version field of a response is the negotiated version. -/
theorem Lane.respVersion_of_nego (x : Lane) {b : Mailbox} {v : W16} (h : b.nego = some v) : x.respVersion b = v.toNat := by
  simp only [Lane.respVersion, h]

/-- A header of 12 bytes and the CRC stand before the payload. -/
theorem Lane.message_length (x : Lane) (b : Mailbox) (status : Nat) (body : Bytes) :
    (x.message b status body).length = 16 + body.length := by
  simp only [Lane.message, List.length_append, leBytes_length]

/-- With a negotiated version a response draws no free value: it changes its mailbox alone. -/
theorem Lane.respond_of_nego {x : Lane} {m : MbId} {v : W16} (h : (x.mb m).nego = some v) (status : Nat) (body : Bytes) :
    x.respond m status body = x.onMb m fun b => { b with
      cmd := none, resp := some (x.message (x.mb m) status body),
      stored := some (BitVec.ofNat 16 (b.head 4 2), x.message (x.mb m) status body) } := by
  simp only [Lane.respond, h, Option.isNone_some, Bool.false_eq_true, if_false]

/-- A change of one mailbox leaves everything outside the mailboxes as it was. -/
theorem Lane.onMb_outside (x : Lane) (m : MbId) (f : Mailbox → Mailbox) :
    { x.onMb m f with hp := { (x.onMb m f).hp with mbs := x.hp.mbs } } = x := rfl

/-- Settles O14: with a version negotiated, a response is one change of its mailbox, which puts the message there. -/
theorem responseMessage : Obligations.ResponseMessage := by
  intro x m status body v hv b h msg y
  have hmsg : x.message b status body = msg := by
    simp only [Lane.message, x.respVersion_of_nego hv, b2n_not_isEmpty, b, h, msg]
  have hy : y = x.onMb m fun b => { b with
      cmd := none, resp := some msg, stored := some (BitVec.ofNat 16 (b.head 4 2), msg) } := by
    rw [← hmsg]; exact Lane.respond_of_nego hv status body
  rw [hy]
  refine ⟨Lane.onMb_mb_self .., fun k hk => Lane.onMb_mb_ne _ _ hk, Lane.onMb_outside .., ?_⟩
  rw [← hmsg, Lane.message_length]

end Sys2Proof.Machine
end

section
/-! The state after reset (R21, R38, R41, R111, R239, R332, R373, R424, R441): the parts of a lane and of a Green right after a power-on
reset. -/

namespace Sys2Proof.Machine

/-! ### The parts right after a power-on reset -/

@[simp] theorem vget_replicate {α : Type} {n : Nat} (a : α) (i : Fin n) : vget (Vector.replicate n a) i = a := by
  simp [vget]

/-- A lane of the state after reset is the lane right after a power-on reset. -/
theorem State.reset_lane (l : LaneId) : State.reset.lane l = Lane.cold l := by
  fin_cases l <;> rfl

@[simp] theorem State.reset_green (g : GreenId) : State.reset.green g = Green.cold := vget_replicate ..

@[simp] theorem Lane.cold_mb (l : LaneId) (m : MbId) : (Lane.cold l).mb m = Mailbox.cold := vget_replicate ..
@[simp] theorem Lane.cold_slot (l : LaneId) (k : Fin 64) : (Lane.cold l).slot k = Slot.cold := vget_replicate ..
@[simp] theorem Lane.cold_ep (l : LaneId) (e : Fin 512) : (Lane.cold l).ep e = Endpoint.cold := vget_replicate ..
@[simp] theorem Lane.cold_chan (l : LaneId) (c : Fin 16) : (Lane.cold l).chan c = StreamCh.cold := vget_replicate ..
@[simp] theorem Lane.cold_axis (l : LaneId) (nn : AxisId) : (Lane.cold l).axis nn = Axis.cold := vget_replicate ..

/-- Ports 0 to 15 of a Green are external and DOWN after reset, ports 16 to 18 lead to the lanes and are OPEN (R424). -/
theorem Green.cold_port (p : Fin 19) :
    Green.cold.port p = if p.val < 16 then GPort.cold else { GPort.cold with st := .opened, pma := none } := by
  fin_cases p <;> rfl

theorem Green.cold_port_counters (p : Fin 19) (k : Fin 8) : vget (Green.cold.port p).counters k = 0 := by
  rw [Green.cold_port]
  split <;> exact vget_replicate ..

theorem Green.cold_external_down (p : Fin 16) : (Green.cold.port (fin p.val)).st = .down := by
  have h : (fin p.val : Fin 19).val = p.val := by simp only [fin, Fin.val_ofNat]; omega
  rw [Green.cold_port, h, if_pos p.isLt]; rfl

theorem Green.cold_ok : Green.cold.Ok where
  cycle := by decide
  status := by decide
  rate := by norm_num [Green.cold]
  delays p d hd := by
    rw [Green.cold_port] at hd
    split at hd <;> cases hd
  arb a h := by cases h
  block _ := rfl
  arriving _ := rfl

/-- Settles O4: a lane and a Green of the state after reset are `Lane.cold` and `Green.cold`, whose parts are cold. -/
theorem resetState : Obligations.ResetState := by
  refine ⟨rfl, fun g => State.reset_green g ▸ Green.cold_ok, fun l => ?_, fun g => ?_⟩
  · rw [State.reset_lane]
    refine ⟨fun m => ?_, rfl, rfl, rfl, rfl, rfl, rfl, rfl, rfl, fun k => ?_, fun e => ?_, fun c => ?_, fun nn => ?_,
      rfl, rfl, rfl, rfl, rfl, rfl, rfl⟩
    · rw [Lane.cold_mb]; exact ⟨rfl, rfl⟩
    · rw [Lane.cold_slot]; rfl
    · rw [Lane.cold_ep]; rfl
    · rw [Lane.cold_chan]; rfl
    · rw [Lane.cold_axis]; exact ⟨rfl, rfl, rfl, rfl, rfl, rfl⟩
  · rw [State.reset_green]
    exact ⟨rfl, rfl, Green.cold_external_down, Green.cold_port_counters⟩

end Sys2Proof.Machine
end

section
/-! Reports that reach the collector (R362 to R374): the conditions they tell of, what they do in the block they come from, and
what the lane makes of them. -/

namespace Sys2Proof.Machine

/-! ### Conditions outside the lane's logic -/

/-- A condition changes lane control alone, and neither lane state nor reset in it. -/
theorem Lane.condition_awake (x : Lane) (s i : Nat) (on : Bool) : (x.condition s i on).awake = x.awake := by
  simp only [Lane.awake, Lane.condition]
  split_ifs <;> rfl

theorem Lane.conditions_awake (fs : List Flagged) : ∀ x : Lane, (x.conditions fs).awake = x.awake := by
  induction fs with
  | nil => exact fun _ => rfl
  | cons f fs ih =>
    intro x
    have h : (x.conditions (f :: fs)) = (if f.wire then x else x.condition f.rep.src.val f.rep.index.toNat true).conditions fs := rfl
    rw [h, ih]
    split
    · rfl
    · exact x.condition_awake ..

/-! ### What a report does in the block it comes from -/

theorem srcPair_iff (s : Nat) : srcPair s = true ↔ s = 1 ∨ s = 2 ∨ s = 3 ∨ s = 12 := by
  simp only [srcPair, Bool.or_eq_true, decide_eq_true_eq, or_assoc]

theorem Lane.reportBlock_masked {x : Lane} {f : Flagged} (h : bit x.fc.mask f.rep.src.val = true) : x.reportBlock f = x := by
  simp only [Lane.reportBlock, h, if_true]

/-- A report of another source than the memories, the dispatcher and the lockstep pair does nothing in its block. -/
theorem Lane.reportBlock_other {x : Lane} {f : Flagged} (h : f.rep.src.val ∉ [1, 2, 3, 6, 7, 9, 12]) : x.reportBlock f = x := by
  simp only [List.mem_cons, List.not_mem_nil, or_false, not_or] at h
  obtain ⟨h1, h2, h3, h6, h7, h9, h12⟩ := h
  simp [Lane.reportBlock, srcPair, h1, h2, h3, h6, h7, h9, h12]

section
variable {x : Lane} {f : Flagged} (hm : bit x.fc.mask f.rep.src.val = false)
include hm

theorem Lane.reportBlock_memory (hs : f.rep.src.val = 6 ∨ f.rep.src.val = 7) :
    x.reportBlock f = if f.rep.index.toNat < 64 && !f.wire then x.memoryError (fin f.rep.index.toNat) f.rep.units else x := by
  simp [Lane.reportBlock, hm, hs]

theorem Lane.reportBlock_dispatcher (hs : f.rep.src.val = 9) :
    x.reportBlock f = if f.wire then x else each (idxs 64) (fun k y => y.haltSlot k) x := by
  rw [hs] at hm
  simp [Lane.reportBlock, hm, hs]

theorem Lane.reportBlock_pair (hs : f.rep.src.val ∈ [1, 2, 3, 12]) :
    x.reportBlock f = { x with lk := { x.lk.discard with
      disagree := x.lk.disagree || f.rep.src.val = 2, delay := x.lk.delay || (f.rep.src.val = 12 && !f.wire) } } := by
  have hp : srcPair f.rep.src.val = true := (srcPair_iff _).2 (by simpa using hs)
  have h679 : f.rep.src.val ≠ 6 ∧ f.rep.src.val ≠ 7 ∧ f.rep.src.val ≠ 9 := by
    simp only [List.mem_cons, List.not_mem_nil, or_false] at hs; omega
  obtain ⟨h6, h7, h9⟩ := h679
  simp [Lane.reportBlock, hm, h6, h7, h9, hp]

end

/-! ### What the lane makes of them -/

/-- The reports of existing sources. -/
def realReports (fs : List Flagged) : List Flagged := fs.filter fun f => !srcReserved f.rep.src.val

theorem Lane.reportAll_awake {x : Lane} (h : x.awake = true) (fs : List Flagged) :
    x.reportAll fs = (each (realReports fs) (fun f y => y.reportBlock f) (x.conditions (realReports fs))).collect (realReports fs) := by
  simp [Lane.reportAll, realReports, Lane.conditions_awake, h]

theorem Lane.reportAll_asleep {x : Lane} (h : x.awake = false) (fs : List Flagged) :
    x.reportAll fs = { x.conditions (realReports fs) with fc := { (x.conditions (realReports fs)).fc with
      invalid := (realReports fs).foldl (fun v f => if f.wire then bitPut v f.rep.src.val true else v)
        (x.conditions (realReports fs)).fc.invalid } } := by
  simp [Lane.reportAll, realReports, Lane.conditions_awake, h]

/-- Reports without WIRE leave the invalid codes as they are. -/
theorem foldl_invalid_of_not_wire {fs : List Flagged} (h : ∀ f ∈ fs, f.wire = false) (v : BitVec 128) :
    fs.foldl (fun v f => if f.wire then bitPut v f.rep.src.val true else v) v = v := by
  induction fs with
  | nil => rfl
  | cons f fs ih =>
    rw [List.foldl_cons, h f List.mem_cons_self, if_neg Bool.false_ne_true]
    exact ih fun g hg => h g (List.mem_cons_of_mem f hg)

/-- In a lane off or in reset reports without WIRE leave their conditions alone (log 24). -/
theorem Lane.reportAll_asleep_of_not_wire {x : Lane} (h : x.awake = false) {fs : List Flagged} (hw : ∀ f ∈ fs, f.wire = false) :
    x.reportAll fs = x.conditions (realReports fs) := by
  have hr : ∀ f ∈ realReports fs, f.wire = false := fun f hf => hw f (List.mem_of_mem_filter hf)
  rw [Lane.reportAll_asleep h, foldl_invalid_of_not_wire hr]

theorem plain_not_wire {rs : List Report} : ∀ f ∈ plain rs, f.wire = false := by
  intro f hf
  obtain ⟨r, -, rfl⟩ := List.mem_map.1 hf
  rfl

/-- An invalid line tells of no condition. -/
theorem Lane.reportAll_wired_asleep {x : Lane} (h : x.awake = false) (src : Fin 128) :
    x.reportAll [wired src] = if srcReserved src.val then x
      else { x with fc := { x.fc with invalid := bitPut x.fc.invalid src.val true } } := by
  rw [Lane.reportAll_asleep h]
  by_cases hr : srcReserved src.val = true
  · have : realReports [wired src] = [] := by simp [realReports, wired, hr]
    rw [this, if_pos hr]; rfl
  · have : realReports [wired src] = [wired src] := by simp [realReports, wired, hr]
    rw [this, if_neg hr]; rfl

/-! ### Complement copies and lines that return to HEALTHY -/

theorem Lane.mismatch_of_not {x : Lane} {off : Nat} (h : x.awake = false ∨ storedReg off = false ∨ bit x.fc.mask 0 = true) :
    x.mismatch off = x := by
  rcases h with h | h | h <;> simp [Lane.mismatch, h]

theorem Lane.mismatch_of {x : Lane} {off : Nat} (ha : x.awake = true) (hs : storedReg off = true) (hm : bit x.fc.mask 0 = false) :
    x.mismatch off = if off < 0x1C && x.fc.first.isSome then (x.collect [mismatchReport off]).replaceRecord off
      else x.collect [mismatchReport off] := by
  simp [Lane.mismatch, ha, hs, hm]

/-- The condition of a line and its invalid code end. -/
def Lane.lineEnded (x : Lane) (s : Nat) : Lane :=
  { x.condition s 0 false with fc := { (x.condition s 0 false).fc with invalid := bitPut (x.condition s 0 false).fc.invalid s false } }

theorem Lane.lineHealthy_eq (x : Lane) (s : Nat) :
    x.lineHealthy s = if x.awake = false ∨ (x.lineEnded s).lineHeld s = true then x.lineEnded s else (x.lineEnded s).healthy s := by
  have ha : (x.lineEnded s).awake = x.awake := x.condition_awake s 0 false
  unfold Lane.lineHealthy
  show (if !(x.lineEnded s).awake || (x.lineEnded s).lineHeld s then x.lineEnded s else (x.lineEnded s).healthy s) = _
  rw [ha]
  simp

/-- Settles O44: the lane takes the reports of existing sources as one cycle; a mismatch and a line that returns to HEALTHY act in
a lane that works. -/
theorem faultReportRows : Obligations.FaultReportRows := by
  delta Obligations.FaultReportRows
  intro cond
  have hcond : ∀ (y : Lane) (s i : Nat) (on : Bool), cond y s i on = y.condition s i on := by
    intro y s i on
    simp only [cond, Lane.condition, Bool.and_eq_true, decide_eq_true_eq, and_assoc]
  constructor
  · intro s l x hx real told fed flags invalid ended
    have htold : ∀ fs, told fs = x.conditions (realReports fs) := by
      intro fs; simp only [told, hcond]; rfl
    have hended : ∀ src : Fin 128, ended src = x.lineEnded src.val := by
      intro src; simp only [ended, hcond]; rfl
    have hfed : x.awake = true → ∀ fs, fed fs = x.reportAll fs := by
      intro ha fs; rw [Lane.reportAll_awake ha, ← htold]; rfl
    refine ⟨fun ha => ⟨fun rs => ?_, fun src code => ?_, fun off hs hm => ?_, fun off hn => ?_, fun src => ?_⟩,
      fun ha => ⟨fun rs => ?_, fun src code => ?_, fun off => ?_, fun src => ?_⟩⟩
    · exact State.turns_onLane rfl (by rw [hx, hfed ha]; rfl)
    · exact State.turns_onLane rfl (by rw [hx, hfed ha]; rfl)
    · have e : exec (.complementMismatch l off) s = .next (s.onLane l fun y => y.mismatch off) := rfl
      refine ⟨fun hf ho => State.turns_onLane e ?_, fun hn => State.turns_onLane e ?_⟩
      · have : (decide (off < 0x1C) && x.fc.first.isSome) = true := by
          simp [ho, Option.isSome_iff_ne_none.2 hf]
        rw [hx, Lane.mismatch_of ha hs hm, if_pos this]
        rfl
      · have : ¬(decide (off < 0x1C) && x.fc.first.isSome) = true := by
          rcases hn with hn | hn
          · simp [hn]
          · simp; omega
        rw [hx, Lane.mismatch_of ha hs hm, if_neg this]
        rfl
    · exact State.turns_onLane rfl (by rw [hx, Lane.mismatch_of_not (.inr hn)])
    · have e : exec (.faultLineHealthy l src) s = .next (s.onLane l fun y => y.lineHealthy src.val) := rfl
      refine ⟨fun hh => State.turns_onLane e ?_, fun hh => State.turns_onLane e ?_⟩
      · rw [hended] at hh ⊢
        rw [hx, Lane.lineHealthy_eq, if_pos (.inr hh)]
      · rw [hended] at hh ⊢
        rw [hx, Lane.lineHealthy_eq, if_neg (by simp [ha, hh])]
        rfl
    · exact State.turns_onLane rfl (by rw [hx, htold, Lane.reportAll_asleep_of_not_wire ha plain_not_wire]; rfl)
    · exact State.turns_onLane rfl (by rw [hx]; exact Lane.reportAll_wired_asleep ha src)
    · exact State.turns_onLane rfl (by rw [hx, Lane.mismatch_of_not (.inl ha)])
    · exact State.turns_onLane rfl (by rw [hx, hended, Lane.lineHealthy_eq, if_pos (.inl ha)])
  · intro x f src
    refine ⟨Lane.reportBlock_masked, fun hm => ⟨fun hs hw k hk => ?_, fun hs hn => ?_, fun hs hw => ?_, fun hs hw => ?_,
      fun hs => Lane.reportBlock_pair hm hs, Lane.reportBlock_other⟩⟩
    · have hfin : (fin f.rep.index.toNat : Fin 64) = k := by rw [hk]; exact Fin.ofNat_val_eq_self k
      rw [Lane.reportBlock_memory hm hs, hw, hk, if_pos (by simp), ← hk, hfin]
      rfl
    · rw [Lane.reportBlock_memory hm hs, if_neg]
      rcases hn with hn | hn
      · simp [hn]
      · simp; omega
    · rw [Lane.reportBlock_dispatcher hm hs, hw]; rfl
    · rw [Lane.reportBlock_dispatcher hm hs, hw]; rfl

end Sys2Proof.Machine
end

section
/-! Power branches, the collector's heartbeat and clock faults (R12, R20, R21, R26). -/

namespace Sys2Proof.Machine

/-! ### One report without a reaction in its block -/

/-- A source that exists and has no reaction in the block it comes from. -/
def PlainSource (src : Nat) : Prop := src < 128 ∧ srcReserved src = false ∧ src ∉ [1, 2, 3, 6, 7, 9, 12]

theorem fin_val_of_lt {n k : Nat} (h : k < n + 1) : (fin k : Fin (n + 1)).val = k := Nat.mod_eq_of_lt h

/-- A report of such a source tells of its condition and, in a lane that works, is one report to the collector. -/
theorem Lane.reportAll_report (x : Lane) {src : Nat} (h : PlainSource src) (ax d i data : Nat) :
    x.reportAll [report src ax d i data] =
      if x.awake then (x.condition src (i % 65536) true).fault src ax d i data else x.condition src (i % 65536) true := by
  obtain ⟨hlt, hr, hb⟩ := h
  have hv : (report src ax d i data).rep.src.val = src := fin_val_of_lt hlt
  have hreal : realReports [report src ax d i data] = [report src ax d i data] := by simp [realReports, hv, hr]
  have hcond : x.conditions [report src ax d i data] = x.condition src (i % 65536) true := by
    show x.condition (report src ax d i data).rep.src.val _ true = _
    rw [hv]; rfl
  split
  · rename_i ha
    have hblock : (x.condition src (i % 65536) true).reportBlock (report src ax d i data) = x.condition src (i % 65536) true :=
      Lane.reportBlock_other (by rw [hv]; exact hb)
    rw [Lane.reportAll_awake ha, hreal, hcond]
    show ((x.condition src (i % 65536) true).reportBlock (report src ax d i data)).collect _ = _
    rw [hblock]; rfl
  · rename_i ha
    rw [Lane.reportAll_asleep_of_not_wire (by simpa using ha) (by simp [report]), hreal, hcond]

theorem plainSource_clock (k : Fin 7) : PlainSource (16 + k.val) := by
  revert k; unfold PlainSource; decide

theorem Lane.condition_clock (x : Lane) (k : Fin 7) (i : Nat) (on : Bool) :
    x.condition (16 + k.val) i on = { x with sys := { x.sys with badClocks := bitPut x.sys.badClocks k.val on } } := by
  have h : (decide (16 ≤ 16 + k.val) && decide (16 + k.val ≤ 22)) = true := by simp; omega
  simp only [Lane.condition, h, if_true, Nat.add_sub_cancel_left]

/-! ### Branches, beat, clocks -/

theorem State.tripBranch_home (s : State) (g : GreenId) (k : LaneId) (star : Bool) (p : Fin 6) :
    vget (s.tripBranch g k star).homes p = if p.val = 3 * g.val + k.val then
      { vget s.homes p with
        laneTrip := (vget s.homes p).laneTrip || !star
        starTrip := (vget s.homes p).starTrip || star } else vget s.homes p := by
  have hv : (fin (3 * g.val + k.val) : Fin 6).val = 3 * g.val + k.val := fin_val_of_lt (by omega)
  split
  · rename_i hp
    obtain rfl : p = fin (3 * g.val + k.val) := Fin.ext (hp.trans hv.symm)
    cases star <;> simp [State.tripBranch]
  · rename_i hp
    exact vget_vmod_ne _ _ fun e => hp (by rw [e, hv])

theorem Lane.beat_of {x : Lane} (hl : x.sys.lstate ≠ .off) (hr : x.sys.inReset = false) (hc : bit x.sys.badClocks 6 = false)
    (ht : x.inSlice 23 = false) :
    x.beat = { x with fc := { x.fc with beat := !x.fc.beat }, gd := { x.gd with hbSeen := true } }.driveAll := by
  simp [Lane.beat, hl, hr, hc, ht]

theorem Lane.beatLost_of_seen {x : Lane} (h : x.gd.hbSeen = true) :
    let z := each (idxs 12) (fun nn (y : Lane) => y.enterSafe nn) x
    x.beatLost = ({ z with gd := { z.gd with hbLost := true } }.driveAll).auxAllOff := by
  simp [Lane.beatLost, h]

theorem Lane.beatLost_of_not_seen {x : Lane} (h : x.gd.hbSeen = false) : x.beatLost = x := by simp [Lane.beatLost, h]

/-- A clock of a lane fails (R26): noted with power, reported while the lane works too. -/
theorem Lane.clockBad_eq (x : Lane) (k : Fin 7) :
    x.clockBad k = if x.sys.powered then
        if x.awake then ({ x with sys := { x.sys with badClocks := bitPut x.sys.badClocks k.val true } }).fault (16 + k.val) 0xFF 0 0 0
        else { x with sys := { x.sys with badClocks := bitPut x.sys.badClocks k.val true } }
      else x := by
  rw [Lane.clockBad, x.reportAll_report (plainSource_clock k), x.condition_clock k]
  cases x.sys.powered <;> simp

/-- Settles O23: a branch trips its own limiter; beat, its loss and a failed clock change the one lane or Green named. -/
theorem branchesBeatAndClocks : Obligations.BranchesBeatAndClocks := by
  refine ⟨fun s g k star => ⟨s.tripBranch g k star, rfl, rfl, rfl, rfl, rfl, s.tripBranch_home g k star⟩,
    fun s l x hx => ⟨fun hl hr hc ht => ?_, fun h => ?_, fun h => ?_, fun k => ⟨fun hp ha => ?_, fun hp ha => ?_, fun hp => ?_⟩⟩,
    fun s g => State.turns_onGreen rfl rfl⟩
  · exact State.turns_onLane rfl (by rw [hx, Lane.beat_of hl hr hc ht])
  · exact State.turns_onLane rfl (by rw [hx, Lane.beatLost_of_seen h])
  · exact State.turns_onLane rfl (by rw [hx, Lane.beatLost_of_not_seen h])
  all_goals
    have e : exec (.clockFault (.laneClock l k)) s = .next (s.onLane l fun y => y.clockBad k) := rfl
  · exact State.turns_onLane e (by rw [hx, Lane.clockBad_eq, if_pos hp, if_pos ha])
  · exact State.turns_onLane e (by rw [hx, Lane.clockBad_eq, if_pos hp, if_neg (by simp [ha])])
  · exact State.turns_onLane e (by rw [hx, Lane.clockBad_eq, if_neg (by simp [hp])])

end Sys2Proof.Machine
end

section
/-! Supplies and home ports (R378, R495 to R497): a supply that is not fed leaves the notices that wait as they are. -/

namespace Sys2Proof.Machine

/-- Ochre with Gamar running, a mailbox that has negotiated and a notice that waits for it. -/
def noticeWaits : Lane :=
  ({ Lane.cold 0 with
    sys := { Sys.cold with lstate := .active, mode := .run, run := true, pwrHold := true }
    hp := { HostPort.cold with ready := true, waiting := [.deviceMode 2] } } : Lane).onMb 0 fun m => { m with nego := some 0x0302 }

/-- That lane in a device none of whose home ports is classified. -/
def unfedWithNotice : State := { State.reset.setLane 0 noticeWaits with pd := Vector.replicate 32 none }

theorem unfedWithNotice_not_fed : unfedWithNotice.fed (.lane 0) = false := by decide

/-- Gamar can queue the notice, so a command that acted on the lane would queue it (R378). -/
theorem noticeWaits_noticeSync : noticeWaits.noticeSync.hp.waiting = [] := by decide

/-- A supply that no home port feeds does not become valid, and the row leaves the whole state as it is. -/
theorem State.supplyValid_of_not_fed {s : State} {r : Region} (h : s.fed r = false) : s.supplyValid r = s := by
  simp only [State.supplyValid, h, Bool.not_false, if_true]

/-- Refutes O58: SUPPLY_VALID of a lane that no home port feeds leaves a notice waiting that Gamar could queue, where the
statement has it queued. -/
theorem not_suppliesClocksAndHomePorts : ¬ Obligations.SuppliesClocksAndHomePorts := by
  intro h
  obtain ⟨-, hlanes, -⟩ := h unfedWithNotice
  obtain ⟨-, -, hvalid, -⟩ := hlanes 0 noticeWaits rfl
  have hnone : ∀ k, vget unfedWithNotice.pd k = none := vget_replicate none
  obtain ⟨t, ht, hlane, -⟩ := hvalid (.inl fun ⟨g, hpd, _⟩ => hpd (hnone _))
  have e : exec (.supplyValid (.lane 0)) unfedWithNotice = .next unfedWithNotice :=
    congrArg _ (State.supplyValid_of_not_fed unfedWithNotice_not_fed)
  cases e.symm.trans ht
  have hwaiting : noticeWaits.hp.waiting = noticeWaits.noticeSync.hp.waiting := congrArg (fun y : Lane => y.hp.waiting) hlane
  rw [noticeWaits_noticeSync] at hwaiting
  cases hwaiting

end Sys2Proof.Machine
end

section
/-! Lane reset and the run pins (R31, R491, R501 to R511): what a reset keeps, what it clears and how a lane leaves it. -/

namespace Sys2Proof.Machine

@[simp] theorem vget_map {α β : Type} {n : Nat} (f : α → β) (v : Vector α n) (i : Fin n) : vget (v.map f) i = f (vget v i) := by
  simp [vget]

/-! ### Commits that a reset cuts (R350) -/

theorem Lane.stopCommit_of_none {x : Lane} {nn : AxisId} (h : (x.axis nn).red.commit = none) : x.stopCommit nn = x := by
  simp only [Lane.stopCommit, h]

/-- A commit that stops touches its axis, the Granary and the free values alone. -/
theorem Lane.stopCommit_eq (x : Lane) (nn : AxisId) : ∃ ax mem free, x.stopCommit nn = { x with ax := ax, mem := mem, free := free } := by
  unfold Lane.stopCommit
  split <;> exact ⟨_, _, _, rfl⟩

theorem Lane.stopCommit_axis_ne (x : Lane) {nn m : AxisId} (h : nn ≠ m) : (x.stopCommit m).axis nn = x.axis nn := by
  unfold Lane.stopCommit
  split
  · rfl
  · exact Lane.onAxis_axis_ne _ _ h

theorem Lane.stopCommit_torn_self {x : Lane} {nn : AxisId} (h : (x.axis nn).red.commit ≠ none) :
    ((x.stopCommit nn).axis nn).red.torn = true := by
  unfold Lane.stopCommit
  split
  · exact absurd ‹_› h
  · exact congrArg (fun a : Axis => a.red.torn) (Lane.onAxis_axis_self ..)

theorem Lane.stopCommit_torn_of_torn {x : Lane} {nn : AxisId} (h : (x.axis nn).red.torn = true) (m : AxisId) :
    ((x.stopCommit m).axis nn).red.torn = true := by
  by_cases hm : nn = m
  · subst hm
    by_cases hc : (x.axis nn).red.commit = none
    · rwa [Lane.stopCommit_of_none hc]
    · exact Lane.stopCommit_torn_self hc
  · rwa [Lane.stopCommit_axis_ne x hm]

/-- The commits of some axes stop. -/
def Lane.stopCommits (ns : List AxisId) (x : Lane) : Lane := each ns (fun nn y => y.stopCommit nn) x

theorem Lane.stopCommits_eq (ns : List AxisId) :
    ∀ x : Lane, ∃ ax mem free, x.stopCommits ns = { x with ax := ax, mem := mem, free := free } := by
  induction ns with
  | nil => exact fun x => ⟨_, _, _, rfl⟩
  | cons n ns ih =>
    intro x
    obtain ⟨_, _, _, e⟩ := x.stopCommit_eq n
    obtain ⟨_, _, _, e'⟩ := ih (x.stopCommit n)
    exact ⟨_, _, _, e'.trans (by rw [e])⟩

theorem Lane.stopCommits_of_none (ns : List AxisId) {x : Lane} (h : ∀ nn, (x.axis nn).red.commit = none) : x.stopCommits ns = x := by
  induction ns with
  | nil => rfl
  | cons n ns ih =>
    show (x.stopCommit n).stopCommits ns = x
    rw [Lane.stopCommit_of_none (h n), ih]

theorem Lane.stopCommits_torn_of_torn (ns : List AxisId) {nn : AxisId} :
    ∀ {x : Lane}, (x.axis nn).red.torn = true → ((x.stopCommits ns).axis nn).red.torn = true := by
  induction ns with
  | nil => exact id
  | cons n ns ih => exact fun h => ih (Lane.stopCommit_torn_of_torn h n)

theorem Lane.stopCommits_torn {ns : List AxisId} {nn : AxisId} (hn : nn ∈ ns) :
    ∀ {x : Lane}, (x.axis nn).red.commit ≠ none → ((x.stopCommits ns).axis nn).red.torn = true := by
  induction ns with
  | nil => cases hn
  | cons n ns ih =>
    intro x h
    by_cases e : nn = n
    · subst e; exact Lane.stopCommits_torn_of_torn ns (Lane.stopCommit_torn_self h)
    · have hn' : nn ∈ ns := (List.mem_cons.1 hn).resolve_left e
      exact ih hn' (by rwa [Lane.stopCommit_axis_ne x e])

/-! ### Lane reset (R501 to R503) -/

/-- The lane as a reset finds it: a power-on reset finds it as it is, any other cuts the commits in progress. -/
def Lane.cut (x : Lane) (power : Bool) : Lane := if power then x else x.stopCommits (idxs 12)

theorem Lane.cut_eq (x : Lane) (power : Bool) : ∃ ax mem free, x.cut power = { x with ax := ax, mem := mem, free := free } := by
  cases power
  · exact x.stopCommits_eq (idxs 12)
  · exact ⟨_, _, _, rfl⟩

theorem Lane.laneReset_eq (x : Lane) (power : Bool) : x.laneReset power = { Lane.cold (x.cut power).idx with
    sys := (x.cut power).sys.afterReset,
    fc := (x.cut power).fc.afterReset,
    fl := if power then { (x.cut power).fl with powerCycles := (x.cut power).fl.powerCycles + 1 } else (x.cut power).fl,
    ax := (x.cut power).ax.map fun (a : Axis) => a.afterReset power,
    afe := Afe.cold,
    gd := (x.cut power).gd.afterReset,
    tst := { SelfTest.cold with tested := (x.cut power).tst.tested && !power },
    links := (x.cut power).links.map Link.afterReset,
    inp := (x.cut power).resetInputs,
    mem := { Memories.cold with granary := if power then [] else (x.cut power).mem.granary },
    tap := if power then Tap.cold else { (x.cut power).tap with pins := false },
    free := (x.cut power).free } := rfl

@[simp] theorem Lane.laneReset_idx (x : Lane) (power : Bool) : (x.laneReset power).idx = x.idx := by
  obtain ⟨_, _, _, e⟩ := x.cut_eq power
  rw [Lane.laneReset_eq, e]; rfl

@[simp] theorem Lane.laneReset_sys (x : Lane) (power : Bool) : (x.laneReset power).sys = x.sys.afterReset := by
  obtain ⟨_, _, _, e⟩ := x.cut_eq power
  rw [Lane.laneReset_eq, e]

@[simp] theorem Lane.laneReset_fc (x : Lane) (power : Bool) : (x.laneReset power).fc = x.fc.afterReset := by
  obtain ⟨_, _, _, e⟩ := x.cut_eq power
  rw [Lane.laneReset_eq, e]

@[simp] theorem Lane.laneReset_fl (x : Lane) (power : Bool) :
    (x.laneReset power).fl = if power then { x.fl with powerCycles := x.fl.powerCycles + 1 } else x.fl := by
  obtain ⟨_, _, _, e⟩ := x.cut_eq power
  rw [Lane.laneReset_eq, e]

@[simp] theorem Lane.laneReset_gd (x : Lane) (power : Bool) : (x.laneReset power).gd = x.gd.afterReset := by
  obtain ⟨_, _, _, e⟩ := x.cut_eq power
  rw [Lane.laneReset_eq, e]

@[simp] theorem Lane.laneReset_link (x : Lane) (power : Bool) (k : LaneId) :
    vget (x.laneReset power).links k = (vget x.links k).afterReset := by
  obtain ⟨_, _, _, e⟩ := x.cut_eq power
  rw [Lane.laneReset_eq, e]
  exact vget_map ..

theorem Lane.laneReset_axis (x : Lane) (power : Bool) (nn : AxisId) :
    (x.laneReset power).axis nn = ((x.cut power).axis nn).afterReset power := by
  rw [Lane.laneReset_eq]
  exact vget_map ..

theorem Lane.laneReset_torn (x : Lane) (power : Bool) (nn : AxisId) :
    ((x.laneReset power).axis nn).red.torn = (((x.cut power).axis nn).red.torn && !power) := by
  rw [Lane.laneReset_axis]; rfl

/-! ### Leaving lane reset (R504, R505, R511) -/

/-- What stands outside the lane's logic is the same before and after a reset (R362). -/
theorem Lane.standing_congr {x y : Lane} (hidx : y.idx = x.idx) (hclocks : y.sys.badClocks = x.sys.badClocks)
    (hrail : y.sys.railBad = x.sys.railBad) (hport : y.sys.portLost = x.sys.portLost) (hhot : y.sys.hot = x.sys.hot)
    (hline : ∀ k, (vget y.links k).line = (vget x.links k).line) (hinv : y.fc.invalid = x.fc.invalid) : y.standing = x.standing := by
  simp only [Lane.standing, hidx, hclocks, hrail, hport, hhot, hline, hinv]

/-- The lane at the first sample of its collector. -/
def Lane.started (x : Lane) : Lane :=
  { x.laneReset false with sys := { (x.laneReset false).sys with lstate := .init, mode := .start } }

theorem Lane.started_standing (x : Lane) : x.started.standing = x.standing := by
  refine Lane.standing_congr ?_ ?_ ?_ ?_ ?_ (fun k => ?_) ?_ <;>
    simp only [Lane.started, Lane.laneReset_idx, Lane.laneReset_sys, Lane.laneReset_link, Lane.laneReset_fc, Sys.afterReset,
      Link.afterReset, Collector.afterReset]

theorem Lane.recollect_eq (x : Lane) :
    x.recollect = if x.standing.isEmpty then { x with fc := { x.fc with invalid := 0 } }
      else ({ x with fc := { x.fc with invalid := 0 } } : Lane).collect x.standing := rfl

theorem Lane.leaveReset_eq (x : Lane) :
    x.leaveReset = if x.sys.inReset || !x.sys.powered then x.laneReset false
      else if x.sys.run then x.started.recollect
      else { x.laneReset false with sys := { (x.laneReset false).sys with parked := true } } := by
  have hs := x.laneReset_sys false
  have hr : (x.laneReset false).sys.inReset = x.sys.inReset := by rw [hs]; rfl
  have hp : (x.laneReset false).sys.powered = x.sys.powered := by rw [hs]; rfl
  have hn : (x.laneReset false).sys.run = x.sys.run := by rw [hs]; rfl
  rw [← hr, ← hp, ← hn]; rfl

/-! ### The run pins (R504, R506, R507, R509) -/

theorem Lane.runLow_eq (x : Lane) :
    x.runLow = if !x.awake || x.sys.mode = .shutdown || x.startupRun then { x with sys := { x.sys with run := false } }
      else if x.sys.mode = .off then ({ x with sys := { x.sys with run := false } } : Lane).park
      else if x.sys.mode = .start && !x.sys.pwrHold then ({ x with sys := { x.sys with run := false } } : Lane).park
      else ({ x with sys := { x.sys with run := false } } : Lane).shutdown := rfl

theorem Lane.runHigh_of_stands {x : Lane} (h : x.sys.run = true ∨ x.sys.inReset = true ∨ x.sys.powered = false) : x.runHigh = x := by
  have hc : (x.sys.run || x.sys.inReset || !x.sys.powered) = true := by rcases h with h | h | h <;> simp [h]
  exact if_pos hc

theorem Lane.runHigh_of_rises {x : Lane} (hn : x.sys.run = false) (hr : x.sys.inReset = false) (hp : x.sys.powered = true) :
    x.runHigh = if x.sys.mode = .off then ({ x with sys := { x.sys with run := true } } : Lane).leaveReset
      else if x.sys.mode = .shutdown then ({ x with sys := { x.sys with run := true } } : Lane).wakeRun
      else { x with sys := { x.sys with run := true } } := by
  have hc : ¬(x.sys.run || x.sys.inReset || !x.sys.powered) = true := by simp [hn, hr, hp]
  exact if_neg hc

theorem Lane.resetRelease_eq (x : Lane) :
    x.resetRelease = if !x.sys.inReset then x else ({ x with sys := { x.sys with inReset := false } } : Lane).leaveReset := rfl

/-! ### SHUTDOWN (R506) -/

/-- The lane in SHUTDOWN before the run of all slices: a debug halt ended, safe states, outputs off, slots and streams stopping. -/
def Lane.shut (x : Lane) : Lane :=
  let z := { x with
    sys := { x.sys with rejoining := false, rejoinTime := false, autoClear := false, halted := false },
    tap := { x.tap with pins := false } }.toMode .shutdown
  (((each (idxs 12) (fun nn (y : Lane) => y.enterSafe nn) z).auxAllOff).stopSlots true).streamsStop

theorem Lane.shutdown_eq (x : Lane) :
    x.shutdown = if x.shut.tst.run.isSome then x.shut else x.shut.beginRun .shutdown (2 ^ 24 - 1) := by
  unfold Lane.shutdown
  extract_lets _ _ a b c d
  have hw : d = x.shut := rfl
  rw [← hw]

/-- Settles O59: the pins lead to lane reset, to its end, to the parked state and to SHUTDOWN; a reset keeps what stands outside the
lane's logic, and a commit that it cuts leaves its slot torn. -/
theorem resetAndRunPins : Obligations.ResetAndRunPins := by
  refine ⟨fun s l x hx => ?_, fun x => ?_, fun x power => ?_, fun x => ?_⟩
  · have hlow : exec (.runLow l) s = .next (s.onLane l Lane.runLow) := rfl
    have hhigh : exec (.runHigh l) s = .next (s.onLane l Lane.runHigh) := rfl
    refine ⟨State.turns_onLane rfl (by rw [hx]; rfl), fun hr => ?_, fun hr => ?_,
      ⟨fun h => State.turns_onLane hlow ?_, fun ha ht =>
        ⟨fun hm => State.turns_onLane hlow ?_, fun ho hs hn => State.turns_onLane hlow ?_⟩⟩,
      fun hn hr hp => ⟨fun hm => State.turns_onLane hhigh ?_, fun hm => State.turns_onLane hhigh ?_,
        fun ho hm => State.turns_onLane hhigh ?_⟩,
      fun h => State.turns_onLane hhigh ?_⟩
    · exact State.turns_onLane rfl (by rw [hx, Lane.resetRelease_eq, if_neg (by simp [hr])])
    · exact State.turns_onLane rfl (by rw [hx, Lane.resetRelease_eq, if_pos (by simp [hr])])
    · rw [hx, Lane.runLow_eq, if_pos]
      rcases h with h | h | h <;> simp [h]
    · rw [hx, Lane.runLow_eq]
      rcases hm with hm | ⟨hm, hp⟩ <;> simp [*]
    · rw [hx, Lane.runLow_eq, if_neg (by simp [ha, hs, ht]), if_neg ho, if_neg (by simpa using hn)]
    · rw [hx, Lane.runHigh_of_rises hn hr hp, if_pos hm]
    · rw [hx, Lane.runHigh_of_rises hn hr hp, if_neg (by simp [hm]), if_pos hm]
    · rw [hx, Lane.runHigh_of_rises hn hr hp, if_neg ho, if_neg hm]
    · rw [hx, Lane.runHigh_of_stands h]
  · intro z w
    have hw : w = x.shut := rfl
    rw [hw, Lane.shutdown_eq]
    refine ⟨fun h => ?_, fun h => ?_⟩
    · rw [if_neg (by simp [h])]
    · rw [if_pos (Option.isSome_iff_ne_none.2 h)]
  · intro y
    have hcut : power = false → x.cut power = x.stopCommits (idxs 12) := by rintro rfl; rfl
    simp only [y, Lane.laneReset_sys, Lane.laneReset_idx, Lane.laneReset_fc, Lane.laneReset_fl, Lane.laneReset_gd,
      Lane.laneReset_torn, Lane.laneReset_granary]
    refine ⟨rfl, rfl, rfl, rfl, rfl, rfl, rfl, trivial, rfl, rfl, rfl, rfl, trivial, fun h => ?_, fun h hn => ?_,
      fun h => ⟨?_, fun nn hn => ?_⟩,
      rfl, rfl, rfl, rfl, rfl, fun nn => ?_⟩
    · simp [h]
    · have hs : each (idxs 12) (fun nn (y : Lane) => y.stopCommit nn) x = x := Lane.stopCommits_of_none _ hn
      have hc : x.cut false = x := Lane.stopCommits_of_none _ hn
      simp [h, hs, hc]
    · simp [h]
    · rw [hcut h, Lane.stopCommits_torn (show nn ∈ idxs 12 from List.mem_finRange nn) hn, h]; rfl
    · rw [Lane.laneReset_axis]; exact ⟨rfl, rfl, rfl⟩
  · intro y z stands w
    have hw : (if stands = [] then w else w.collect stands) = x.started.recollect := by
      rw [Lane.recollect_eq, Lane.started_standing]
      exact if_congr List.isEmpty_iff.symm rfl rfl
    refine ⟨rfl, fun h => ?_, fun hr hp => ⟨fun hn => ?_, fun hn => ?_⟩⟩
    · rw [Lane.leaveReset_eq, if_pos]
      rcases h with h | h <;> simp [h]
    · rw [Lane.leaveReset_eq, if_neg (by simp [hr, hp]), if_neg (by simp [hn])]
    · rw [Lane.leaveReset_eq, if_neg (by simp [hr, hp]), if_pos hn, ← hw]

end Sys2Proof.Machine
end

section
/-! Lane links (R15 to R19, R29, R30, R91, R95, R112): handover lines, links up and down, frames sent and received. -/

namespace Sys2Proof.Machine

/-! ### Handover lines -/

theorem Lane.handoverChange_of_awake {x : Lane} {k : LaneId} (hk : k ≠ x.idx) (ha : x.awake = true) (alive active : Bool) :
    x.handoverChange k alive active = if alive then x.lineAlive k active else x.lineLost k := by
  simp [Lane.handoverChange, hk, ha]

/-- The lane after a partner's line reads 01, before the mode is judged. -/
def Lane.lineFallen (x : Lane) (k : LaneId) : Lane :=
  (x.lineHealed k).onLink k fun c => { c with line := .r01, alive := false, active := false }

theorem Lane.lineLost_eq (x : Lane) (k : LaneId) :
    x.lineLost k = (((if (vget x.links k).alive || (vget x.links k).active then ((x.lineFallen k).event (192 + k.val) 0).judgeMode
      else x.lineFallen k).takeoverLane k).rejoinTry) := rfl

theorem Lane.handoverFailed_of_awake {x : Lane} {k : LaneId} (hk : k ≠ x.idx) (ha : x.awake = true) (high : Bool) :
    x.handoverFailed k high = (x.onLink k fun c => { c with line := if high then .r11 else .r00 }).fault (99 + k.val) 0xFF 0 0 0 := by
  simp [Lane.handoverFailed, hk, ha]

/-! ### Up and down -/

theorem Lane.linkUp_of_down {x : Lane} {k : LaneId} (hk : k ≠ x.idx) (hr : x.linkRuns = true) (hu : (vget x.links k).up = false) :
    x.linkUp k = ((((x.onLink k fun c => { c with
      up := true, everUp := c.everUp || x.sys.wasActive, cameUp := true, gotTime := false, rxSeq := Vector.replicate 4 none,
      txq := Vector.replicate 4 [], heard := 0 }).healthy (96 + k.val)).sendLink k 2 (.time x.tm.glob)).sendDescriptors
        fun j => j = k) := by
  have hc : ¬(decide (k = x.idx) || !x.linkRuns || (vget x.links k).up) = true := by simp [hk, hr, hu]
  exact if_neg hc

theorem Lane.linkDown_of_up {x : Lane} {k : LaneId} (hk : k ≠ x.idx) (hu : (vget x.links k).up = true) :
    let z := x.onLink k fun c => { c with
      up := false, gotTime := false, txq := Vector.replicate 4 [],
      lostTx := c.lostTx + ((vget x.links k).txq.toList.map List.length).sum }
    x.linkDown k = (if (vget x.links k).everUp then z.fault (96 + k.val) 0xFF 0 0 0 else z).rejoinTry := by
  have hc : ¬(decide (k = x.idx) || !(vget x.links k).up) = true := by simp [hk, hu]
  exact if_neg hc

/-- Settles O21: in a lane that is awake each row is the branch of its meaning that the line or the link asks for. -/
theorem handoverAndLinkState : Obligations.HandoverAndLinkState := by
  intro s l k x hx hk ha
  have hline : ∀ alive : Bool, exec (.handoverLineChange l k alive) s =
      .next (s.onLane l fun y => y.handoverChange k alive ((s.lane k).sys.lstate = .active)) := fun _ => rfl
  refine ⟨State.turns_onLane (hline true) ?_, fun h => State.turns_onLane (hline false) ?_,
    fun h h' => State.turns_onLane (hline false) ?_, fun high => State.turns_onLane rfl ?_, fun hr hr' hu => State.turns_onLane rfl ?_,
    fun hu => State.turns_onLane rfl ?_⟩
  · rw [hx, Lane.handoverChange_of_awake hk ha]; rfl
  · rw [hx, Lane.handoverChange_of_awake hk ha, if_neg Bool.false_ne_true, Lane.lineLost_eq, if_pos (by simpa using h)]; rfl
  · rw [hx, Lane.handoverChange_of_awake hk ha, if_neg Bool.false_ne_true, Lane.lineLost_eq, if_neg (by simp [h, h'])]; rfl
  · rw [hx, Lane.handoverFailed_of_awake hk ha]
  · rw [hx, if_pos hr', Lane.linkUp_of_down hk hr hu]
  · rw [hx, Lane.linkDown_of_up hk hu]

/-! ### Frames sent (R17, R19, R30) -/

/-- The first index that meets a condition. -/
theorem find?_idxs_eq_some {n : Nat} {p : Fin n → Bool} {i : Fin n} (hi : p i = true) (h : ∀ j, j < i → p j = false) :
    (idxs n).find? p = some i := by
  rw [List.find?_eq_some_iff_getElem]
  refine ⟨hi, i.val, by simp [idxs], by simp [idxs], fun j hj => ?_⟩
  have := h ⟨j, hj.trans i.isLt⟩ hj
  simp [idxs, this]

section
variable {z : Link} {ready : Bool}

/-- A class has nothing that may be sent. -/
theorem Link.class_idle {d : Fin 4} (h : vget z.txq d = [] ∨ (d.val < 2 ∧ ready = false)) :
    (classOpen ready d && !(vget z.txq d).isEmpty) = false := by
  rcases h with h | ⟨hd, hr⟩
  · simp [h]
  · simp [classOpen, hr, Nat.not_le.2 hd]

theorem Link.nextClass_eq_some {c : Fin 4} (hq : vget z.txq c ≠ []) (ho : ready = true ∨ 2 ≤ c.val)
    (h : ∀ d : Fin 4, d < c → vget z.txq d = [] ∨ (d.val < 2 ∧ ready = false)) : z.nextClass ready = some c := by
  refine find?_idxs_eq_some ?_ fun d hd => Link.class_idle (h d hd)
  have hopen : classOpen ready c = true := by
    rcases ho with ho | ho <;> simp [classOpen, ho]
  simp [hopen, hq]

theorem Link.nextClass_eq_none (h : ∀ d : Fin 4, vget z.txq d = [] ∨ (d.val < 2 ∧ ready = false)) : z.nextClass ready = none :=
  List.find?_eq_none.2 fun d _ => by rw [Link.class_idle (h d)]; exact Bool.false_ne_true

end

theorem Lane.linkSend_of {x : Lane} {k : LaneId} {ready : Bool} {c : Fin 4} {b : LinkPayload} {bs : List LinkPayload}
    (hk : k ≠ x.idx) (hr : x.linkRuns = true) (hu : (vget x.links k).up = true) (hn : (vget x.links k).nextClass ready = some c)
    (hq : vget (vget x.links k).txq c = b :: bs) :
    x.linkSend k ready = x.onLink k fun z => { z with txq := vset z.txq c bs }.put c b := by
  simp [Lane.linkSend, hk, hr, hu, hn, hq]

theorem Lane.linkIdle_of {x : Lane} {k : LaneId} {ready : Bool} (hk : k ≠ x.idx) (hr : x.linkRuns = true)
    (hn : (vget x.links k).nextClass ready = none) : x.linkIdle k ready = x.onLink k fun z => z.put 3 .idle := by
  simp [Lane.linkIdle, hk, hr, hn]

/-! ### Frames received (R17) -/

theorem Link.takes_of {z : Link} {f : LinkFrame} (hc : f.crcOk = true) (hf : f.cls < 4)
    (hq : vget z.rxSeq (fin f.cls) = none ∨ vget z.rxSeq (fin f.cls) = some (f.seq - 1)) : z.takes f = true := by
  rcases hq with hq | hq <;> simp [Link.takes, hc, hf, hq]

theorem Link.not_takes_of {z : Link} {f : LinkFrame}
    (h : f.crcOk = false ∨ 4 ≤ f.cls ∨ ∃ q, vget z.rxSeq (fin f.cls) = some q ∧ f.seq ≠ q + 1) : z.takes f = false := by
  rcases h with h | h | ⟨q, h, hq⟩
  · simp [Link.takes, h]
  · simp [Link.takes, Nat.not_lt.2 h]
  · have hs : decide (f.seq = q + 1) = false := decide_eq_false hq
    simp only [Link.takes, h, hs, Bool.and_false]

theorem Lane.linkReceive_eq {x : Lane} {k : LaneId} (hk : k ≠ x.idx) (hr : x.linkRuns = true) (active : Bool) (f : LinkFrame) :
    x.linkReceive k active f = if (vget x.links k).takes f then (x.linkUp k).linkAccept k active f
      else x.onLink k fun c => { c with discards := c.discards + 1 } := by
  simp [Lane.linkReceive, hk, hr]

/-- Settles O22: the first class with traffic is the one sent, an idle frame where there is none, and a frame is accepted as its
sequence says. -/
theorem linkFrames : Obligations.LinkFrames := by
  intro s l k x hx hk hr isUp ready wired
  have hrx : ∀ f, exec (.linkFrameReceive l k f) s = .next (s.onLane l fun y => y.linkReceive k (y.partnerSeen (s.lane k)) f) :=
    fun _ => rfl
  have htx : exec (.linkFrameSend l k) s = .next (s.onLane l fun y => y.linkSend k ready) := rfl
  have hidle : exec (.linkIdleFrame l k) s = .next (s.onLane l fun y => y.linkIdle k ready) := rfl
  refine ⟨fun c b bs hu hq hd ho => State.turns_onLane htx ?_, fun hd => State.turns_onLane hidle ?_,
    fun f hc hf hq => State.turns_onLane (hrx f) ?_, fun f h => State.turns_onLane (hrx f) ?_⟩
  · rw [hx, Lane.linkSend_of hk hr hu (Link.nextClass_eq_some (by simp [hq]) ho hd) hq]; rfl
  · rw [hx, Lane.linkIdle_of hk hr (Link.nextClass_eq_none hd)]; rfl
  · rw [hx, Lane.linkReceive_eq hk hr, if_pos (Link.takes_of hc hf hq)]; rfl
  · rw [hx, Lane.linkReceive_eq hk hr, if_neg (by simp [Link.not_takes_of h])]

end Sys2Proof.Machine
end

section
/-! The dispatcher's rows (R148 to R163, R177, R189): a raised event taken to the slots, a dispatch cycle, the completion of a node. -/

namespace Sys2Proof.Machine

/-! ### When a unit executes (R163, R189, R201) -/

theorem Lane.engineOk_iff (x : Lane) : x.engineOk = true ↔
    x.sys.pwrHold = true ∧ bit x.sys.badClocks 0 = false ∧ bit x.sys.badClocks 2 = false ∧
      x.inSlice 4 = false ∧ x.inSlice 5 = false := by
  simp only [Lane.engineOk, Lane.clockOn, Bool.and_eq_true, Bool.not_eq_true', and_assoc]

theorem Lane.holds_iff (x : Lane) (u : Fin 4) (op : Nat) : x.holds u op = true ↔ x.engineOk = true ∧
    ∃ j, x.unit u = some j ∧ j.executed = false ∧ j.left = 0 ∧ nodeOp ((x.slot j.slot).node j.node) = op := by
  cases h : x.unit u with
  | none => simp [Lane.holds, h]
  | some j => simp [Lane.holds, h, and_assoc]

theorem Lane.ripe_iff (x : Lane) (e : Event) :
    x.ripe e = true ↔ e.time ≠ x.tm.loc ∨ x.clockOn 3 = false ∨ x.inSlice 9 = true := by
  simp [Lane.ripe, or_assoc]

/-! ### A raised event (R148) -/

theorem Lane.triggerNext_of_stopped {x : Lane} (h : x.engineOk = false) : x.triggerNext = x := by simp [Lane.triggerNext, h]

theorem Lane.triggerNext_of_no_ripe {x : Lane} (h : x.dsp.events = [] ∨ ∃ e es, x.dsp.events = e :: es ∧ x.ripe e = false) :
    x.triggerNext = x := by
  unfold Lane.triggerNext
  split
  · rfl
  · obtain h | ⟨e, es, h, hr⟩ := h
    · rw [h]
    · simp only [h, hr, Bool.not_false, if_true]

theorem Lane.triggerNext_of_ripe {x : Lane} {e : Event} {es : List Event} (ho : x.engineOk = true) (h : x.dsp.events = e :: es)
    (hr : x.ripe e = true) :
    let r := ({ x with dsp := { x.dsp with events := es } }).triggerAll e
    let z := r.1.checkReserves (r.1.dsp.ready ++ r.1.dsp.entered ++ r.2)
    x.triggerNext = { z with dsp := { z.dsp with entered := z.dsp.entered ++ z.liveEntries r.2 } } := by
  have hc : (!x.engineOk) = false := by rw [ho]; rfl
  have hn : (!x.ripe e) = false := by rw [hr]; rfl
  unfold Lane.triggerNext
  rw [hc, if_neg Bool.false_ne_true, h]
  dsimp only
  rw [hn, if_neg Bool.false_ne_true]

/-! ### A dispatch cycle (R153 to R156) -/

theorem Lane.dispatch_of_stopped {x : Lane} (h : x.engineOk = false) : x.dispatch = x := by simp [Lane.dispatch, h]

theorem Lane.dispatch_of_runs {x : Lane} (h : x.engineOk = true) :
    let a := each (idxs 64) (fun k (y : Lane) => y.showFlags k) (each (idxs 4) (fun u (y : Lane) => y.complete u) x)
    let b := { a.ageUnits with dsp := { a.ageUnits.dsp with
      fresh := [], entered := [], events := a.dsp.events.filter fun e => !a.ripe e, setNow := [], cycle := a.dsp.cycle + 1 } }
    let p := (idxs 64).foldl (fun acc k => ((acc.1.releaseDue k).1, acc.2 ++ (acc.1.releaseDue k).2)) (b, a.dsp.entered)
    let q := (a.dsp.events.filter a.ripe).foldl (fun acc e => ((acc.1.triggerAll e).1, acc.2 ++ (acc.1.triggerAll e).2)) p
    let d := q.1.checkReserves (q.1.dsp.ready ++ q.2 ++ a.dsp.fresh)
    let i := d.issue d.idleUnits (d.dsp.ready ++ readySort (d.liveEntries q.2))
    x.dispatch = ({ i.1 with dsp := { i.1.dsp with
      ready := (i.2.filter fun r => d.dsp.ready.contains r) ++
        readySort ((i.2.filter fun r => !d.dsp.ready.contains r) ++ d.liveEntries a.dsp.fresh) } }).coefProgress := by
  have hc : (!x.engineOk) = false := by rw [h]; rfl
  unfold Lane.dispatch
  rw [hc, if_neg Bool.false_ne_true]

/-! ### The completion of a node (R154, R163) -/

theorem Lane.complete_of_stopped {x : Lane} (h : x.engineOk = false) (u : Fin 4) : x.complete u = x := by
  unfold Lane.complete
  split
  · rfl
  · simp [h]

section
variable {x : Lane} {u : Fin 4} {j : UnitJob} (ho : x.engineOk = true) (hu : x.unit u = some j) (he : j.executed = true)
include ho hu he

theorem Lane.complete_of_discarded (h : j.orphan = true ∨ (x.slot j.slot).run = none) : x.complete u = x.setUnit u none := by
  have hs : ((x.setUnit u none).slot j.slot).run = (x.slot j.slot).run := rfl
  have hrun : (if j.orphan then none else ((x.setUnit u none).slot j.slot).run) = none := by
    rcases h with h | h <;> simp [hs, h]
  simp only [Lane.complete, hu, he, ho, Bool.not_true, Bool.or_false, Bool.false_eq_true, if_false, hrun]

theorem Lane.complete_of_run {r : Run} (h : j.orphan = false) (hr : (x.slot j.slot).run = some r) :
    let g := x.slot j.slot
    let d := decrement r.deps (g.succOf j.node)
    let r' := { r with deps := d.1, completed := r.completed + 1 }
    let z := (x.setUnit u none).onSlot j.slot fun k => { k with run := some r' }
    let w := { z with dsp := { z.dsp with fresh := z.dsp.fresh ++ d.2.map fun i => (g.priority, j.slot, i) } }
    x.complete u = if r.completed + 1 = g.nodes.length then w.runDone j.slot r' else w := by
  have hs : (x.setUnit u none).slot j.slot = x.slot j.slot := rfl
  simp only [Lane.complete, hu, he, ho, Bool.not_true, Bool.or_false, Bool.false_eq_true, if_false, h, hs, hr]

end

/-- Settles O26: with the engine's clock on each row is its branch for the event, the cycle or the node that stands; with the clock
off none of them acts. -/
theorem dispatcherRows : Obligations.DispatcherRows := by
  refine ⟨fun x u op => ⟨x.holds_iff u op, x.engineOk_iff⟩, Lane.ripe_iff, fun s l x hx => ?_⟩
  have htrig : exec (.triggerEvent l) s = .next (s.onLane l Lane.triggerNext) := rfl
  have hdisp : exec (.dispatchCycle l) s = .next (s.onLane l Lane.dispatch) := rfl
  have hnode : ∀ u, exec (.nodeComplete l u) s = .next (s.onLane l fun y => y.complete u) := fun _ => rfl
  refine ⟨fun e es ho h hr => State.turns_onLane htrig ?_, fun h => State.turns_onLane htrig ?_,
    fun ho => State.turns_onLane hdisp ?_,
    fun u j ho hu he => ⟨fun h => State.turns_onLane (hnode u) ?_, fun r h hr => State.turns_onLane (hnode u) ?_⟩,
    fun ho => ⟨State.turns_onLane htrig ?_, State.turns_onLane hdisp ?_, fun u => State.turns_onLane (hnode u) ?_⟩⟩
  · rw [hx]; exact Lane.triggerNext_of_ripe ho h hr
  · rw [hx]; exact Lane.triggerNext_of_no_ripe h
  · rw [hx]; exact Lane.dispatch_of_runs ho
  · rw [hx]; exact Lane.complete_of_discarded ho hu he h
  · rw [hx]; exact Lane.complete_of_run ho hu he h hr
  · rw [hx]; exact Lane.triggerNext_of_stopped ho
  · rw [hx]; exact Lane.dispatch_of_stopped ho
  · rw [hx]; exact Lane.complete_of_stopped ho u

end Sys2Proof.Machine
end

section
/-! A beat of the stream engine (R478 to R491). -/

namespace Sys2Proof.Machine

/-! ### When a channel is served (R478) -/

theorem Lane.streamReady_iff (x : Lane) (c : Fin 16) :
    x.streamReady c = true ↔ ((x.chan c).st = .running ∨ (x.chan c).st = .stopping) ∧ (x.chan c).walking = none := by
  simp [Lane.streamReady]

theorem Lane.streamTurn_iff (x : Lane) (c : Fin 16) :
    x.streamTurn c = true ↔ ∀ d, x.streamReady d = true → c - x.str.last - 1 ≤ d - x.str.last - 1 := by
  simp only [Lane.streamTurn, Lane.turnsTo, List.all_eq_true, Bool.or_eq_true, Bool.not_eq_true']
  refine ⟨fun h d hd => of_decide_eq_true ((h d (List.mem_finRange d)).resolve_left (by simp [hd])), fun h d _ => ?_⟩
  cases hd : x.streamReady d
  · exact .inl rfl
  · exact .inr (decide_eq_true (h d hd))

theorem Lane.streamServed_iff (x : Lane) (c : Fin 16) : x.streamServed c = true ↔
    x.streamReady c = true ∧ (∀ d, x.streamReady d = true → c - x.str.last - 1 ≤ d - x.str.last - 1) ∧ x.portOn = true ∧
      x.supClock = true ∧ x.inSlice 6 = false := by
  simp only [Lane.streamServed, Lane.streamsRun, Bool.and_eq_true, Bool.not_eq_true', x.streamTurn_iff, and_assoc]

/-! ### The branches of a beat (R482 to R490) -/

/-- The present beat has source units still to read. -/
def Lane.beatReads (x : Lane) (c : Fin 16) : Bool := (x.chan c).nextSrc < x.readEnd c (x.beatTo c (x.chan c).beat)

/-- The address of the next source unit of the present beat. -/
def Lane.nextUnit (x : Lane) (c : Fin 16) : Nat :=
  x.srcAddr c (x.chan c).nextSrc / srcWidth (x.streamRec c) * srcWidth (x.streamRec c)

/-- The source units of a beat pass into the holding register; the beat stays. -/
theorem Lane.streamFill_beat (x : Lane) (c : Fin 16) : ((x.streamFill c).chan c).beat = (x.chan c).beat := by
  unfold Lane.streamFill
  dsimp only
  split
  · rfl
  · rw [Lane.onStream_stream_self]; rfl

theorem Lane.streamBeat_of_not_served {x : Lane} {c : Fin 16} (h : x.streamServed c = false) (err : Option BeatError) :
    x.streamBeat c err = x := by simp only [Lane.streamBeat, h, Bool.not_false, if_true]

section
variable {x z : Lane} {c : Fin 16} {err : Option BeatError} (hs : x.streamServed c = true) (hz : x.streamLatch c = z)
include hs hz

theorem Lane.streamBeat_of_srcFault {cause : StCause} {a : Nat} (h : z.srcFault c = some (cause, a)) :
    x.streamBeat c err = z.streamHalt c cause a false := by
  simp only [Lane.streamBeat, hs, hz, h, Bool.not_true, Bool.false_eq_true, if_false]

variable (hf : z.srcFault c = none)
include hf

theorem Lane.streamBeat_of_miss {a : Nat} (h : z.beatMiss c = some a) :
    x.streamBeat c err = z.onStream c fun q => { q with walking := some a } := by
  simp only [Lane.streamBeat, hs, hz, hf, h, Bool.not_true, Bool.false_eq_true, if_false]

variable (hm : z.beatMiss c = none)
include hm

theorem Lane.streamBeat_of_read_error {e : BeatError} (h : (err.filter fun e => !e.write && z.beatReads c) = some e) :
    x.streamBeat c err = z.beatError c e (z.nextUnit c) := by
  unfold Lane.beatReads at h
  simp only [Lane.streamBeat, hs, hz, hf, hm, h, Lane.nextUnit, Bool.not_true, Bool.false_eq_true, if_false]

variable (hr : (err.filter fun e => !e.write && z.beatReads c) = none) {y : Lane} (hy : z.streamFill c = y)
include hr hy

theorem Lane.streamBeat_of_dstFault {cause : StCause} {a : Nat} (h : y.dstFault c = some (cause, a)) :
    x.streamBeat c err = y.streamHalt c cause a false := by
  unfold Lane.beatReads at hr
  simp only [Lane.streamBeat, hs, hz, hf, hm, hr, hy, h, Bool.not_true, Bool.false_eq_true, if_false]

variable (hd : y.dstFault c = none)
include hd

theorem Lane.streamBeat_of_write_error {e : BeatError} (h : err.filter BeatError.write = some e) :
    x.streamBeat c err = y.beatError c e (y.beatAddr c (y.chan c).beat) := by
  unfold Lane.beatReads at hr
  have hb : (y.chan c).beat = (z.chan c).beat := by rw [← hy, Lane.streamFill_beat]
  simp only [Lane.streamBeat, hs, hz, hf, hm, hr, hy, hd, h, hb, Bool.not_true, Bool.false_eq_true, if_false]

theorem Lane.streamBeat_of_write (h : err.filter BeatError.write = none) : x.streamBeat c err = y.beatWrite c := by
  unfold Lane.beatReads at hr
  simp only [Lane.streamBeat, hs, hz, hf, hm, hr, hy, hd, h, Bool.not_true, Bool.false_eq_true, if_false]

end

/-! ### One destination write (R483, R485) -/

/-- A byte that a stream writes goes to a slot, an endpoint or a memory. -/
theorem Lane.streamPut_eq (x : Lane) (a : Nat) (b : Byte) :
    ∃ dsp eps mem, x.streamPut a b = { x with dsp := dsp, eps := eps, mem := mem } := by
  unfold Lane.streamPut
  split
  · exact ⟨_, _, _, rfl⟩
  · unfold Lane.writePdu
    dsimp only
    split <;> exact ⟨_, _, _, rfl⟩
  all_goals exact ⟨_, _, _, rfl⟩

theorem Lane.streamPutN_eq (c : Fin 16) (bs : Bytes) :
    ∀ (x : Lane) (j : Nat), ∃ dsp eps mem, x.streamPutN c j bs = { x with dsp := dsp, eps := eps, mem := mem } := by
  induction bs with
  | nil => exact fun x _ => ⟨_, _, _, rfl⟩
  | cons b bs ih =>
    intro x j
    obtain ⟨_, _, _, e⟩ := x.streamPut_eq (x.dstAddr c j) b
    obtain ⟨_, _, _, e'⟩ := ih (x.streamPut (x.dstAddr c j) b) (j + 1)
    exact ⟨_, _, _, e'.trans (by rw [e])⟩

/-- What a write leaves as it is: where the beats of the pass begin. -/
theorem Lane.beatFrom_streamPutN (x : Lane) (c d : Fin 16) (j i : Nat) (bs : Bytes) :
    ({ x.streamPutN c j bs with str := { (x.streamPutN c j bs).str with last := d } } : Lane).beatFrom c i = x.beatFrom c i := by
  obtain ⟨_, _, _, e⟩ := x.streamPutN_eq c bs j
  rw [e]; rfl

theorem Lane.beatNext_eq (x : Lane) (c : Fin 16) :
    x.beatNext c = match streamPlace (dstVa (x.streamRec c)) with
      | .coef _ _ => min (x.beatTo c (x.chan c).beat) (x.beatNow c + 4)
      | _ => x.beatTo c (x.chan c).beat := by
  unfold Lane.beatNext dstCoef
  cases streamPlace (dstVa (x.streamRec c)) <;> rfl

/-- A write of the `n` bytes that the beat has next. -/
theorem Lane.beatWrite_eq (x : Lane) (c : Fin 16) {n : Nat} (hn : n = x.beatNext c - x.beatNow c) :
    let h := x.chan c
    let j := x.beatNow c
    let whole := x.beatTo c h.beat ≤ j + n
    let y := x.streamPutN c j ((h.pool.drop (j - x.beatFrom c h.beat)).take n)
    let z := { y with str := { y.str with last := if whole then c else c - 1 } }.onStream c fun q =>
      if whole then { q.withPool (q.pool.drop (j + n - x.beatFrom c h.beat)) with beat := q.beat + 1, retries := 0, half := false }
      else { q with half := true }
    let w := z.traceMove c j n
    x.beatWrite c = if passCount (w.streamRec c) ≤ j + n then w.passEnd c else w := by
  subst hn
  simp only [Lane.beatWrite, Lane.beatFrom_streamPutN]

/-! ### The end of a pass (R484, R486, R487) -/

theorem StreamCh.follow_eq (q : StreamCh) (r : Bytes) :
    q.follow r = if natBit (streamFlags r) 1 = false then { q with st := .stopped, pendTrig := false }
      else if natBit (streamFlags r) 0 = true ∧ q.pendTrig = false then { q with st := .waiting }
      else { q with pendTrig := false } := by
  simp only [StreamCh.follow, streamRepeat, streamWait, Bool.not_eq_true', Bool.and_eq_true]

/-- The lane at the end of a pass, before the channel stops or goes on. -/
def Lane.passDone (x : Lane) (c : Fin 16) : Lane :=
  let y := x.passSend (dstVa (x.streamRec c))
  (if streamEvent (x.streamRec c) then y.event (176 + c.val) 1 else y).onStream c fun q => q.rewind (x.streamRec c)

theorem Lane.passEnd_eq (x : Lane) (c : Fin 16) :
    x.passEnd c = if ((x.passDone c).chan c).st = .stopping then (x.passDone c).streamStopped c
      else (x.passDone c).onStream c fun q => q.follow (x.streamRec c) := rfl

/-- Settles O51: a beat of a served channel is the branch that its first fault, miss or error names; halts, reports and the end of a
pass are their definitions; a write leaves record and channel, so the beat that it ends is the one it began. -/
theorem streamBeats : Obligations.StreamBeats := by
  refine ⟨?_, fun x a => ⟨?_, ?_, ?_, ?_, ?_⟩, fun x c cause a final => rfl, ?_, ?_, ?_⟩
  · intro s l x c err hx ready served z y h needs w bus
    have hserved : served ↔ x.streamServed c = true := by
      rw [x.streamServed_iff c]; simp only [Lane.streamReady_iff]; rfl
    have hneeds : needs ↔ z.beatReads c = true := by simp only [Lane.beatReads, decide_eq_true_eq]; rfl
    have e : exec (.streamBeat l c err) s = .next (s.onLane l fun v => v.streamBeat c err) := rfl
    have turns : ∀ {v : Lane}, x.streamBeat c err = v → s.Turns (.streamBeat l c err) l v := fun hv =>
      State.turns_onLane e (by rw [hx, hv])
    refine ⟨fun hs => ?_, fun hs => turns (Lane.streamBeat_of_not_served (by simpa using mt hserved.2 hs) err)⟩
    have hs := hserved.1 hs
    refine ⟨fun cause a hf => turns (Lane.streamBeat_of_srcFault hs rfl hf), fun hf =>
      ⟨fun a hm => turns (Lane.streamBeat_of_miss hs rfl hf hm), fun hm => ⟨fun e he hw hn => ?_, fun hr => ?_⟩⟩⟩
    · have hread : (err.filter fun e => !e.write && z.beatReads c) = some e := by
        simp [he, hw, hneeds.1 hn]
      exact turns (Lane.streamBeat_of_read_error hs rfl hf hm hread)
    · have hread : (err.filter fun e => !e.write && z.beatReads c) = none := by
        refine Option.filter_eq_none_iff.2 fun e he => ?_
        cases hw : e.write
        · simpa using mt hneeds.2 (hr e he hw)
        · simp
      refine ⟨fun cause a hd => turns (Lane.streamBeat_of_dstFault hs rfl hf hm hread rfl hd), fun hd =>
        ⟨fun e he hw => turns (Lane.streamBeat_of_write_error hs rfl hf hm hread rfl hd ?_),
          fun hw => turns (Lane.streamBeat_of_write hs rfl hf hm hread rfl hd ?_)⟩⟩
      · simp [he, hw]
      · exact Option.filter_eq_none_iff.2 fun e he => by simp [hw e he]
  · rintro k o (h | h) <;> simp only [Lane.memoryReport, h]
  · intro o h; simp only [Lane.memoryReport, h]
  · rintro o (h | h) <;> simp only [Lane.memoryReport, h]
  · intro e o h; simp only [Lane.memoryReport, h]
  · intro h; simp only [Lane.memoryReport, h]
  · intro x c h hi bs
    have e : x.streamFill c = if hi - h.nextSrc = 0 then x
      else x.onStream c fun q => { q.withPool (q.pool ++ bs) with nextSrc := hi } := rfl
    refine ⟨fun hn => ?_, fun hn => ?_⟩
    · rw [e, if_pos (by omega)]
    · rw [e, if_neg (by omega)]; rfl
  · intro x c h first last j n whole y z w
    have hn : n = x.beatNext c - x.beatNow c := by rw [Lane.beatNext_eq]; rfl
    exact x.beatWrite_eq c hn
  · intro x c r moved y w
    have hw : w = x.passDone c := rfl
    rw [hw, Lane.passEnd_eq]
    refine ⟨fun h => if_pos h, fun h => ?_⟩
    rw [if_neg h]
    exact congrArg _ (funext fun q => q.follow_eq r)

end Sys2Proof.Machine
end

section
/-! Isolation of the regions (R12 to R14): what a command changes outside its region, and what its effect inside depends on. -/

namespace Sys2Proof.Machine

/-! ### What a command leaves as it is -/

/-- A change of the device that touches nothing but one lane and the PD states. -/
def OnlyLane (l : LaneId) (s t : State) : Prop := (∀ k, k ≠ l → t.lane k = s.lane k) ∧ t.greens = s.greens ∧ t.homes = s.homes

/-- A change of the device that touches nothing but one Green and the PD states. -/
def OnlyGreen (g : GreenId) (s t : State) : Prop := (∀ k, k ≠ g → t.green k = s.green k) ∧ t.lanes = s.lanes ∧ t.homes = s.homes

theorem OnlyLane.refl (l : LaneId) (s : State) : OnlyLane l s s := ⟨fun _ _ => rfl, rfl, rfl⟩

theorem OnlyGreen.refl (g : GreenId) (s : State) : OnlyGreen g s s := ⟨fun _ _ => rfl, rfl, rfl⟩

theorem State.onLane_only (s : State) (l : LaneId) (f : Lane → Lane) : OnlyLane l s (s.onLane l f) :=
  ⟨fun _ hk => State.onLane_lane_ne s f hk, rfl, rfl⟩

theorem State.onGreen_only (s : State) (g : GreenId) (f : Green → Green) : OnlyGreen g s (s.onGreen g f) :=
  ⟨fun _ hk => State.onGreen_green_ne s f hk, rfl, rfl⟩

/-- Changes of PD states touch no region. -/
theorem OnlyLane.of_pd {l : LaneId} {s t : State} {pd : Vector (Option Nat) 32} (h : OnlyLane l { s with pd := pd } t) :
    OnlyLane l s t := h

theorem OnlyGreen.of_pd {g : GreenId} {s t : State} {pd : Vector (Option Nat) 32} (h : OnlyGreen g { s with pd := pd } t) :
    OnlyGreen g s t := h

/-- The loss of a region's supply changes PD states and the region. -/
theorem State.supplyLost_lane (s : State) (l : LaneId) :
    ∃ pd, s.supplyLost (.lane l) = { s with pd := pd }.onLane l Lane.supplyDown := ⟨_, rfl⟩

theorem State.supplyLost_green (s : State) (g : GreenId) :
    ∃ pd, s.supplyLost (.green g) = { s with pd := pd }.onGreen g fun x => { x with powered := false }.afterReset := ⟨_, rfl⟩

/-- The loss of a home port changes PD states and the lane it feeds. -/
theorem State.homePortLoss_lane (s : State) (l : LaneId) (g : GreenId) :
    ∃ pd, exec (.homePortLoss l g) s =
      .next ({ s with pd := pd }.onLane l fun x => x.reportAll [report 26 0xFF 0 (16 * g.val + l.val) 0]) := ⟨_, rfl⟩

/-- What a command that led from `s` to `t` has left as it was, by its region. -/
def Confined (c : Instr) (s t : State) : Prop :=
  (∀ l, c.region = some (.lane l) →
    (∀ k, k ≠ l → t.lane k = s.lane k) ∧ t.greens = s.greens ∧ t.homes = s.homes ∧
    ((∀ g, c ≠ .homePortLoss l g) → c ≠ .supplyLost (.lane l) → t.pd = s.pd)) ∧
  (∀ g, c.region = some (.green g) →
    (∀ k, k ≠ g → t.green k = s.green k) ∧ t.lanes = s.lanes ∧ t.homes = s.homes ∧
    (c ≠ .supplyLost (.green g) → t.pd = s.pd)) ∧
  (c.region = none → t.lanes = s.lanes ∧ t.greens = s.greens)

section
variable {c : Instr} {s t : State}

theorem Confined.of_lane {l : LaneId} (hr : c.region = some (.lane l)) (h : OnlyLane l s t)
    (hp : (∀ g, c ≠ .homePortLoss l g) → c ≠ .supplyLost (.lane l) → t.pd = s.pd) : Confined c s t := by
  obtain ⟨hlanes, hgreens, hhomes⟩ := h
  refine ⟨fun k hk => ?_, fun g hg => ?_, fun hn => ?_⟩
  · cases hr.symm.trans hk; exact ⟨hlanes, hgreens, hhomes, hp⟩
  · cases hr.symm.trans hg
  · cases hr.symm.trans hn

theorem Confined.of_green {g : GreenId} (hr : c.region = some (.green g)) (h : OnlyGreen g s t)
    (hp : c ≠ .supplyLost (.green g) → t.pd = s.pd) : Confined c s t := by
  obtain ⟨hgreens, hlanes, hhomes⟩ := h
  refine ⟨fun k hk => ?_, fun k hk => ?_, fun hn => ?_⟩
  · cases hr.symm.trans hk
  · cases hr.symm.trans hk; exact ⟨hgreens, hlanes, hhomes, hp⟩
  · cases hr.symm.trans hn

theorem Confined.of_none (hr : c.region = none) (hl : t.lanes = s.lanes) (hg : t.greens = s.greens) : Confined c s t := by
  refine ⟨fun l h => ?_, fun g h => ?_, fun _ => ⟨hl, hg⟩⟩ <;> cases hr.symm.trans h

end

/-- A supply that becomes valid touches its region alone, and no PD state. -/
theorem exec_supplyValid_confined (s : State) (r : Region) : Confined (.supplyValid r) s (s.supplyValid r) := by
  cases hf : s.fed r with
  | false =>
    rw [State.supplyValid_of_not_fed hf]
    cases r with
    | lane l => exact .of_lane rfl (.refl l s) fun _ _ => rfl
    | green g => exact .of_green rfl (.refl g s) fun _ => rfl
  | true =>
    cases r with
    | lane l =>
      have e : s.supplyValid (.lane l) = s.onLane l Lane.supplyUp := by simp [State.supplyValid, hf]
      exact e ▸ .of_lane rfl (s.onLane_only l _) fun _ _ => rfl
    | green g =>
      have e : s.supplyValid (.green g) = s.onGreen g fun x => if x.powered then x else { x with powered := true }.afterReset := by
        simp [State.supplyValid, hf]
      exact e ▸ .of_green rfl (s.onGreen_only g _) fun _ => rfl

/-- A row of the power branches touches its region, the home ports and the PD states alone. -/
theorem exec_powerRow_confined {c : Instr} (h : PowerRow c) {s t : State} (ht : exec c s = .next t) : Confined c s t := by
  cases c with
  | branchOverload | pdClassification => cases ht; exact .of_none rfl rfl rfl
  | homePortLoss l g => cases ht; exact .of_lane rfl (.of_pd (State.onLane_only ..)) fun hn _ => absurd rfl (hn g)
  | supplyValid r => cases ht; exact exec_supplyValid_confined s r
  | supplyLost r =>
    have e : t = s.supplyLost r := (Host.Outcome.next.inj ht).symm
    cases r with
    | lane l =>
      obtain ⟨pd, h⟩ := s.supplyLost_lane l
      exact .of_lane rfl (.of_pd (pd := pd) (e.trans h ▸ State.onLane_only ..)) fun _ hn => absurd rfl hn
    | green g =>
      obtain ⟨pd, h⟩ := s.supplyLost_green g
      exact .of_green rfl (.of_pd (pd := pd) (e.trans h ▸ State.onGreen_only ..)) fun hn => absurd rfl hn
  | _ => exact h.elim

theorem exec_confined {c : Instr} {s t : State} (ht : exec c s = .next t) : Confined c s t := by
  obtain ⟨l, f, hr, h⟩ | ⟨g, f, hr, h⟩ | h := exec_cases c s
  · cases h.symm.trans ht; exact .of_lane hr (s.onLane_only l f) fun _ _ => rfl
  · cases h.symm.trans ht; exact .of_green hr (s.onGreen_only g f) fun _ => rfl
  · exact exec_powerRow_confined h ht

/-! ### What the effect of a command depends on -/

/-- The command changes the lane that it names in a way that no other part of the device bears on. -/
def ActsOnLane (c : Instr) : Prop :=
  ∃ (l : LaneId) (f : Lane → Lane), c.region = some (.lane l) ∧ ∀ s, exec c s = .next (s.onLane l f)

/-- The command changes the Green that it names in a way that no other part of the device bears on. -/
def ActsOnGreen (c : Instr) : Prop :=
  ∃ (g : GreenId) (f : Green → Green), c.region = some (.green g) ∧ ∀ s, exec c s = .next (s.onGreen g f)

/-- The rows in which a lane sees a partner over a lane link (R15 to R17, R30, R505). -/
def SeesPartner : Instr → Prop
  | .handoverLineChange _ _ _ => True
  | .linkUp _ _ => True
  | .linkFrameReceive _ _ _ => True
  | .linkFrameSend _ _ => True
  | .linkIdleFrame _ _ => True
  | .laneStart _ _ => True
  | _ => False

theorem SeesPartner.region_ne_green {c : Instr} (h : SeesPartner c) (g : GreenId) : c.region ≠ some (.green g) := by
  cases c with
  | handoverLineChange | linkUp | linkFrameReceive | linkFrameSend | linkIdleFrame | laneStart => intro hr; cases hr
  | _ => exact h.elim

/-- Every other row acts on its region by that region alone. -/
theorem acts_cases (c : Instr) : ActsOnLane c ∨ ActsOnGreen c ∨ PowerRow c ∨ SeesPartner c := by
  cases c with
  | handoverLineChange | linkUp | linkFrameReceive | linkFrameSend | linkIdleFrame | laneStart => exact .inr (.inr (.inr trivial))
  | branchOverload | pdClassification | homePortLoss | supplyValid | supplyLost => exact .inr (.inr (.inl trivial))
  | greenFrameIngress | slotEndTruncate | greenCycleEnd | greenStatusSend | portLinkChange | greenBlockEnd | greenSyncLoss
  | greenTestPin | greenOverTemperature | greenCooled => exact .inr (.inl ⟨_, _, rfl, fun _ => rfl⟩)
  | clockFault k =>
    cases k with
    | laneClock => exact .inl ⟨_, _, rfl, fun _ => rfl⟩
    | greenClock => exact .inr (.inl ⟨_, _, rfl, fun _ => rfl⟩)
  | _ => exact .inl ⟨_, _, rfl, fun _ => rfl⟩

/-- Changes of a lane by one function give equal lanes where the lane was the same. -/
theorem State.onLane_lane_congr {s s' : State} {l : LaneId} (h : s.lane l = s'.lane l) (f : Lane → Lane) :
    (s.onLane l f).lane l = (s'.onLane l f).lane l := by
  rw [State.onLane_lane_self, State.onLane_lane_self, h]

theorem State.onGreen_green_congr {s s' : State} {g : GreenId} (h : s.green g = s'.green g) (f : Green → Green) :
    (s.onGreen g f).green g = (s'.onGreen g f).green g := by
  rw [State.onGreen_green_self, State.onGreen_green_self, h]

section
variable {c : Instr} {s t s' t' : State} (ht : exec c s = .next t) (ht' : exec c s' = .next t')
include ht ht'

/-- A row of the power branches, but for a supply that becomes valid, changes a lane by what that lane is. -/
theorem exec_powerRow_lane_congr (hc : PowerRow c) {l : LaneId} (hr : c.region = some (.lane l)) (h : s.lane l = s'.lane l)
    (hv : c ≠ .supplyValid (.lane l)) : t.lane l = t'.lane l := by
  cases c with
  | homePortLoss l' g =>
    cases hr
    obtain ⟨pd, e⟩ := s.homePortLoss_lane l g
    obtain ⟨pd', e'⟩ := s'.homePortLoss_lane l g
    rw [← Host.Outcome.next.inj (e.symm.trans ht), ← Host.Outcome.next.inj (e'.symm.trans ht')]
    refine State.onLane_lane_congr ?_ _
    exact h
  | supplyValid => cases hr; exact absurd rfl hv
  | supplyLost r =>
    cases hr
    obtain ⟨pd, e⟩ := s.supplyLost_lane l
    obtain ⟨pd', e'⟩ := s'.supplyLost_lane l
    rw [← Host.Outcome.next.inj ht, ← Host.Outcome.next.inj ht', e, e']
    exact State.onLane_lane_congr h _
  | branchOverload | pdClassification => cases hr
  | _ => exact hc.elim

theorem exec_powerRow_green_congr (hc : PowerRow c) {g : GreenId} (hr : c.region = some (.green g)) (h : s.green g = s'.green g)
    (hv : c ≠ .supplyValid (.green g)) : t.green g = t'.green g := by
  cases c with
  | supplyValid => cases hr; exact absurd rfl hv
  | supplyLost r =>
    cases hr
    obtain ⟨pd, e⟩ := s.supplyLost_green g
    obtain ⟨pd', e'⟩ := s'.supplyLost_green g
    rw [← Host.Outcome.next.inj ht, ← Host.Outcome.next.inj ht', e, e']
    exact State.onGreen_green_congr h _
  | branchOverload | pdClassification | homePortLoss => cases hr
  | _ => exact hc.elim

theorem exec_lane_congr {l : LaneId} (hr : c.region = some (.lane l)) (h : s.lane l = s'.lane l) (hp : ¬SeesPartner c)
    (hv : c ≠ .supplyValid (.lane l)) : t.lane l = t'.lane l := by
  obtain ⟨k, f, hk, he⟩ | ⟨g, f, hg, -⟩ | hc | hc := acts_cases c
  · cases hr.symm.trans hk
    cases (he s).symm.trans ht; cases (he s').symm.trans ht'
    exact State.onLane_lane_congr h f
  · cases hr.symm.trans hg
  · exact exec_powerRow_lane_congr ht ht' hc hr h hv
  · exact absurd hc hp

theorem exec_green_congr {g : GreenId} (hr : c.region = some (.green g)) (h : s.green g = s'.green g)
    (hv : c ≠ .supplyValid (.green g)) : t.green g = t'.green g := by
  obtain ⟨l, f, hl, -⟩ | ⟨k, f, hk, he⟩ | hc | hc := acts_cases c
  · cases hr.symm.trans hl
  · cases hr.symm.trans hk
    cases (he s).symm.trans ht; cases (he s').symm.trans ht'
    exact State.onGreen_green_congr h f
  · exact exec_powerRow_green_congr ht ht' hc hr h hv
  · exact absurd hr (hc.region_ne_green g)

end

/-- Settles O3: a command changes its lane or its Green by a function of that part alone, but for the rows of the power branches,
which touch home ports and PD states too, and the rows in which a lane sees a partner. -/
theorem regionIsolation : Obligations.RegionIsolation := by
  refine ⟨fun c s t ht => exec_confined ht, fun c s t s' t' ht ht' =>
    ⟨fun l hr h hline hup hreceive hsend hidle hstart hv => exec_lane_congr ht ht' hr h (fun hc => ?_) hv,
      fun g hr h hv => exec_green_congr ht ht' hr h hv⟩⟩
  cases c with
  | handoverLineChange _ k a => cases hr; exact hline k a rfl
  | linkUp _ k => cases hr; exact hup k rfl
  | linkFrameReceive _ k f => cases hr; exact hreceive k f rfl
  | linkFrameSend _ k => cases hr; exact hsend k rfl
  | linkIdleFrame _ k => cases hr; exact hidle k rfl
  | laneStart _ o => cases hr; exact hstart o rfl
  | _ => exact hc

end Sys2Proof.Machine
end

section
/-! The front of the queue, the interrupt pin, and the host port: reads, writes and doorbells (R34 to R43). -/

namespace Sys2Proof.Machine

/-- Settles O1: a step is the meaning of the command at the front, the identity where there is none. -/
theorem stepTakesTheFront : Obligations.StepTakesTheFront :=
  ⟨fun _ _ => rfl, fun _ _ _ => step_of_pending_cons, fun s h => by simp only [step, h]⟩

/-! ### Bits -/

theorem bit_and {w : Nat} (a b : BitVec w) (k : Nat) : bit (a &&& b) k = (bit a k && bit b k) := BitVec.getLsbD_and

theorem bit_extract {w : Nat} (v : BitVec w) (start len k : Nat) : bit (v.extractLsb' start len) k = (decide (k < len) && bit v (start + k)) :=
  BitVec.getLsbD_extractLsb' ..

/-- The word with bit `k` alone. -/
theorem bit_two_pow {n : Nat} (j k : Fin n) : bit (BitVec.ofNat n (2 ^ k.val)) j = true ↔ j = k := by
  simp only [bit, BitVec.getLsbD_ofNat, Nat.testBit_two_pow, j.isLt, decide_true, Bool.true_and, decide_eq_true_eq, Fin.ext_iff]
  exact eq_comm

/-- A word is not 0 exactly where one of its bits is set. -/
theorem ne_zero_iff_exists_bit {w : Nat} (v : BitVec w) : v ≠ 0 ↔ ∃ k < w, bit v k = true := by
  constructor
  · intro h
    by_contra hn
    refine h (BitVec.eq_of_getLsbD_eq fun k hk => ?_)
    have : bit v k = false := by simpa using fun hb => hn ⟨k, hk, hb⟩
    simpa [bit] using this
  · rintro ⟨k, -, hb⟩ rfl
    simp [bit] at hb

/-- Settles O6: the pin follows the AND of status and enables, which is not 0 exactly where the two share a bit. -/
theorem interruptPin : Obligations.InterruptPin := by
  intro x
  simp only [Lane.hirqLow, decide_eq_true_eq, ne_zero_iff_exists_bit, bit_and, Bool.and_eq_true]

/-! ### Changes made in turn -/

/-- Changes made where a condition holds are the changes of those that meet it. -/
theorem each_ite {α β : Type} (p : α → Bool) (f : α → β → β) (xs : List α) (b : β) :
    each xs (fun a b => if p a then f a b else b) b = each (xs.filter p) f b := List.foldl_filter.symm

/-- Of the numbers below `n` exactly `k` meets the condition that it alone meets. -/
theorem filter_idxs_single {n : Nat} {p : Fin n → Bool} {k : Fin n} (h : ∀ j, p j = true ↔ j = k) :
    (idxs n).filter p = [k] := by
  have hp : p = fun j => j == k := funext fun j => by rw [Bool.eq_iff_iff, h, beq_iff_eq]
  rw [hp, List.filter_beq, idxs, List.count_eq_one_of_mem (List.nodup_finRange n) (List.mem_finRange k), List.replicate_one]

/-- One change, where the condition selects one number. -/
theorem each_idxs_single {n : Nat} {β : Type} {p : Fin n → Bool} {k : Fin n} (h : ∀ j, p j = true ↔ j = k)
    (f : Fin n → β → β) (b : β) : each (idxs n) (fun j b => if p j then f j b else b) b = f k b := by
  rw [each_ite, filter_idxs_single h]; rfl

/-- No change, where the condition selects none. -/
theorem each_none {α β : Type} {p : α → Bool} (h : ∀ a, p a = false) (f : α → β → β) (xs : List α) (b : β) :
    each xs (fun a b => if p a then f a b else b) b = b := by
  rw [each_ite, List.filter_eq_nil_iff.2 fun a _ => by simp [h a]]; rfl

theorem each_congr {α β : Type} {f g : α → β → β} (h : ∀ a b, f a b = g a b) (xs : List α) (b : β) : each xs f b = each xs g b := by
  rw [show f = g from funext fun a => funext (h a)]

theorem Lane.onMb_id (x : Lane) (m : MbId) : x.onMb m (fun b => b) = x := by
  simp [Lane.onMb, vmod, vset, vget]

/-! ### A port that takes part (R62, R64) -/

section
variable {s : State} {c : Instr} {l : LaneId} {x y : Lane} (hx : s.lane l = x) (hon : x.portOn = true) (hfree : x.portBlocked = false)
include hx hon hfree

/-- A command at a port that takes part does what its meaning there says. -/
theorem State.turns_atPort {f : Lane → Lane} (h : exec c s = .next (s.onLane l fun z => z.atPort f)) (e : f x = y) : s.Turns c l y :=
  State.turns_onLane h (by rw [hx, Lane.atPort, hon, hfree, ← e]; rfl)

theorem State.turns_hpWrite {addr : BitVec 24} {d : Bytes} (e : x.hpWriteN addr.toNat d.length d = y) : s.Turns (.hpWrite l addr d) l y :=
  State.turns_onLane rfl (by rw [hx, Lane.hpWriteTx, hon, hfree, ← e]; rfl)

theorem State.turns_hpRegisterWrite {off : Nat} {v : W32} (e : x.regWrite off v = y) : s.Turns (.hpRegisterWrite l off v) l y :=
  State.turns_atPort hx hon hfree rfl e

end

/-! ### Addresses (R34, R37) -/

theorem hpPlace_inBuf (k : Fin 4) {o : Nat} (ho : o < 0x400) : hpPlace (0x20000 + 0x800 * k.val + o) = .inBuf (fin k.val) o := by
  have hdiv : (0x20000 + 0x800 * k.val + o - 0x20000) / 0x800 = k.val := by omega
  have hmod : (0x20000 + 0x800 * k.val + o - 0x20000) % 0x800 = o := by omega
  unfold hpPlace
  rw [if_neg (by omega), if_neg (by omega), if_pos (by omega)]
  simp only [hdiv, hmod, if_pos ho]

theorem hpPlace_reg (off : Fin 9) : hpPlace (0x10000 + 4 * off.val) = .reg (4 * off.val) := by
  unfold hpPlace
  rw [if_neg (by omega), if_pos (by omega), Nat.add_sub_cancel_left]

theorem toNat_ofNat_24 {n : Nat} (h : n < 0x1000000) : (BitVec.ofNat 24 n).toNat = n := by
  rw [BitVec.toNat_ofNat]; exact Nat.mod_eq_of_lt h

/-! ### Reads (R34, R37) -/

/-- A READ's bytes stand at consecutive addresses, wrapping at the end of the space. -/
theorem Lane.hpReadN_eq (x : Lane) (alm : Bytes) (n : Nat) : ∀ {a : Nat}, a < 0x1000000 →
    let bs := (List.range n).map fun i => x.hpByte alm ((a + i) % 0x1000000)
    x.hpReadN alm a n = (bs.map fun b => b.1, bs.any fun b => b.2) := by
  induction n with
  | zero => intros; rfl
  | succ n ih =>
    intro a ha
    have hnext : ∀ i, (hpNext a + i) % 0x1000000 = (a + (i + 1)) % 0x1000000 := by
      intro i; rw [hpNext, Nat.mod_add_mod]; congr 1; omega
    have hlt : hpNext a < 0x1000000 := Nat.mod_lt _ (by decide)
    simp only [Lane.hpReadN, ih hlt, hnext, List.range_succ_eq_map, List.map_cons, List.map_map, Function.comp_def,
      List.any_cons, Nat.add_zero, Nat.mod_eq_of_lt ha, Nat.succ_eq_add_one]

theorem Lane.hpReadTx_of {x : Lane} (hon : x.portOn = true) (hfree : x.portBlocked = false) {a : Nat} (ha : a < 0x1000000) (n : Nat) :
    let bs := (List.range n).map fun i => x.hpByte x.almBytes ((a + i) % 0x1000000)
    x.hpReadTx a n = { x with hp := { x.hp with
      dataOut := bs.map fun b => b.1, err := if bs.any fun b => b.2 then x.hp.err ||| 0x02 else x.hp.err } } := by
  intro bs
  simp only [Lane.hpReadTx, hon, hfree, Lane.hpReadN_eq x _ n ha]
  show (if (bs.any fun b => b.2) = true then _ else _) = _
  split <;> rfl

/-! ### Writes (R34, R36, R37, R42) -/

theorem Lane.hpWriteN_inBuf_cons (x : Lane) (k : Fin 4) {o : Nat} (b : Byte) (bs : Bytes) (ho : o < 0x400) :
    x.hpWriteN (0x20000 + 0x800 * k.val + o) (b :: bs).length (b :: bs) =
      (if (x.mb (fin k.val)).st = .idle then x.onMb (fin k.val) fun q => { q with inBuf := memWrite q.inBuf o b }
        else x.hpErr 0x04).hpWriteN (0x20000 + 0x800 * k.val + (o + 1)) bs.length bs := by
  have hnext : hpNext (0x20000 + 0x800 * k.val + o) = 0x20000 + 0x800 * k.val + (o + 1) := Nat.mod_eq_of_lt (by omega)
  simp only [List.length_cons, Lane.hpWriteN, hpPlace_inBuf k ho, Lane.hpWriteByte, hnext]

theorem Lane.onMb_onMb (x : Lane) (m : MbId) (f g : Mailbox → Mailbox) : (x.onMb m f).onMb m g = x.onMb m fun b => g (f b) := by
  simp [Lane.onMb, vmod, vset, vget]

/-- A WRITE into the in-buffer of an IDLE mailbox stores its bytes. -/
theorem Lane.hpWriteN_inBuf_idle (k : Fin 4) (bs : Bytes) : ∀ (x : Lane) (o : Nat), (x.mb (fin k.val)).st = .idle → o + bs.length ≤ 0x400 →
    x.hpWriteN (0x20000 + 0x800 * k.val + o) bs.length bs = x.onMb (fin k.val) fun q => { q with inBuf := memWriteN q.inBuf o bs } := by
  induction bs with
  | nil => intro x o _ _; exact (x.onMb_id _).symm
  | cons b bs ih =>
    intro x o hi ho
    rw [List.length_cons] at ho
    rw [x.hpWriteN_inBuf_cons k b bs (by omega), if_pos hi, ih _ _ (by rw [Lane.onMb_mb_self]; exact hi) (by omega), Lane.onMb_onMb]
    rfl

/-- Outside IDLE the bytes are discarded; the error bit is set once for all. -/
theorem Lane.hpWriteN_inBuf_locked (k : Fin 4) (bs : Bytes) : ∀ (x : Lane) (o : Nat), (x.mb (fin k.val)).st ≠ .idle → o + bs.length ≤ 0x400 →
    x.hpWriteN (0x20000 + 0x800 * k.val + o) bs.length bs = if bs = [] then x else x.hpErr 0x04 := by
  induction bs with
  | nil => intros; rfl
  | cons b bs ih =>
    intro x o hi ho
    rw [List.length_cons] at ho
    rw [x.hpWriteN_inBuf_cons k b bs (by omega), if_neg hi, ih (x.hpErr 0x04) (o + 1) hi (by omega), if_neg (List.cons_ne_nil b bs)]
    split
    · rfl
    · simp only [Lane.hpErr, BitVec.or_assoc, BitVec.or_self]

/-- A WRITE of one whole register word writes that register. -/
theorem Lane.hpWriteN_reg (x : Lane) (off : Fin 9) {d : Bytes} (hd : d.length = 4) :
    x.hpWriteN (0x10000 + 4 * off.val) d.length d = x.regWrite (4 * off.val) (BitVec.ofNat 32 (ofLe d)) := by
  match d, hd with
  | [a, b, c, e], _ =>
    simp only [Lane.hpWriteN, hpPlace_reg, List.length_cons, List.length_nil, List.take, List.drop]
    exact if_pos ⟨by omega, by omega⟩

/-- A WRITE of one byte. -/
theorem Lane.hpWriteN_byte (x : Lane) (a : Nat) (b : Byte) : x.hpWriteN a [b].length [b] = match hpPlace a with
    | .reg o => x.hpPartial o
    | _ => x.hpWriteByte a b := by
  cases h : hpPlace a with
  | reg o =>
    simp only [Lane.hpWriteN, List.length_cons, List.length_nil, h]
    exact if_neg (by omega)
  | _ => simp only [Lane.hpWriteN, List.length_cons, List.length_nil, h]

/-! ### Doorbells (R41 to R43) -/

theorem fin4_val (k : Fin 4) : (fin k.val : MbId).val = k.val := fin_val_of_lt (by omega)

theorem fin4_ne {j k : Fin 4} (h : j ≠ k) : (fin j.val : MbId) ≠ fin k.val := fun e =>
  h (Fin.ext (by rw [← fin4_val j, e, fin4_val k]))

theorem Lane.ringMask_two_pow (x : Lane) (k : Fin 4) : x.ringMask (BitVec.ofNat 4 (2 ^ k.val)) = x.ringOne (fin k.val) :=
  each_idxs_single (p := fun j => bit (BitVec.ofNat 4 (2 ^ k.val)) j) (bit_two_pow · k)
    (fun j (z : Lane) => z.ringOne (fin j.val)) x

theorem Lane.ackMask_two_pow (x : Lane) (k : Fin 4) : x.ackMask (BitVec.ofNat 4 (2 ^ k.val)) = x.ackOne (fin k.val) :=
  each_idxs_single (p := fun j => bit (BitVec.ofNat 4 (2 ^ k.val)) j) (bit_two_pow · k)
    (fun j (z : Lane) => z.ackOne (fin j.val)) x

theorem Lane.ringMask_zero (x : Lane) : x.ringMask 0 = x :=
  each_none (p := fun j : Fin 4 => bit (0 : BitVec 4) j) (fun j => by simp [bit]) (fun j (z : Lane) => z.ringOne (fin j.val)) _ x

theorem Lane.ackMask_zero (x : Lane) : x.ackMask 0 = x :=
  each_none (p := fun j : Fin 4 => bit (0 : BitVec 4) j) (fun j => by simp [bit]) (fun j (z : Lane) => z.ackOne (fin j.val)) _ x

/-- A write of HP_DOORBELL that carries one RING bit. -/
theorem Lane.doorbell_ring (x : Lane) (k : Fin 4) : x.doorbell (BitVec.ofNat 32 (2 ^ k.val)) = x.ringOne (fin k.val) := by
  have hackBits : (BitVec.ofNat 32 (2 ^ k.val)).extractLsb' 8 4 = 0 := by revert k; decide
  have hring : (BitVec.ofNat 32 (2 ^ k.val)).extractLsb' 0 4 = BitVec.ofNat 4 (2 ^ k.val) := by revert k; decide
  rw [Lane.doorbell, hackBits, hring, Lane.ackMask_zero, Lane.ringMask_two_pow]

/-- A write of HP_DOORBELL that carries one ACK bit. -/
theorem Lane.doorbell_ack (x : Lane) (k : Fin 4) : x.doorbell (BitVec.ofNat 32 (2 ^ (8 + k.val))) = x.ackOne (fin k.val) := by
  have hackBits : (BitVec.ofNat 32 (2 ^ (8 + k.val))).extractLsb' 8 4 = BitVec.ofNat 4 (2 ^ k.val) := by revert k; decide
  have hring : (BitVec.ofNat 32 (2 ^ (8 + k.val))).extractLsb' 0 4 = 0 := by revert k; decide
  rw [Lane.doorbell, hackBits, hring, Lane.ackMask_two_pow, Lane.ringMask_zero]

/-- Settles O7: a write goes through its bytes, a ring or an ack through its one mailbox, by the mailbox's state. -/
theorem mailboxAccessByState : Obligations.MailboxAccessByState := by
  intro s l x k hx hon hfree m err
  have hring : (x.mb m).st ≠ .idle → x.ringOne m = err 0x08 := fun h => if_neg h
  have hackBits : (x.mb m).st ≠ .done → x.ackOne m = err 0x10 := fun h => if_neg h
  refine ⟨fun o bs hbs ho => ?_, fun h => ⟨?_, ?_⟩, fun h => ⟨?_, ?_⟩⟩
  · have ha : (BitVec.ofNat 24 (0x20000 + 0x800 * k.val + o)).toNat = 0x20000 + 0x800 * k.val + o := toNat_ofNat_24 (by omega)
    refine ⟨fun h => State.turns_hpWrite hx hon hfree ?_, fun h => State.turns_hpWrite hx hon hfree ?_⟩
    · rw [ha, Lane.hpWriteN_inBuf_idle k bs x o h ho]
    · rw [ha, Lane.hpWriteN_inBuf_locked k bs x o h ho, if_neg hbs]; rfl
  · exact State.turns_atPort hx hon hfree rfl ((x.ringMask_two_pow k).trans (hring h))
  · exact State.turns_hpRegisterWrite hx hon hfree ((x.doorbell_ring k).trans (hring h))
  · exact State.turns_atPort hx hon hfree rfl ((x.ackMask_two_pow k).trans (hackBits h))
  · exact State.turns_hpRegisterWrite hx hon hfree ((x.doorbell_ack k).trans (hackBits h))

/-! ### The order of posting (R43) -/

/-- The RING bits of some mailboxes, in turn. -/
def Lane.ringEach (v : BitVec 4) (ks : List (Fin 4)) (x : Lane) : Lane :=
  each ks (fun k z => if bit v k then z.ringOne (fin k.val) else z) x

/-- The ACK bits of some mailboxes, in turn. -/
def Lane.ackEach (v : BitVec 4) (ks : List (Fin 4)) (x : Lane) : Lane :=
  each ks (fun k z => if bit v k then z.ackOne (fin k.val) else z) x

theorem Lane.ringEach_cons (v : BitVec 4) (k : Fin 4) (ks : List (Fin 4)) (x : Lane) :
    x.ringEach v (k :: ks) = (if bit v k then x.ringOne (fin k.val) else x).ringEach v ks := rfl

theorem Lane.ackEach_cons (v : BitVec 4) (k : Fin 4) (ks : List (Fin 4)) (x : Lane) :
    x.ackEach v (k :: ks) = (if bit v k then x.ackOne (fin k.val) else x).ackEach v ks := rfl

theorem Lane.ringOne_mb_ne (x : Lane) {m j : MbId} (h : j ≠ m) : (x.ringOne m).mb j = x.mb j := by
  unfold Lane.ringOne
  split
  · exact x.post_mb_ne h
  · rfl

theorem Lane.ackOne_mb_ne (x : Lane) {m j : MbId} (h : j ≠ m) : (x.ackOne m).mb j = x.mb j := by
  unfold Lane.ackOne
  split
  · exact x.onMb_mb_ne _ h
  · rfl

theorem Lane.ackOne_st_self (x : Lane) (m : MbId) :
    ((x.ackOne m).mb m).st = if (x.mb m).st = .done then .idle else (x.mb m).st := by
  unfold Lane.ackOne
  split
  · rw [Lane.onMb_mb_self]
  · rfl

theorem Lane.ackOne_order (x : Lane) (m : MbId) : (x.ackOne m).hp.order = x.hp.order := by
  unfold Lane.ackOne
  split <;> rfl

theorem Lane.ringEach_mb_of_notMem (v : BitVec 4) {j : Fin 4} (ks : List (Fin 4)) : ∀ x : Lane, j ∉ ks →
    (x.ringEach v ks).mb (fin j.val) = x.mb (fin j.val) := by
  induction ks with
  | nil => intros; rfl
  | cons k ks ih =>
    intro x hj
    rw [List.mem_cons, not_or] at hj
    rw [Lane.ringEach_cons, ih _ hj.2]
    split
    · exact x.ringOne_mb_ne (fin4_ne hj.1)
    · rfl

theorem Lane.ackEach_mb_of_notMem (v : BitVec 4) {j : Fin 4} (ks : List (Fin 4)) : ∀ x : Lane, j ∉ ks →
    (x.ackEach v ks).mb (fin j.val) = x.mb (fin j.val) := by
  induction ks with
  | nil => intros; rfl
  | cons k ks ih =>
    intro x hj
    rw [List.mem_cons, not_or] at hj
    rw [Lane.ackEach_cons, ih _ hj.2]
    split
    · exact x.ackOne_mb_ne (fin4_ne hj.1)
    · rfl

/-- A mailbox in IDLE whose RING bit is set is POSTED. -/
theorem Lane.ringEach_posted {v : BitVec 4} {j : Fin 4} (hv : bit v j = true) {ks : List (Fin 4)} (hn : ks.Nodup) :
    ∀ {x : Lane}, j ∈ ks → (x.mb (fin j.val)).st = .idle → ((x.ringEach v ks).mb (fin j.val)).st = .posted := by
  induction ks with
  | nil => intro x hj; cases hj
  | cons k ks ih =>
    intro x hj hi
    obtain ⟨hk, hn⟩ := List.nodup_cons.1 hn
    rw [Lane.ringEach_cons]
    by_cases e : j = k
    · subst e
      rw [Lane.ringEach_mb_of_notMem v ks _ hk, if_pos hv, Lane.ringOne, if_pos hi, Lane.post_mb_self]
    · refine ih hn ((List.mem_cons.1 hj).resolve_left e) ?_
      split
      · rw [Lane.ringOne_mb_ne _ (fin4_ne e), hi]
      · exact hi

/-- The ACK bits return the mailboxes in DONE to IDLE. -/
theorem Lane.ackEach_st (v : BitVec 4) {j : Fin 4} {ks : List (Fin 4)} (hn : ks.Nodup) : ∀ {x : Lane}, j ∈ ks →
    ((x.ackEach v ks).mb (fin j.val)).st = if bit v j && (x.mb (fin j.val)).st = .done then .idle else (x.mb (fin j.val)).st := by
  induction ks with
  | nil => intro x hj; cases hj
  | cons k ks ih =>
    intro x hj
    obtain ⟨hk, hn⟩ := List.nodup_cons.1 hn
    rw [Lane.ackEach_cons]
    by_cases e : j = k
    · subst e
      rw [Lane.ackEach_mb_of_notMem v ks _ hk]
      cases hv : bit v j
      · rfl
      · simp only [if_true, Lane.ackOne_st_self, Bool.true_and, decide_eq_true_eq]
    · have hsame : (if bit v k then x.ackOne (fin k.val) else x).mb (fin j.val) = x.mb (fin j.val) := by
        split
        · exact Lane.ackOne_mb_ne _ (fin4_ne e)
        · rfl
      rw [ih hn ((List.mem_cons.1 hj).resolve_left e), hsame]

theorem Lane.ackEach_order (v : BitVec 4) (ks : List (Fin 4)) : ∀ x : Lane, (x.ackEach v ks).hp.order = x.hp.order := by
  induction ks with
  | nil => intro x; rfl
  | cons k ks ih =>
    intro x
    rw [Lane.ackEach_cons, ih]
    split
    · exact x.ackOne_order _
    · rfl

/-- The mailboxes that are posted: their RING bit is set and they stand in IDLE. -/
def Lane.rung (x : Lane) (v : BitVec 4) (k : Fin 4) : Bool := bit v k && (x.mb (fin k.val)).st = .idle

/-- The posted mailboxes follow those posted before, in the order in which they are gone through. -/
theorem Lane.ringEach_order (v : BitVec 4) {ks : List (Fin 4)} (hn : ks.Nodup) : ∀ x : Lane,
    (x.ringEach v ks).hp.order = x.hp.order ++ (ks.filter (x.rung v)).map fun k => fin k.val := by
  induction ks with
  | nil => intro x; exact (List.append_nil _).symm
  | cons k ks ih =>
    intro x
    obtain ⟨hk, hn⟩ := List.nodup_cons.1 hn
    have hsame : ∀ y : Lane, (∀ j, j ≠ k → y.mb (fin j.val) = x.mb (fin j.val)) → ks.filter (y.rung v) = ks.filter (x.rung v) := by
      intro y hy
      refine List.filter_congr fun j hj => ?_
      rw [Lane.rung, hy j (fun e => hk (e ▸ hj)), ← Lane.rung]
    rw [Lane.ringEach_cons, ih hn]
    by_cases hr : x.rung v k = true
    · obtain ⟨hv, hi⟩ : bit v k = true ∧ (x.mb (fin k.val)).st = .idle := by simpa [Lane.rung] using hr
      rw [if_pos hv, hsame _ fun j hj => x.ringOne_mb_ne (fin4_ne hj), List.filter_cons_of_pos hr, Lane.ringOne, if_pos hi,
        Lane.post_order, List.append_assoc]
      rfl
    · rw [List.filter_cons_of_neg hr]
      split
      · rename_i hv
        have hi : (x.mb (fin k.val)).st ≠ .idle := fun hi => hr (by simp [Lane.rung, hv, hi])
        rw [hsame _ fun j hj => x.ringOne_mb_ne (fin4_ne hj), Lane.ringOne, if_neg hi]
        rfl
      · rw [hsame _ fun _ _ => rfl]

/-- Settles O8: the ACK bits return mailboxes to IDLE and leave the order; the RING bits then post in ascending number. -/
theorem doorbellOrder : Obligations.DoorbellOrder := by
  intro s l x v hx hon hfree
  have hall : (idxs 4).Nodup := List.nodup_finRange 4
  have hmem : ∀ k : Fin 4, k ∈ idxs 4 := List.mem_finRange
  have hring : ∀ k : Fin 4, bit (v.extractLsb' 0 4) k = bit v k := fun k => by simp [bit_extract]
  have hackBits : ∀ k : Fin 4, bit (v.extractLsb' 8 4) k = bit v (8 + k.val) := fun k => by simp [bit_extract]
  let z := x.ackEach (v.extractLsb' 8 4) (idxs 4)
  have hz : ∀ k : Fin 4, (z.mb (fin k.val)).st =
      if bit v (8 + k.val) && (x.mb (fin k.val)).st = .done then .idle else (x.mb (fin k.val)).st := fun k => by
    rw [Lane.ackEach_st _ hall (hmem k), hackBits]
  refine ⟨z.ringEach (v.extractLsb' 0 4) (idxs 4), State.turns_hpRegisterWrite hx hon hfree rfl, fun k hd ha hr => ?_, ?_⟩
  · refine Lane.ringEach_posted ((hring k).trans hr) hall (hmem k) ?_
    rw [hz, ha, hd]; rfl
  · rw [Lane.ringEach_order _ hall, Lane.ackEach_order]
    congr 2
    refine List.filter_congr fun k _ => ?_
    rw [Lane.rung, hz, hring]
    by_cases hd : (x.mb (fin k.val)).st = .done <;> simp [hd]

/-! ### Transactions (R34 to R38) -/

/-- Settles O11: a READ's bytes, a WRITE's place and a register's own effect, each at a port that takes part. -/
theorem hostPortAccess : Obligations.HostPortAccess := by
  intro s l x hx hon hfree
  refine ⟨fun addr len => ?_, fun m o data hi ho => ?_, fun off data hd => ?_, fun addr b => ?_, fun code => ?_, fun off v => ?_⟩
  · exact State.turns_onLane rfl (by rw [hx]; exact Lane.hpReadTx_of hon hfree addr.isLt len)
  · refine State.turns_hpWrite hx hon hfree ?_
    rw [toNat_ofNat_24 (by omega), Lane.hpWriteN_inBuf_idle m data x o hi ho]
  · refine State.turns_hpWrite hx hon hfree ?_
    rw [toNat_ofNat_24 (by omega), Lane.hpWriteN_reg x off hd]
  · have hturn : ∀ {y : Lane}, x.hpWriteN addr.toNat [b].length [b] = y → s.Turns (.hpWrite l addr [b]) l y :=
      fun e => State.turns_hpWrite hx hon hfree e
    simp only [Lane.hpWriteN_byte, Lane.hpWriteByte] at hturn
    refine ⟨fun ⟨o, h⟩ => hturn ?_, fun h => hturn ?_, fun m o h hi => hturn ?_, fun o h => hturn ?_⟩
    · obtain h | h | ⟨m, h⟩ := h <;> simp only [h]
    · simp only [h]
    · simp only [h, if_neg hi]
    · simp only [h, Lane.hpPartial]; split <;> rfl
  · exact State.turns_atPort hx hon hfree rfl rfl
  · refine ⟨?_, ?_, ?_, ?_, ?_, ?_⟩
    all_goals intro h
    iterate 5
      · subst h; exact State.turns_hpRegisterWrite hx hon hfree rfl
    · obtain rfl | rfl | rfl | rfl := h <;> exact State.turns_hpRegisterWrite hx hon hfree rfl

end Sys2Proof.Machine
end

section
/-! Rings and acks by their own rows, the restart of Gamar, and its service of the mailboxes (R38 to R51, R57, R81, R84). -/

namespace Sys2Proof.Machine

/-! ### Coefficient writes in progress (R57) -/

/-- The words that the COEF_WRITEs of a list have left. -/
def Lane.coefRest (x : Lane) (js : List CoefJob) : Lane :=
  each js (fun j y => y.onSlot j.slot fun k => { k with coef := putWords k.coef (j.first + j.done) j.rest }) x

theorem Lane.coefRest_eq (x : Lane) (js : List CoefJob) : ∃ d, x.coefRest js = { x with dsp := d } :=
  Lane.each_onSlot_eq js CoefJob.slot (fun j k => { k with coef := putWords k.coef (j.first + j.done) j.rest }) x

/-- The COEF_WRITEs selected write what they have left and are gone. -/
theorem Lane.coefFinish_eq (x : Lane) (p : CoefJob → Bool) :
    let w := x.coefRest (x.hp.coefJobs.filter p)
    x.coefFinish p = { w with hp := { w.hp with coefJobs := w.hp.coefJobs.filter fun j => !p j } } := by
  intro w
  have hw : each (x.hp.coefJobs.filter p) (fun j l => l.coefWords j j.rest.length) x = w :=
    each_congr (fun j y => by simp only [Lane.coefWords, List.take_length]) _ _
  simp only [Lane.coefFinish, hw]

/-! ### The restart (R47, R390, R491) -/

theorem Lane.pairReset_of_resumes {x : Lane} (hon : x.portOn = true) (hfree : x.portBlocked = false) (hr : x.hp.ready = false)
    (hi : x.sys.lstate ≠ .init) (ht : x.startupRun = false) : x.pairReset = { x with hp := { x.hp with ready := true } } := by
  simp [Lane.pairReset, hon, hfree, hr, hi, ht]

theorem Lane.pairReset_of_restarts {x : Lane} (hon : x.portOn = true) (hfree : x.portBlocked = false)
    (h : x.hp.ready = true ∨ x.sys.lstate = .init ∨ x.startupRun = true) : x.pairReset = x.gamarRestart.streamsAbort false := by
  have hc : ¬(!x.hp.ready && decide (x.sys.lstate ≠ .init) && !x.startupRun) = true := by
    rcases h with h | h | h <;> simp [h]
  simp only [Lane.pairReset, hon, hfree, Bool.not_true, Bool.or_self, if_neg hc]
  rfl

theorem Lane.gamarRestart_eq {x : Lane} (hon : x.portOn = true) : x.gamarRestart = { x with
    hp := { x.hp with
      mbs := x.hp.mbs.map Mailbox.restart, order := [], coefJobs := [], irqStatus := x.hp.irqStatus ||| x.lostBits ||| 0x80,
      restarts := BitVec.ofNat 16 (satInc x.hp.restarts.toNat 0xFFFF) },
    ses := { x.ses with st := .closed, holder := none, items := [], job := none },
    dsp := { (x.coefRest x.hp.coefJobs).dsp with
      slots := (x.coefRest x.hp.coefJobs).dsp.slots.map fun (k : Slot) => { k with stopper := none } },
    lk := x.lk.restart } := by
  have hf : x.coefFinish (fun _ => true) = { x with dsp := (x.coefRest x.hp.coefJobs).dsp, hp := { x.hp with coefJobs := [] } } := by
    obtain ⟨d, e⟩ := x.coefRest_eq x.hp.coefJobs
    rw [Lane.coefFinish_eq, List.filter_true, e]
    simp
  simp only [Lane.gamarRestart, hon, hf]
  rfl

theorem Lane.sessionTimeout_of_held {x : Lane} {m : MbId} (h : x.ses.holder = some m) (hm : (x.mb m).st = .idle ∨ (x.mb m).st = .done) :
    x.sessionTimeout = x.closeSession := by
  simp only [Lane.sessionTimeout, h]
  exact if_pos (by simpa using hm)

/-- Settles O12: a doorbell's mailboxes in turn, the restart of a pair that works or that resumes, and the two timers. -/
theorem doorbellsRestartAndTimers : Obligations.DoorbellsRestartAndTimers := by
  refine ⟨fun s l x hx hon hfree => ⟨fun mask => ?_, fun mask => ?_, fun v => ?_, fun v => ?_⟩,
    fun s l x hx => ⟨fun hon hfree => ⟨fun h => ?_, fun hr hi ht => ?_⟩, fun m h hm => ?_, State.turns_onLane rfl (by rw [hx])⟩⟩
  · refine State.turns_atPort hx hon hfree rfl (each_congr (fun k z => ?_) _ _)
    cases bit mask k
    · rfl
    · simp only [Lane.ringOne, Lane.post, fin4_val]; rfl
  · refine State.turns_atPort hx hon hfree rfl (each_congr (fun k z => ?_) _ _)
    cases bit mask k <;> rfl
  · exact State.turns_atPort hx hon hfree rfl rfl
  · exact State.turns_atPort hx hon hfree rfl rfl
  · intro z
    have hz : z = x.coefRest x.hp.coefJobs := rfl
    exact State.turns_onLane rfl (by rw [hx, Lane.pairReset_of_restarts hon hfree h, Lane.gamarRestart_eq hon, ← hz]; rfl)
  · exact State.turns_onLane rfl (by rw [hx, Lane.pairReset_of_resumes hon hfree hr hi ht])
  · exact State.turns_onLane rfl (by rw [hx, Lane.sessionTimeout_of_held h hm]; rfl)

/-! ### Acceptance (R44, R50, R51, R62) -/

section
variable {z : Lane} {m : MbId}

theorem Lane.examine_of_bad_crc (h : (z.mb m).crcOk = false) : z.examine m = z.respondUnstored m stsCrc := by
  simp only [Lane.examine, h, Bool.not_false, if_true]

theorem Lane.examine_of_repeat {q : W16} {msg : Bytes} (h : (z.mb m).crcOk = true) (hs : (z.mb m).stored = some (q, msg))
    (hq : q.toNat = (z.mb m).head 4 2) : z.examine m = z.onMb m fun b => { b with cmd := none, resp := some msg } := by
  simp only [Lane.examine, h, hs, hq, Bool.not_true, Bool.false_eq_true, if_false, if_true]

/-- A request that repeats no stored sequence is a new one. -/
theorem Lane.examine_of_new (h : (z.mb m).crcOk = true)
    (hn : ¬∃ q msg, (z.mb m).stored = some (q, msg) ∧ q.toNat = (z.mb m).head 4 2) :
    z.examine m = z.examineNew m ((z.mb m).head 0 2) := by
  simp only [Lane.examine, h, Bool.not_true, Bool.false_eq_true, if_false]
  split
  · rename_i q msg hs
    exact if_neg fun hq => hn ⟨q, msg, hs, hq⟩
  · rfl

theorem Lane.examineNew_of_header {op st : Nat} (h : headerStatus (z.mb m) = some st) : z.examineNew m op = z.respond m st [] := by
  simp only [Lane.examineNew, h]

theorem Lane.examineNew_of_gate {op st : Nat} (h : headerStatus (z.mb m) = none) (hg : z.gateStatus op = some st) :
    z.examineNew m op = z.respond m st [] := by
  simp only [Lane.examineNew, h, hg]

theorem Lane.examineNew_of_passed {op : Nat} (h : headerStatus (z.mb m) = none) (hg : z.gateStatus op = none) :
    z.examineNew m op = z.onMb m fun b => { b with cmd := some (BitVec.ofNat 16 op), resp := none } := by
  simp only [Lane.examineNew, h, hg]

end

theorem Lane.accept_of_posted {x : Lane} (hrun : x.gamarRuns = true) {m : MbId} {rest : List MbId} (h : x.hp.order = m :: rest) :
    x.accept = (({ x with hp := { x.hp with order := rest } } : Lane).onMb m fun b => { b with st := .busy }).examine m := by
  simp only [Lane.accept, hrun, h]
  rfl

/-! ### DONE (R41, R46, R48) -/

section
variable {x : Lane} {m : MbId} {msg : Bytes} (hrun : x.gamarRuns = true) (hst : (x.mb m).st = .busy) (hresp : (x.mb m).resp = some msg)
include hrun hst hresp

theorem Lane.finish_of_kept (hd : (x.mb m).discard = false) :
    let w := x.coefFinish fun j => j.mb = m
    let z := w.onMb m fun b => { b with st := .done, resp := none, outBuf := memWriteN b.outBuf 0 msg }
    x.finish m = (if m.val < 4 then z.irq (BitVec.ofNat 32 (2 ^ m.val)) else z).event (168 + m.val) (fieldAt msg 8 2) := by
  simp only [Lane.finish, hrun, hst, hresp, hd]
  rfl

theorem Lane.finish_of_discarded (hd : (x.mb m).discard = true) :
    x.finish m = (((x.coefFinish fun j => j.mb = m).onMb m fun b => { b with st := .idle, resp := none, discard := false }).bye m) := by
  simp only [Lane.finish, hrun, hst, hresp, hd]
  rfl

end

/-- Settles O13: the oldest posted mailbox is examined as the checks ask in their order; a response that waits is written or
discarded after the mailbox's coefficient write. -/
theorem mailboxService : Obligations.MailboxService := by
  intro s l x m hx hrun
  refine ⟨fun rest horder => ?_, fun msg hst hresp => ?_⟩
  · intro b op z repeats
    have hb : z.mb m = { b with st := .busy } := Lane.onMb_mb_self _ _ _
    have hcrc : (z.mb m).crcOk = b.crcOk := by rw [hb]; rfl
    have hhead : headerStatus (z.mb m) = headerStatus b := by rw [hb]; rfl
    have hgate : z.gateStatus op = x.gateStatus op := rfl
    have hstored : (z.mb m).stored = b.stored := by rw [hb]
    have hseq : (z.mb m).head 4 2 = b.head 4 2 := by rw [hb]; rfl
    have hop : (z.mb m).head 0 2 = op := by rw [hb]; rfl
    have hturn : ∀ {y : Lane}, z.examine m = y → s.Turns (.mbAccept l) l y := fun e =>
      State.turns_onLane rfl (by rw [hx, Lane.accept_of_posted hrun horder]; exact e)
    have hnew : b.crcOk = true → ¬repeats → z.examine m = z.examineNew m op := fun hc hn => by
      rw [Lane.examine_of_new (hcrc.trans hc) (by rwa [hstored, hseq]), hop]
    refine ⟨fun hc => hturn ?_, fun q msg hc hs hq => hturn ?_, fun st hc hn hh => hturn ?_, fun st hc hn hh hg => hturn ?_,
      fun hc hn hh hg => hturn ?_⟩
    · exact Lane.examine_of_bad_crc (hcrc.trans hc)
    · exact Lane.examine_of_repeat (hcrc.trans hc) (hstored.trans hs) (hq.trans hseq.symm)
    · rw [hnew hc hn, Lane.examineNew_of_header (hhead.trans hh)]
    · rw [hnew hc hn, Lane.examineNew_of_gate (hhead.trans hh) (hgate.trans hg)]
    · rw [hnew hc hn, Lane.examineNew_of_passed (hhead.trans hh) (hgate.trans hg)]
  · intro w v
    have hw : x.coefFinish (fun j => j.mb = m) = v := x.coefFinish_eq _
    refine ⟨fun hd => State.turns_onLane rfl ?_, fun hd => State.turns_onLane rfl ?_⟩
    · rw [hx, Lane.finish_of_kept hrun hst hresp hd, hw]; rfl
    · rw [hx, Lane.finish_of_discarded hrun hst hresp hd, hw]

end Sys2Proof.Machine
end

section
/-! The commands that negotiate, report, test and tell the time (R53 to R56, R70, R72, R112, R114, R391, R395 to R398). -/

namespace Sys2Proof.Machine

/-- A mailbox command that Gamar executes on a named payload. -/
theorem State.turns_granted {s : State} {c : Instr} {l : LaneId} {x y : Lane} {m : MbId} {p : Bytes} {op : Nat} {f : Lane → Bytes → Lane}
    (hx : s.lane l = x) (hp : (x.mb m).payload = p) (h : exec c s = s.serve l m op f) (g : x.grants m op) (e : f x p = y) :
    s.Turns c l y := by
  subst hx hp
  exact State.turns_serve h g e

/-! ### Negotiation (R53 to R55) -/

/-- An offer in good form: one to eight versions, in a payload of just that length. -/
def WellOffered (p : Bytes) : Prop :=
  1 ≤ fieldAt p 0 1 ∧ fieldAt p 0 1 ≤ 8 ∧ p.length = 2 + 2 * fieldAt p 0 1 ∧ fieldAt p 1 1 = 0

theorem Lane.hello_of_bad_offer {x : Lane} {m : MbId} {p : Bytes} (h : ¬WellOffered p) : x.hello m p = x.respond m stsRange [] := by
  refine if_pos ?_
  simp only [Bool.or_eq_true, decide_eq_true_eq]
  simp only [WellOffered] at h
  omega

theorem Lane.hello_of_offer {x : Lane} {m : MbId} {p : Bytes} (h : WellOffered p) : x.hello m p =
    match choose (offered p) with
    | none => (x.bye m).respond m stsVersion ((x.bye m).helloBody 0)
    | some v => ((x.bye m).onMb m fun b => { b with nego := some (BitVec.ofNat 16 v) }).respond m stsOk ((x.bye m).helloBody v) := by
  refine (if_neg ?_).trans ?_
  · simp only [Bool.or_eq_true, decide_eq_true_eq]
    simp only [WellOffered] at h
    omega
  · cases choose (offered p) <;> rfl

/-! ### Reports (R72, R114) -/

theorem Lane.almanacRead_of_within {x : Lane} {p : Bytes} (h1 : 1 ≤ fieldAt p 4 2) (h2 : fieldAt p 4 2 ≤ 1008)
    (h3 : fieldAt p 0 4 + fieldAt p 4 2 ≤ x.almBytes.length) :
    x.almanacRead p = (stsOk, slice x.almBytes (fieldAt p 0 4) (fieldAt p 4 2)) := by
  refine if_neg ?_
  simp only [Bool.or_eq_true, decide_eq_true_eq]
  omega

theorem Lane.almanacRead_of_beyond {x : Lane} {p : Bytes}
    (h : fieldAt p 4 2 = 0 ∨ 1008 < fieldAt p 4 2 ∨ x.almBytes.length < fieldAt p 0 4 + fieldAt p 4 2) :
    x.almanacRead p = (stsRange, []) := by
  refine if_pos ?_
  simp only [Bool.or_eq_true, decide_eq_true_eq]
  omega

/-- A request names an axis of its own lane by the device number (R4). -/
theorem Lane.reqAxis_of_own {x : Lane} {p : Bytes} {nn : AxisId} (h : fieldAt p 0 1 = 12 * x.idx.val + nn.val) : x.reqAxis p = some nn := by
  have hi := x.idx.isLt
  have hn := nn.isLt
  have hc : channelOfAxis (fieldAt p 0 1) = nn := Fin.ext (by show fieldAt p 0 1 % 12 = nn.val; omega)
  rw [Lane.reqAxis, Lane.ownAxis, if_pos (by omega), hc]

theorem Lane.reqAxis_of_foreign {x : Lane} {p : Bytes} (h : fieldAt p 0 1 / 12 ≠ x.idx.val) : x.reqAxis p = none :=
  if_neg fun hc => h hc.1

/-! ### Tests (R397, R398) -/

theorem Lane.selftestRun_of_bad_mask {x : Lane} {m : MbId} {p : Bytes} (h : fieldAt p 0 4 = 0 ∨ 2 ^ 24 ≤ fieldAt p 0 4) :
    x.selftestRun m p = x.respond m stsRange [] :=
  if_pos (by simpa only [Bool.or_eq_true, decide_eq_true_eq] using h)

/-- A run on request may begin: LANE_SAFE, outside SHUTDOWN, no run in progress. -/
def Lane.mayTest (x : Lane) : Prop := x.sys.lstate = .safe ∧ x.sys.mode ≠ .shutdown ∧ x.tst.run = none

section
variable {x : Lane} {m : MbId} {p : Bytes} (h0 : fieldAt p 0 4 ≠ 0) (h1 : fieldAt p 0 4 < 2 ^ 24)
include h0 h1

theorem Lane.selftestRun_of_mask : x.selftestRun m p =
    if x.sys.lstate ≠ .safe || x.sys.mode = .shutdown || x.tst.run.isSome then x.respond m stsState []
    else (x.beginRun .service (fieldAt p 0 4)).respond m stsOk [] :=
  if_neg (by simpa [h0] using h1)

theorem Lane.selftestRun_of_may (h : x.mayTest) :
    x.selftestRun m p = (x.beginRun .service (fieldAt p 0 4)).respond m stsOk [] := by
  obtain ⟨hs, hm, hr⟩ := h
  rw [Lane.selftestRun_of_mask h0 h1, if_neg (by simp [hs, hm, hr])]

theorem Lane.selftestRun_of_may_not (h : ¬x.mayTest) : x.selftestRun m p = x.respond m stsState [] := by
  have hc : x.sys.lstate ≠ .safe ∨ x.sys.mode = .shutdown ∨ x.tst.run ≠ none := by
    simpa only [Lane.mayTest, not_and_or, not_not] using h
  rw [Lane.selftestRun_of_mask h0 h1, if_pos]
  rcases hc with hc | hc | hc <;> simp [hc, Option.isSome_iff_ne_none]

end

/-- Settles O15: each command's own branch, on the payload of a request that Gamar executes. -/
theorem informationCommands : Obligations.InformationCommands := by
  refine ⟨fun s l x m p hx hp => ⟨fun g => ?_, fun g => ?_, fun g => ?_, fun g => ?_, fun g => ?_, fun g => ?_, fun g => ?_⟩,
    fun s l x m p hx hp => ⟨fun g => ?_, fun g => ?_, fun g => ?_, fun g => ?_, fun g => ?_⟩⟩
  · have hturn : ∀ {y}, x.hello m p = y → s.Turns (.hello l m) l y := fun e => State.turns_granted hx hp rfl g e
    refine ⟨fun v hok hv => hturn ?_, fun hok hv => hturn ?_, fun hok => hturn (Lane.hello_of_bad_offer hok)⟩
    · rw [Lane.hello_of_offer hok, hv]
    · rw [Lane.hello_of_offer hok, hv]
  · exact State.turns_granted hx hp rfl g rfl
  · exact State.turns_granted hx hp rfl g rfl
  · exact State.turns_granted hx hp rfl g rfl
  · have hturn : ∀ {y}, x.answer m (x.almanacRead p) = y → s.Turns (.almanacRead l m) l y := fun e => State.turns_granted hx hp rfl g e
    refine ⟨fun h1 h2 h3 => hturn ?_, fun h => hturn ?_⟩
    · rw [Lane.almanacRead_of_within h1 h2 h3]; rfl
    · rw [Lane.almanacRead_of_beyond h]; rfl
  · exact State.turns_granted hx hp rfl g rfl
  · exact State.turns_granted hx hp rfl g rfl
  · exact State.turns_granted hx hp rfl g rfl
  · have hturn : ∀ {y}, x.selftestRun m p = y → s.Turns (.selftestRun l m) l y := fun e => State.turns_granted hx hp rfl g e
    refine ⟨fun h0 h1 hok => hturn ?_, fun h0 h1 hok => hturn ?_, fun h => hturn (Lane.selftestRun_of_bad_mask h)⟩
    · exact Lane.selftestRun_of_may h0 h1 hok
    · exact Lane.selftestRun_of_may_not h0 h1 hok
  · have hturn : ∀ {y}, x.selftestAbort m = y → s.Turns (.selftestAbort l m) l y := fun e => State.turns_granted hx hp rfl g e
    refine ⟨fun h => hturn (if_neg ?_), fun h => hturn (if_pos ?_)⟩
    · simpa [Option.isSome_iff_ne_none] using h
    · rw [h]; rfl
  · exact State.turns_granted hx hp rfl g rfl
  · have hturn : ∀ {y}, x.answer m (x.angleGet p) = y → s.Turns (.angleGet l m) l y := fun e => State.turns_granted hx hp rfl g e
    refine ⟨fun nn h => hturn ?_, fun h => hturn ?_⟩
    · rw [Lane.angleGet, Lane.reqAxis_of_own h]; rfl
    · rw [Lane.angleGet, Lane.reqAxis_of_foreign h]; rfl

end Sys2Proof.Machine
end

section
/-! The graph commands (R57, R143 to R146, R152, R155, R157, R222). -/

namespace Sys2Proof.Machine

theorem Lane.onSlot_congr (x : Lane) (k : Fin 64) {f g : Slot → Slot} (h : f (x.slot k) = g (x.slot k)) : x.onSlot k f = x.onSlot k g := by
  have h' : f (vget x.dsp.slots k) = g (vget x.dsp.slots k) := h
  simp only [Lane.onSlot, vmod, h']

theorem Lane.onSlot_id {x : Lane} {k : Fin 64} {f : Slot → Slot} (h : f (x.slot k) = x.slot k) : x.onSlot k f = x := by
  rw [x.onSlot_congr k (g := fun g => g) h]
  simp [Lane.onSlot, vmod, vset, vget]

theorem Lane.onSlot_onSlot (x : Lane) (k : Fin 64) (f g : Slot → Slot) : (x.onSlot k f).onSlot k g = x.onSlot k fun y => g (f y) := by
  simp [Lane.onSlot, vmod, vset, vget]

/-! ### Loading and unloading (R143 to R145) -/

section
variable {x : Lane} {m : MbId} {p : Bytes} {k : Fin 64} (hk : reqSlot p = some k)
include hk

/-- A chunk that continues its image and fits is staged; a whole image is checked. -/
theorem Lane.graphLoad_of_chunk {d : Bytes} (h1 : fieldAt p 1 3 = 0) (h4 : fieldAt p 8 4 % 4 = 0) (hlo : 64 ≤ fieldAt p 8 4)
    (hhi : fieldAt p 8 4 ≤ 1048576) (hbase : x.ses.chunkBase k.val (fieldAt p 4 4) (fieldAt p 8 4) = some d)
    (hlen : (d ++ p.drop 12).length ≤ fieldAt p 8 4) (hroom : x.ses.room (11, k.val) = true) :
    let data := d ++ p.drop 12
    let z := { x with ses := x.ses.stage (sameImage k.val) (.image k.val (fieldAt p 8 4) data) }
    x.graphLoad m p = if data.length < fieldAt p 8 4 then z.respond m stsOk []
      else match z.imageStatus data with
        | none => z.respond m stsOk []
        | some st => ({ z with ses := z.ses.dropImage k.val }).respond m st [] := by
  simp only [Lane.graphLoad, hk, h1, h4, not_lt.2 hlo, not_lt.2 hhi, hbase, not_lt.2 hlen, hroom]
  rfl

theorem Lane.graphUnload_of_rest (h : (x.slot k).st = .stopped ∨ (x.slot k).st = .halted ∨ (x.slot k).st = .excluded)
    (hroom : x.ses.room (11, k.val) = true) :
    x.graphUnload m p = ({ x with ses := x.ses.stage (sameImage k.val) (.unload k.val) }).respond m stsOk [] := by
  rcases h with h | h | h <;> simp [Lane.graphUnload, hk, h, hroom]

theorem Lane.graphUnload_of_not_rest (h : (x.slot k).st = .empty ∨ (x.slot k).st = .running ∨ (x.slot k).st = .stopping) :
    x.graphUnload m p = x.respond m stsState [] := by
  rcases h with h | h | h <;> simp [Lane.graphUnload, hk, h]

/-! ### Starting and stopping (R146, R155) -/

theorem Lane.graphStart_of_ok (hst : (x.slot k).st = .stopped ∨ (x.slot k).st = .halted) (hl : x.sys.lstate = .active)
    (hr : x.canReserve k = true) : x.graphStart m p = (x.onSlot k Slot.start).respond m stsOk [] := by
  rcases hst with hst | hst <;> simp [Lane.graphStart, hk, hst, hl, hr]

theorem Lane.graphStart_of_not_ok
    (h : ¬(((x.slot k).st = .stopped ∨ (x.slot k).st = .halted) ∧ x.sys.lstate = .active ∧ x.canReserve k = true)) :
    x.graphStart m p = x.respond m stsState [] := by
  simp only [Lane.graphStart, hk]
  refine if_pos ?_
  rw [not_and_or, not_or, not_and_or, Bool.not_eq_true] at h
  simpa [or_assoc] using h

theorem Lane.graphStop_of_empty (h : (x.slot k).st = .empty) : x.graphStop m p = x.respond m stsState [] := by
  simp only [Lane.graphStop, hk, h, if_true]

/-- A slot that holds an image: its answer waits where it is STOPPING after the stop, and comes at once elsewhere. -/
theorem Lane.graphStop_of_image (h : (x.slot k).st ≠ .empty) : x.graphStop m p =
    if (x.slot k).stop.st = .stopping then x.onSlot k fun g => { g.stop with stopper := some m }
    else (x.onSlot k Slot.stop).respond m stsOk [] := by
  simp only [Lane.graphStop, hk, if_neg h, Lane.onSlot_slot_self, Lane.onSlot_onSlot]

end

theorem Slot.stop_of_running_run {g : Slot} (h : g.st = .running) (hr : g.run.isSome = true) :
    g.stop = { g with st := .stopping, pendTrig := none, pendLate := false, release := none } := by
  simp only [Slot.stop, h, hr, if_true]

theorem Slot.stop_of_running_idle {g : Slot} (h : g.st = .running) (hr : g.run = none) :
    g.stop = { g with st := .stopped, pendTrig := none, pendLate := false, release := none } := by
  simp [Slot.stop, h, hr]

theorem Slot.stop_of_not_running {g : Slot} (h : g.st ≠ .running) : g.stop = g := if_neg h

/-! ### Coefficients (R57, R157, R222) -/

theorem Lane.coefWrite_of_words {x : Lane} {m : MbId} {p : Bytes} {k : Fin 64} (hk : reqSlot p = some k) (h1 : fieldAt p 1 1 = 0)
    (h6 : fieldAt p 6 6 = 0) (hlo : 1 ≤ fieldAt p 4 2) (hhi : fieldAt p 4 2 ≤ 249) (hlen : p.length = 12 + 4 * fieldAt p 4 2)
    (hcoef : fieldAt p 2 2 + fieldAt p 4 2 ≤ (x.slot k).coef.length)
    (hg : (x.slot k).touchesGather (fieldAt p 2 2) (fieldAt p 4 2) = false) :
    let job : CoefJob := {
      mb := m, slot := k, first := fieldAt p 2 2, done := 0,
      rest := (chunks 4 (fieldAt p 4 2) (p.drop 12)).map fun b => BitVec.ofNat 32 (ofLe b) }
    x.coefWrite m p = ({ x with hp := { x.hp with coefJobs := x.hp.coefJobs ++ [job] } }).respond m stsOk [] := by
  simp only [Lane.coefWrite, hk]
  refine if_neg ?_
  simp [h1, h6, hlen, hg]
  omega

theorem Lane.coefRead_of_words {x : Lane} {m : MbId} {p : Bytes} {k : Fin 64} (hk : reqSlot p = some k) (during : Bool)
    (h1 : fieldAt p 1 1 = 0) (hlo : 1 ≤ fieldAt p 4 2) (hhi : fieldAt p 4 2 ≤ 252)
    (hcoef : fieldAt p 2 2 + fieldAt p 4 2 ≤ (x.slot k).coef.length) :
    let hit := fun j : CoefJob => during && j.touches k (fieldAt p 2 2) (fieldAt p 4 2)
    x.coefRead m during p = (x.coefFinish hit).respond m (if x.hp.coefJobs.any hit then stsTorn else stsOk)
      (((((x.coefFinish hit).slot k).coef.drop (fieldAt p 2 2)).take (fieldAt p 4 2)).flatMap fun w => leBytes 4 w.toNat) := by
  simp only [Lane.coefRead, hk, h1, not_lt.2 hlo, not_lt.2 hhi, not_lt.2 hcoef]
  rfl

/-- Settles O18: each graph command's own branch, on a slot that exists. -/
theorem graphCommands : Obligations.GraphCommands := by
  intro s l x m p k hx hp hk
  refine ⟨fun g => ?_, fun g => ?_, fun g => ?_, fun g => ?_, fun g => ?_, fun g => ?_, fun g => ?_⟩
  · intro off total n d h1 _ _ _ h4 hlo hhi hbase hlen hroom data z
    have hturn : ∀ {y}, x.graphLoad m p = y → s.Turns (.graphLoad l m) l y := fun e => State.turns_granted hx hp rfl g e
    have hload : x.graphLoad m p = if data.length < total then z.respond m stsOk []
        else match z.imageStatus data with
          | none => z.respond m stsOk []
          | some st => ({ z with ses := z.ses.dropImage k.val }).respond m st [] :=
      Lane.graphLoad_of_chunk hk h1 h4 hlo hhi hbase hlen hroom
    refine ⟨fun hl => hturn ?_, fun hl hi => hturn ?_, fun st hl hi => hturn ?_⟩
    · rw [hload, if_pos hl]
    · rw [hload, if_neg (by omega), hi]
    · rw [hload, if_neg (by omega), hi]
  · have hturn : ∀ {y}, x.graphStart m p = y → s.Turns (.graphStart l m) l y := fun e => State.turns_granted hx hp rfl g e
    exact ⟨fun ⟨hst, hl, hr⟩ => hturn (Lane.graphStart_of_ok hk hst hl hr), fun h => hturn (Lane.graphStart_of_not_ok hk h)⟩
  · have hturn : ∀ {y}, x.graphStop m p = y → s.Turns (.graphStop l m) l y := fun e => State.turns_granted hx hp rfl g e
    refine ⟨fun h hr => hturn ?_, fun h hr => hturn ?_, fun h => hturn ?_, fun h => hturn ?_, fun h => hturn ?_⟩
    · have hstop := Slot.stop_of_running_run h hr
      rw [Lane.graphStop_of_image hk (by simp [h]), if_pos (by rw [hstop])]
      exact x.onSlot_congr k (by rw [hstop])
    · have hstop := Slot.stop_of_running_idle h hr
      rw [Lane.graphStop_of_image hk (by simp [h]), if_neg (by simp [hstop])]
      refine congrArg (·.respond m stsOk []) (x.onSlot_congr k ?_)
      exact hstop
    · have hstop := Slot.stop_of_not_running (g := x.slot k) (by simp [h])
      rw [Lane.graphStop_of_image hk (by simp [h]), if_pos (by rw [hstop, h])]
      exact x.onSlot_congr k (by rw [hstop])
    · simp only [List.mem_cons, List.not_mem_nil, or_false] at h
      obtain ⟨hempty, hrunning, hstopping⟩ : (x.slot k).st ≠ .empty ∧ (x.slot k).st ≠ .running ∧ (x.slot k).st ≠ .stopping := by
        rcases h with h | h | h <;> simp [h]
      have hstop := Slot.stop_of_not_running hrunning
      rw [Lane.graphStop_of_image hk hempty, if_neg (by rwa [hstop]), Lane.onSlot_id hstop]
    · exact Lane.graphStop_of_empty hk h
  · have hturn : ∀ {y}, x.graphUnload m p = y → s.Turns (.graphUnload l m) l y := fun e => State.turns_granted hx hp rfl g e
    exact ⟨fun h hr => hturn (Lane.graphUnload_of_rest hk h hr), fun h => hturn (Lane.graphUnload_of_not_rest hk h)⟩
  · exact State.turns_granted hx hp rfl g (by rw [Lane.graphStatus, hk]; rfl)
  · intro word n h1 h6 hlo hhi hlen hcoef hg job
    exact State.turns_granted hx hp rfl g (Lane.coefWrite_of_words hk h1 h6 hlo hhi hlen hcoef hg)
  · intro word n hit h1 hlo hhi hcoef during
    have hhit : hit during = fun j : CoefJob => during && j.touches k word n :=
      funext fun j => by simp only [hit, CoefJob.touches, Bool.and_assoc]
    rw [hhit]
    exact State.turns_granted hx hp rfl g (Lane.coefRead_of_words hk during h1 hlo hhi hcoef)

end Sys2Proof.Machine
end

section
/-! Connections, streams, notices and ports (R45, R56, R60, R413, R456, R460, R461, R487, R488, R491). -/

namespace Sys2Proof.Machine

/-! ### Connections (R456, R460, R461) -/

/-- Pages forgotten change the streams' block alone. -/
theorem Lane.tlbForget_ep (x : Lane) (e k : Fin 512) : (x.tlbForget e).ep k = x.ep k := rfl

theorem Lane.closeConn_ep_self (x : Lane) (e : Fin 512) : (x.closeConn e).ep e = { x.ep e with st := .closed } := by
  rw [Lane.closeConn, Lane.onEp_ep_self, Lane.tlbForget_ep]

theorem Lane.closeConn_ep_ne (x : Lane) {e k : Fin 512} (h : k ≠ e) : (x.closeConn e).ep k = x.ep k := by
  rw [Lane.closeConn, Lane.onEp_ep_ne _ _ h, Lane.tlbForget_ep]

section
variable {x : Lane} {e : Fin 512}

theorem Lane.openConn_of_unused (h : connRole (x.connRec e) = 0) : x.openConn e = (x, stsState) := if_pos h

theorem Lane.openConn_of_open (h : connRole (x.connRec e) ≠ 0) (hc : (x.ep e).st ≠ .closed) (hf : (x.ep e).st ≠ .failed) :
    x.openConn e = (x, stsOk) := by
  simp [Lane.openConn, h, hc, hf]

/-- An endpoint that may open opens, unless its peer has accepted an offer below ver_min. -/
theorem Lane.openConn_of_shut (h : connRole (x.connRec e) ≠ 0) (hst : (x.ep e).st = .closed ∨ (x.ep e).st = .failed) :
    x.openConn e = if x.offerBad e then (x.closeConn e, stsVersion)
      else (x.onEp e fun q => { Endpoint.cold with st := .waiting, staging := q.staging, watch := x.tm.sync = .synced }, stsOk) := by
  rcases hst with hst | hst <;> simp [Lane.openConn, h, hst]

variable {m : MbId} {p : Bytes} (he : reqEndpoint p = some e)
include he

theorem Lane.connOpen_of_named :
    x.connOpen m p = if x.jobHolds 8 e.val then x.respond m stsBusy [] else (x.openConn e).1.respond m (x.openConn e).2 [] := by
  simp only [Lane.connOpen, he]

theorem Lane.connClose_of_named :
    x.connClose m p = if x.jobHolds 8 e.val then x.respond m stsBusy [] else (x.closeConn e).respond m stsOk [] := by
  simp only [Lane.connClose, he]

end

/-! ### Streams (R487, R488) -/

/-- A channel that no commit holds does what the command says. -/
theorem Lane.onChannel_of_free {x : Lane} {m : MbId} {p : Bytes} {c : Fin 16} (hc : reqChan p = some c) (h : x.jobHolds 10 c.val = false)
    (f : Fin 16 → Lane) : x.onChannel m p f = f c := by
  simp [Lane.onChannel, hc, h]

section
variable {x : Lane} {c : Fin 16}

theorem Lane.streamStop_of_running (h : (x.chan c).st = .running) : x.streamStop c = x.onStream c fun q => { q with st := .stopping } := by
  simp only [Lane.streamStop, h]

theorem Lane.streamStop_of_waiting (h : (x.chan c).st = .waiting) : x.streamStop c = x.streamStopped c := by
  simp only [Lane.streamStop, h]

theorem Lane.streamStop_of_halted (h : (x.chan c).st = .halted) :
    x.streamStop c = (x.onStream c fun q => { q with st := .stopped }).event (176 + c.val) 2 := by
  simp only [Lane.streamStop, h]

end

/-! ### Ports (R413, R414) -/

theorem Lane.portStatus_of_port {x : Lane} {p : Bytes} {k : Fin 32} (h : fieldAt p 0 1 = k.val) :
    let c := vget x.net.chan (fin (k.val / 16))
    x.portStatus p = (stsOk, leBytes 1 (portCode (if x.statusOld c then .unknown else vget c.ports (fin (k.val % 16)))) ++ [0, 0, 0] ++
      (vget c.counters (fin (k.val % 16))).flatMap fun v => leBytes 4 v.toNat) := by
  rw [Lane.portStatus, h]
  exact if_neg (by omega)

/-- Settles O20: each command's own branch, on the endpoint, channel, mailbox or port named. -/
theorem connectionAndStreamCommands : Obligations.ConnectionAndStreamCommands := by
  intro s l x m p hx hp
  refine ⟨fun e he => ⟨fun g => ?_, fun g => ?_, fun g => ?_⟩, fun c hc => ⟨fun hfree => ⟨fun g => ?_, fun g => ?_, fun g => ?_⟩, fun g => ?_⟩,
    fun g => State.turns_granted hx hp rfl g rfl, fun g => ?_⟩
  · exact State.turns_granted hx hp rfl g (by rw [Lane.connStatus, he]; rfl)
  · have hturn : ∀ {y}, x.connOpen m p = y → s.Turns (.connOpen l m) l y := fun h => State.turns_granted hx hp rfl g h
    refine ⟨fun hj => hturn ?_, Lane.openConn_of_unused, Lane.openConn_of_open, fun hr hst => ⟨fun hb => ?_, fun hb => ?_⟩,
      ⟨x.closeConn_ep_self e, fun k hk => x.closeConn_ep_ne hk⟩, fun hj => hturn ?_⟩
    · rw [Lane.connOpen_of_named he, hj]; rfl
    · rw [Lane.openConn_of_shut hr hst, if_pos hb]
    · rw [Lane.openConn_of_shut hr hst, hb]; rfl
    · rw [Lane.connOpen_of_named he, if_pos hj]
  · have hturn : ∀ {y}, x.connClose m p = y → s.Turns (.connClose l m) l y := fun h => State.turns_granted hx hp rfl g h
    refine ⟨fun hj => hturn ?_, fun hj => hturn ?_⟩
    · rw [Lane.connClose_of_named he, hj]; rfl
    · rw [Lane.connClose_of_named he, if_pos hj]
  · have hturn : ∀ {y}, x.streamStart m p = y → s.Turns (.streamStart l m) l y := fun h => State.turns_granted hx hp rfl g h
    rw [Lane.streamStart, Lane.onChannel_of_free hc hfree] at hturn
    exact ⟨fun h => hturn (if_pos h), fun h => hturn (if_neg (by simp [h]))⟩
  · have hturn : ∀ {z}, x.streamStop c = z → s.Turns (.streamStop l m) l (z.respond m stsOk []) := fun h =>
      State.turns_granted hx hp rfl g (by rw [Lane.onChannel_of_free hc hfree, h])
    exact ⟨fun h => hturn (Lane.streamStop_of_running h), fun h => hturn (Lane.streamStop_of_waiting h),
      fun h => hturn (Lane.streamStop_of_halted h)⟩
  · have hturn : ∀ {y}, x.streamResume m p = y → s.Turns (.streamResume l m) l y := fun h => State.turns_granted hx hp rfl g h
    rw [Lane.streamResume, Lane.onChannel_of_free hc hfree] at hturn
    refine ⟨fun h hn => hturn (if_pos (by simp [h, hn])), fun h => hturn (if_neg ?_)⟩
    rcases h with h | h <;> simp [h]
  · exact State.turns_granted hx hp rfl g (by rw [Lane.streamStatusOf, hc]; rfl)
  · have hturn : ∀ {y}, x.answer m (x.portStatus p) = y → s.Turns (.portStatus l m) l y := fun h => State.turns_granted hx hp rfl g h
    refine ⟨fun k hk => hturn ?_, fun hk => hturn ?_⟩
    · rw [Lane.portStatus_of_port hk]; rfl
    · rw [Lane.portStatus, if_pos hk]; rfl

end Sys2Proof.Machine
end

section
/-! Protection of the switch outputs (R65, R228, R237, R241 to R243, R247, R248, R288, R290). -/

namespace Sys2Proof.Machine

/-! ### Edges on the 5 ns grid (R228) -/

theorem dvd_gridEdge (up : Bool) (x : Int) : 32 ∣ gridEdge up x := Int.dvd_mul_right 32 _

/-- An edge falls on a neighbour of its step. -/
theorem abs_gridEdge_sub_lt (up : Bool) (x : Int) : |gridEdge up x - x| < 32 := by
  rw [abs_lt, gridEdge]
  cases up <;> simp only [if_true, if_false, Bool.false_eq_true] <;> omega

theorem gridInterval_of_width {n : Nat} {start width : Int} (h : width ≠ 0) : gridInterval (some n) start width =
    (gridEdge (natBit n 0) start, gridEdge (natBit n 1) (start + width) - gridEdge (natBit n 0) start) := if_neg h

/-! ### Trips (R242, R243) -/

/-- Every axis, given what was tripped in `x` before, and every auxiliary output judged. -/
def Lane.judged (x z : Lane) : Lane :=
  each (idxs 8) (fun u y => y.auxTrip u) (each (idxs 12) (fun nn y => y.tripUpdate (x.tripped nn) nn) z)

theorem Lane.withTrips_eq (x : Lane) (f : Lane → Lane) : x.withTrips f = x.judged (f x) := rfl

theorem Lane.overcurrent_of_running {x : Lane} (h : x.afe.running = true) (nn : AxisId) (p : Phase) (active : Bool) :
    x.overcurrent nn p active =
      x.judged (x.onAxis nn fun a => { a with sense := { a.sense with oc := bitPut a.sense.oc p.val active } }) := by
  simp only [Lane.overcurrent, h, Bool.not_true, Bool.false_eq_true, if_false]
  rfl

/-- Settles O36: each row is one change of the lane; an edge on the grid lies within a step of its place. -/
theorem pwmProtectionRows : Obligations.PwmProtectionRows := by
  intro s l x hx judged grids
  refine ⟨State.turns_onLane rfl (by rw [hx]; rfl), State.turns_onLane rfl (by rw [hx]; rfl), fun n start width => ?_,
    fun nn p => State.turns_onLane rfl ?_, fun k active => State.turns_onLane rfl (by rw [hx]; rfl),
    fun nn p active h => State.turns_onLane rfl (by rw [hx, Lane.overcurrent_of_running h]; rfl),
    fun active h => State.turns_onLane rfl ?_, fun u h hh => State.turns_onLane rfl ?_, fun h => State.turns_onLane rfl ?_,
    fun h => State.turns_onLane rfl ?_, State.turns_onLane rfl (by rw [hx])⟩
  · intro e
    refine ⟨rfl, rfl, fun h => ?_⟩
    have he : e = _ := gridInterval_of_width h
    rw [he]
    simp only [add_sub_cancel]
    exact ⟨dvd_gridEdge _ _, dvd_gridEdge _ _, abs_gridEdge_sub_lt _ _, abs_gridEdge_sub_lt _ _⟩
  · have hsrc : 32 + 4 * nn.val + 2 = 34 + 4 * nn.val := by omega
    rw [hx, Lane.interlock, hsrc]
    rfl
  · rw [hx, h]; rfl
  · rw [hx, h, hh]; rfl
  · rw [hx]; exact if_pos h
  · rw [hx]; exact if_neg h

end Sys2Proof.Machine
end

section
/-! The commands of axes, faults and health, entry into the safe state and the enable (R56 to R61, R237, R244, R267 to R270, R350, R354,
R366, R369, R374). -/

namespace Sys2Proof.Machine

/-! ### Changes of one axis -/

theorem Lane.onAxis_congr (x : Lane) (nn : AxisId) {f g : Axis → Axis} (h : f (x.axis nn) = g (x.axis nn)) : x.onAxis nn f = x.onAxis nn g := by
  have h' : f (vget x.ax nn) = g (vget x.ax nn) := h
  simp only [Lane.onAxis, vmod, h']

theorem Lane.onAxis_onAxis (x : Lane) (nn : AxisId) (f g : Axis → Axis) : (x.onAxis nn f).onAxis nn g = x.onAxis nn fun a => g (f a) := by
  simp [Lane.onAxis, vmod, vset, vget]

/-- An operation that changes one axis and nothing else. -/
def Lane.OneAxis (x : Lane) (nn : AxisId) (y : Lane) : Prop := ∃ f, y = x.onAxis nn f

theorem Lane.OneAxis.trans {x y z : Lane} {nn : AxisId} (h : x.OneAxis nn y) (k : y.OneAxis nn z) : x.OneAxis nn z := by
  obtain ⟨f, rfl⟩ := h
  obtain ⟨g, rfl⟩ := k
  exact ⟨_, x.onAxis_onAxis nn f g⟩

theorem Lane.oneAxis_onAxis (x : Lane) (nn : AxisId) (f : Axis → Axis) : x.OneAxis nn (x.onAxis nn f) := ⟨f, rfl⟩

theorem Lane.OneAxis.axis_ne {x y : Lane} {nn k : AxisId} (h : x.OneAxis nn y) (hk : k ≠ nn) : y.axis k = x.axis k := by
  obtain ⟨f, rfl⟩ := h
  exact x.onAxis_axis_ne f hk

theorem vget_ofFn {α : Type} {n : Nat} (f : Fin n → α) (i : Fin n) : vget (Vector.ofFn f) i = f i := Vector.getElem_ofFn i.isLt

/-! ### The gates (R257, R268 to R270) -/

/-- The gates driven: the axis's dead time, drive and blanking change, and a gate is on exactly where the die wants it under the new
dead time. -/
theorem Lane.driveGates_eq (x : Lane) (nn : AxisId) : ∃ dead drive blank,
    x.driveGates nn = x.onAxis nn (fun a => { a with
      pwm := { a.pwm with dead := dead }, gate := { a.gate with drive := drive, blank := blank } }) ∧
    ∀ sw, vget drive sw = if (x.onAxis nn fun a => { a with pwm := { a.pwm with dead := dead } }).gateWant nn sw then .on
      else offDrive (tltoAlways (x.axisRec nn) nn) (bit x.gd.valid (groupOf nn)) (vget (x.axis nn).gate.drive sw) := by
  refine ⟨_, _, _, x.onAxis_onAxis nn _ _, fun sw => ?_⟩
  rw [vget_ofFn, Lane.onAxis_axis_self]

theorem Lane.oneAxis_driveGates (x : Lane) (nn : AxisId) : x.OneAxis nn (x.driveGates nn) := by
  obtain ⟨_, _, _, e, -⟩ := x.driveGates_eq nn
  exact ⟨_, e⟩

/-- Driving the gates leaves the rest of the axis as it is. -/
theorem Lane.driveGates_axis (x : Lane) (nn : AxisId) : ∃ dead drive blank, (x.driveGates nn).axis nn = { x.axis nn with
    pwm := { (x.axis nn).pwm with dead := dead }, gate := { (x.axis nn).gate with drive := drive, blank := blank } } := by
  obtain ⟨_, _, _, e, -⟩ := x.driveGates_eq nn
  exact ⟨_, _, _, by rw [e, Lane.onAxis_axis_self]⟩

theorem Lane.driveGates_pattern (x : Lane) (nn : AxisId) : ((x.driveGates nn).axis nn).pattern = (x.axis nn).pattern := by
  obtain ⟨_, _, _, e⟩ := x.driveGates_axis nn
  rw [e]

/-- Under a pattern the die wants a gate as the pattern does, unless supply, latch or dead time hold it off. -/
theorem Lane.gateWant_of_held {x : Lane} {nn : AxisId} (h : x.patternHeld nn = true) (sw : Switch) : x.gateWant nn sw =
    (x.dieAlive (groupOf nn) && !bit x.gd.uvlo (groupOf nn) && !latchOff (x.axis nn).gate sw true &&
      patternOn (x.axis nn).pattern sw && !bit (x.axis nn).pwm.dead sw.val) := by
  simp only [Lane.gateWant, h, if_true, Bool.and_assoc]

/-! ### Entry into the safe state (R61, R268 to R270, R346, R366) -/

theorem Lane.oneAxis_pwmOff (x : Lane) (nn : AxisId) : x.OneAxis nn (x.pwmOff nn) := ⟨_, rfl⟩

theorem Lane.pwmOff_axis (x : Lane) (nn : AxisId) : (x.pwmOff nn).axis nn = { x.axis nn with
    driving := false,
    pwm := { pwmMove (x.axisRec nn) 0 (x.axis nn).pwm with pendOn := 0, carry := Vector.replicate 3 0 } } :=
  Lane.onAxis_axis_self ..

theorem pwmMove_zero_cmd (r : Bytes) (p : Pwm) : (pwmMove r 0 p).cmd = 0 := by simp [pwmMove]

/-- Only the supervisor and the angle's validity follow the end of its drive state. -/
theorem Lane.supIdle_eq (x : Lane) (nn : AxisId) : ∃ acc sup, x.supIdle nn = x.onAxis nn fun a => { a with acc := acc, sup := sup } := by
  unfold Lane.supIdle
  dsimp only
  split
  · exact ⟨(x.axis nn).acc, _, x.onAxis_congr nn rfl⟩
  · exact ⟨_, _, (x.onAxis_onAxis nn _ _).trans (x.onAxis_congr nn rfl)⟩

/-- The lane with an axis in its safe state, before its gates follow. -/
def Lane.safed (x : Lane) (nn : AxisId) : Lane := ((x.pwmOff nn).supIdle nn).onAxis nn fun a =>
  { a with safe := true, pattern := x.entryPattern nn, patAuto := ((x.pwmOff nn).supIdle nn).autoPattern nn,
           gate := { a.gate with cmd := 0 }, red := { a.red with takeover := none, observing := none } }

theorem Lane.oneAxis_safed (x : Lane) (nn : AxisId) : x.OneAxis nn (x.safed nn) := by
  obtain ⟨_, _, e⟩ := (x.pwmOff nn).supIdle_eq nn
  exact (x.oneAxis_pwmOff nn).trans (Lane.OneAxis.trans ⟨_, e⟩ (Lane.oneAxis_onAxis _ _ _))

theorem Lane.safed_axis (x : Lane) (nn : AxisId) : ∃ acc sup patAuto, (x.safed nn).axis nn = { x.axis nn with
    driving := false,
    pwm := { pwmMove (x.axisRec nn) 0 (x.axis nn).pwm with pendOn := 0, carry := Vector.replicate 3 0 },
    acc := acc, sup := sup, safe := true, pattern := x.entryPattern nn, patAuto := patAuto,
    gate := { (x.axis nn).gate with cmd := 0 },
    red := { (x.axis nn).red with takeover := none, observing := none } } := by
  obtain ⟨acc, sup, e⟩ := (x.pwmOff nn).supIdle_eq nn
  refine ⟨acc, sup, ((x.pwmOff nn).supIdle nn).autoPattern nn, ?_⟩
  rw [Lane.safed, Lane.onAxis_axis_self, e, Lane.onAxis_axis_self, Lane.pwmOff_axis]

theorem Lane.enterSafe_of_safe {x : Lane} {nn : AxisId} (h : (x.axis nn).safe = true) : x.enterSafe nn = x := if_pos h

theorem Lane.enterSafe_of_used {x : Lane} {nn : AxisId} (h : (x.axis nn).safe = false) (hu : x.axisUsed nn = true) :
    x.enterSafe nn = (x.safed nn).driveGates nn := by
  simp only [Lane.enterSafe, h, hu, Bool.not_true, Bool.false_eq_true, if_false]
  rfl

theorem Lane.oneAxis_enterSafe (x : Lane) (nn : AxisId) : x.OneAxis nn (x.enterSafe nn) := by
  cases h : (x.axis nn).safe
  · cases hu : x.axisUsed nn
    · have e : x.enterSafe nn = (x.pwmOff nn).driveGates nn := by simp only [Lane.enterSafe, h, hu]; rfl
      rw [e]
      exact (x.oneAxis_pwmOff nn).trans (Lane.oneAxis_driveGates _ nn)
    · rw [Lane.enterSafe_of_used h hu]
      exact (x.oneAxis_safed nn).trans (Lane.oneAxis_driveGates _ nn)
  · rw [Lane.enterSafe_of_safe h]
    exact ⟨fun a => a, by simp [Lane.onAxis, vmod, vset, vget]⟩

/-- The axis after its entry: commands off, the pattern that its record asks for, nothing taken over. -/
theorem Lane.enterSafe_axis {x : Lane} {nn : AxisId} (h : (x.axis nn).safe = false) (hu : x.axisUsed nn = true) :
    let b := (x.enterSafe nn).axis nn
    b.safe = true ∧ b.driving = false ∧ b.gate.cmd = 0 ∧ b.pwm.cmd = 0 ∧ b.red.takeover = none ∧ b.pattern = x.entryPattern nn := by
  intro b
  obtain ⟨_, _, _, e⟩ := x.safed_axis nn
  obtain ⟨_, _, _, e'⟩ := (x.safed nn).driveGates_axis nn
  have hb : b = _ := (congrArg (fun y : Lane => y.axis nn) (Lane.enterSafe_of_used h hu)).trans e'
  rw [hb, e]
  exact ⟨rfl, rfl, rfl, pwmMove_zero_cmd _ _, rfl, rfl⟩

/-- Every gate of the axis after its entry is as its pattern wants it, unless a latch or the dead time holds it off. -/
theorem Lane.enterSafe_drive {x : Lane} {nn : AxisId} (h : (x.axis nn).safe = false) (hu : x.axisUsed nn = true) (sw : Switch) :
    let b := (x.enterSafe nn).axis nn
    vget b.gate.drive sw =
      if x.dieAlive (groupOf nn) && !bit x.gd.uvlo (groupOf nn) && !latchOff (x.axis nn).gate sw true && patternOn b.pattern sw &&
        !bit b.pwm.dead sw.val then .on
      else offDrive (tltoAlways (x.axisRec nn) nn) (bit x.gd.valid (groupOf nn)) (vget (x.axis nn).gate.drive sw) := by
  intro b
  obtain ⟨f, hf⟩ := x.oneAxis_safed nn
  obtain ⟨_, _, _, e⟩ := x.safed_axis nn
  obtain ⟨dead, drive, blank, e', hdrive⟩ := (x.safed nn).driveGates_eq nn
  have hb : b = _ := (congrArg (fun y : Lane => y.axis nn) ((Lane.enterSafe_of_used h hu).trans e')).trans (Lane.onAxis_axis_self ..)
  have hheld : ((x.safed nn).onAxis nn fun a => { a with pwm := { a.pwm with dead := dead } }).patternHeld nn = true := by
    rw [Lane.patternHeld, Lane.onAxis_axis_self, e]; rfl
  rw [hb]
  show vget drive sw = _
  rw [hdrive, Lane.gateWant_of_held hheld, Lane.onAxis_axis_self, e]
  rw [hf]
  rfl

/-- The pattern of an entry: all off as a standby, else as safe_state says. -/
theorem Lane.entryPattern_of_used {x : Lane} {nn : AxisId} (hu : x.axisUsed nn = true) : x.entryPattern nn =
    if (x.axis nn).role = .duplexStandby then .opened
    else match safeState (x.axisRec nn) % 16 with
      | 0 => .opened
      | 1 => .shortLow
      | 2 => .shortHigh
      | _ => if x.bridgeFault nn then .opened else .shortLow := by
  by_cases hs : (x.axis nn).role = .duplexStandby
  · exact (if_pos (by simp [hs])).trans (if_pos hs).symm
  · exact (if_neg (by simp [hu, hs])).trans (if_neg hs).symm

/-- A bridge fault opens AUTO's short. -/
theorem Lane.autoOpen_pattern {x : Lane} {nn : AxisId} (h : x.patternHeld nn = true) (ha : (x.axis nn).patAuto = true)
    (hf : x.bridgeFault nn = true) : ((x.autoOpen nn).axis nn).pattern = .opened := by
  by_cases hp : (x.axis nn).pattern = .opened <;> simp [Lane.autoOpen, h, ha, hf, hp, Lane.driveGates_pattern]

/-! ### The enable (R244, R267, R331, R333) -/

theorem Lane.oneAxis_leaveSafe (x : Lane) (nn : AxisId) : x.OneAxis nn (x.leaveSafe nn) :=
  (((x.oneAxis_onAxis nn _).trans (Lane.oneAxis_driveGates _ nn)).trans (Lane.oneAxis_onAxis _ nn _)).trans (Lane.oneAxis_driveGates _ nn)

/-- Leaving the safe state changes pattern, dead time and drive of the axis. -/
theorem Lane.leaveSafe_axis (x : Lane) (nn : AxisId) : ∃ dead drive blank, (x.leaveSafe nn).axis nn = { x.axis nn with
    safe := false, pattern := .opened,
    pwm := { (x.axis nn).pwm with dead := dead }, gate := { (x.axis nn).gate with drive := drive, blank := blank } } := by
  obtain ⟨_, _, _, e⟩ := (x.onAxis nn fun a => { a with pattern := .opened }).driveGates_axis nn
  obtain ⟨dead, drive, blank, e'⟩ :=
    (((x.onAxis nn fun a => { a with pattern := .opened }).driveGates nn).onAxis nn fun a => { a with safe := false }).driveGates_axis nn
  refine ⟨dead, drive, blank, ?_⟩
  rw [Lane.leaveSafe, e', Lane.onAxis_axis_self, e, Lane.onAxis_axis_self]

theorem Lane.oneAxis_enableOutputs (x : Lane) (nn : AxisId) : x.OneAxis nn (x.enableOutputs nn) :=
  (x.oneAxis_onAxis nn _).trans (Lane.oneAxis_leaveSafe _ nn)

/-- The outputs begin at their initial values, out of the safe state. -/
theorem Lane.enableOutputs_axis (x : Lane) (nn : AxisId) :
    let b := (x.enableOutputs nn).axis nn
    b.enabled = true ∧ b.driving = false ∧ b.safe = false ∧ b.pattern = .opened ∧ b.pwm.idx = 0 ∧
      b.pwm.carry = Vector.replicate 3 0 ∧ b.pwm.mask = BitVec.ofNat 6 (maskInit (x.axisRec nn)) := by
  intro b
  obtain ⟨_, _, _, e⟩ := Lane.leaveSafe_axis (x.onAxis nn fun a => { a with
    enabled := true, driving := false,
    pwm := { a.pwm with mask := BitVec.ofNat 6 (maskInit (x.axisRec nn)), idx := 0, carry := Vector.replicate 3 0, held := 0,
                        pulseCut := false } }) nn
  have hb : b = _ := e
  rw [hb, Lane.onAxis_axis_self]
  exact ⟨rfl, rfl, rfl, rfl, rfl, rfl, rfl⟩

/-- The lane on which an enable begins: FALLBACK returned, the profile ended, the failed-catch count 0. -/
def Lane.enableFrom (x : Lane) (nn : AxisId) : Lane :=
  ((x.fbReturn nn).endProfile nn).onAxis nn fun a => { a with sup := { a.sup with fails := 0 } }

theorem Lane.enableAxis_of_simplex {x : Lane} {nn : AxisId} (h : (x.axis nn).enabled = false ∨ (x.axis nn).safe = true)
    (hr : ((x.enableFrom nn).axis nn).role = .simplex) :
    let w := ((x.enableFrom nn).enableOutputs nn).supStart nn
    x.enableAxis nn = if (w.axis nn).sup.drive = .failed then w.supHome nn else w := by
  intro w
  have hd : ((x.axis nn).enabled && !(x.axis nn).safe) = false := by rcases h with h | h <;> simp [h]
  have hw : (x.enableFrom nn).enableRole nn = w := by simp only [Lane.enableRole, hr]; rfl
  simp only [Lane.enableAxis, hd, Bool.false_eq_true, if_false]
  rw [← hw]
  rfl

/-! ### The commands of an axis (R58, R59, R61, R350, R354) -/

section
variable {x : Lane} {m : MbId} {p : Bytes} {nn : AxisId} (hn : x.reqAxis p = some nn)
include hn

theorem Lane.axisEnable_of_state (h : x.sys.lstate ≠ .active ∨ x.axisUsed nn = false ∨ (x.axis nn).role = .unused) :
    x.axisEnable m p = x.respond m stsState [] := by
  simp only [Lane.axisEnable, hn]
  refine if_pos ?_
  rcases h with h | h | h <;> simp [h]

/-- A used axis of a lane in LANE_ACTIVE: BUSY, refused or enabled. -/
theorem Lane.axisEnable_of_used (hl : x.sys.lstate = .active) (hu : x.axisUsed nn = true) (hr : (x.axis nn).role ≠ .unused) :
    x.axisEnable m p = if x.jobHolds 2 (x.dev nn) then x.respond m stsBusy []
      else if !x.canEnable nn || (x.axis nn).classA then (x.enterSafe nn).respond m stsRefused []
      else (x.enableAxis nn).respond m stsOk [] := by
  simp only [Lane.axisEnable, hn]
  exact if_neg (by simp [hl, hu, hr])

theorem Lane.axisDisable_of_own : x.axisDisable m p =
    if x.jobHolds 2 (x.dev nn) then x.respond m stsBusy [] else (x.enterSafe nn).respond m stsOk [] := by
  simp only [Lane.axisDisable, hn]

theorem Lane.axisHandover_of_state (h : x.sys.lstate ≠ .active ∨ (x.axis nn).role ≠ .duplexActive) :
    x.axisHandover m p = x.respond m stsState [] := by
  simp only [Lane.axisHandover, hn]
  refine if_pos ?_
  rcases h with h | h <;> simp [h]

/-- The active member in LANE_ACTIVE: BUSY, refused, or handed over. -/
theorem Lane.axisHandover_of_active (hl : x.sys.lstate = .active) (hr : (x.axis nn).role = .duplexActive) :
    x.axisHandover m p = if x.jobHolds 2 (x.dev nn) then x.respond m stsBusy []
      else if !x.standbyReady nn then x.respond m stsRefused []
      else (if x.dropPosted nn then x else x.onRed nn fun d => { d with planned := .armed }).respond m stsOk [] := by
  simp only [Lane.axisHandover, hn]
  exact if_neg (by simp [hl, hr])

theorem Lane.granaryRead_of_standby (h : (x.axis nn).role = .duplexStandby) : x.granaryRead p =
    (if (x.axis nn).red.torn || (x.axis nn).red.commit.isSome then stsTorn else stsOk,
      (x.newestRecord nn).elim [] fun r => r.2) := by
  simp only [Lane.granaryRead, hn, h]
  cases x.newestRecord nn <;> rfl

theorem Lane.granaryRead_of_other (h : (x.axis nn).role ≠ .duplexStandby) : x.granaryRead p = (stsState, []) := by
  simp only [Lane.granaryRead, hn]
  exact if_pos h

end

theorem Lane.dropPosted_of_posted {x : Lane} {nn : AxisId} {n : Nat} (h : (x.axis nn).red.planned = .posted n) :
    x.dropPosted nn = true := by
  simp only [Lane.dropPosted, h]

theorem Lane.dropPosted_of_not_posted {x : Lane} {nn : AxisId} (h : ∀ n, (x.axis nn).red.planned ≠ .posted n) :
    x.dropPosted nn = false := by
  unfold Lane.dropPosted
  split
  · exact absurd ‹_› (h _)
  · rfl

/-! ### FAULT_CLEAR (R374) -/

/-- The lane once it has been seen whether the complement check of source 0 fails again. -/
def Lane.rewritten (x : Lane) : Lane := if bit x.fc.present 0 then x.useFree else x

/-- That lane with source 0 away. -/
def Lane.rewrittenClear (x : Lane) : Lane :=
  { x.rewritten with fc := { x.rewritten.fc with present := bitPut x.rewritten.fc.present 0 false } }

theorem Lane.tripBlocks_rewritten (x : Lane) : x.rewritten.tripBlocks = x.tripBlocks := by
  unfold Lane.rewritten
  split <;> rfl

theorem Lane.faultClear_eq (x : Lane) : x.faultClear =
    if x.copyFails || x.rewrittenClear.blocking || x.rewritten.tripBlocks then (x.rewritten, false)
    else (if x.rewritten.rejoinMay then x.rewritten.clearFaults.startRejoin else x.rewritten.clearFaults, true) := rfl

theorem Lane.faultClear_of_blocked {x : Lane} (h : x.copyFails = true ∨ x.rewrittenClear.blocking = true ∨ x.tripBlocks = true) :
    x.faultClear = (x.rewritten, false) := by
  rw [Lane.faultClear_eq, Lane.tripBlocks_rewritten, if_pos]
  simpa only [Bool.or_eq_true, or_assoc] using h

theorem Lane.faultClear_of_clear {x : Lane} (hc : x.copyFails = false) (hb : x.rewrittenClear.blocking = false)
    (ht : x.tripBlocks = false) :
    x.faultClear = (if x.rewritten.rejoinMay then x.rewritten.clearFaults.startRejoin else x.rewritten.clearFaults, true) := by
  rw [Lane.faultClear_eq, Lane.tripBlocks_rewritten, if_neg (by simp [hc, hb, ht])]

theorem Lane.copyFails_of_absent {x : Lane} (h : bit x.fc.present 0 = false) : x.copyFails = false := by
  simp only [Lane.copyFails, h, Bool.false_and]

/-- Settles O19: each command's own branch, the entry into the safe state as the drive of its gates, the enable from its outputs. -/
theorem axisCommandsAnswer : Obligations.AxisCommandsAnswer := by
  intro s l x m p hx hp
  refine ⟨fun nn h => ?_, fun h => ?_, fun g => State.turns_granted hx hp rfl g rfl, fun g => ?_,
    fun g => State.turns_granted hx hp rfl g rfl, fun nn => ?_, fun nn => ?_⟩
  · have hn := Lane.reqAxis_of_own h
    have henable : ∀ {y}, x.grants m 0x402 → x.axisEnable m p = y → s.Turns (.axisEnable l m) l y := fun g e =>
      State.turns_granted hx hp rfl g e
    have hdisable : ∀ {y}, x.grants m 0x403 → x.axisDisable m p = y → s.Turns (.axisDisable l m) l y := fun g e =>
      State.turns_granted hx hp rfl g e
    have hhandover : ∀ {y}, x.grants m 0x404 → x.axisHandover m p = y → s.Turns (.axisHandover l m) l y := fun g e =>
      State.turns_granted hx hp rfl g e
    refine ⟨fun g => ?_, fun g hl hu hr hj => ⟨fun hc ha => henable g ?_, fun hc => henable g ?_⟩, fun g hl hu hr hj => henable g ?_,
      fun g hj => hdisable g ?_, fun g hl hr hj => hhandover g ?_, fun g h => henable g (Lane.axisEnable_of_state hn h),
      fun g hj => hdisable g ?_,
      fun g hl hr hj => ⟨fun hs hd => hhandover g ?_, fun hs n hd => hhandover g ?_, fun hs => hhandover g ?_⟩,
      fun g h => hhandover g (Lane.axisHandover_of_state hn h), fun g h => ?_, fun g h => ?_⟩
    · exact State.turns_granted hx hp rfl g (by rw [Lane.axisStatus, hn]; rfl)
    · rw [Lane.axisEnable_of_used hn hl hu hr, if_neg (by simp [hj]), if_neg (by simp [hc, ha])]
    · rw [Lane.axisEnable_of_used hn hl hu hr, if_neg (by simp [hj]), if_pos (by rcases hc with hc | hc <;> simp [hc])]
    · rw [Lane.axisEnable_of_used hn hl hu hr, if_pos hj]
    · rw [Lane.axisDisable_of_own hn, if_pos hj]
    · rw [Lane.axisHandover_of_active hn hl hr, if_pos hj]
    · rw [Lane.axisDisable_of_own hn, if_neg (by simp [hj])]
    · rw [Lane.axisHandover_of_active hn hl hr, if_neg (by simp [hj]), if_neg (by simp [hs]), Lane.dropPosted_of_not_posted hd]
      rfl
    · rw [Lane.axisHandover_of_active hn hl hr, if_neg (by simp [hj]), if_neg (by simp [hs]), if_pos (Lane.dropPosted_of_posted hd)]
    · rw [Lane.axisHandover_of_active hn hl hr, if_neg (by simp [hj]), if_pos (by simp [hs])]
    · have hread := Lane.granaryRead_of_standby hn h
      cases hr : x.newestRecord nn <;> exact State.turns_granted hx hp rfl g (by rw [hread, hr]; rfl)
    · exact State.turns_granted hx hp rfl g (by rw [Lane.granaryRead_of_other hn h]; rfl)
  · have hn := Lane.reqAxis_of_foreign h
    refine ⟨fun g => ?_, fun g => ?_, fun g => ?_, fun g => ?_, fun g => ?_⟩
    · exact State.turns_granted hx hp rfl g (by rw [Lane.axisStatus, hn]; rfl)
    · exact State.turns_granted hx hp rfl g (by rw [Lane.axisEnable, hn])
    · exact State.turns_granted hx hp rfl g (by rw [Lane.axisDisable, hn])
    · exact State.turns_granted hx hp rfl g (by rw [Lane.axisHandover, hn])
    · exact State.turns_granted hx hp rfl g (by rw [Lane.granaryRead, hn]; rfl)
  · intro z w c d done refused
    have hz : z = x.rewritten := rfl
    have hw : w = x.rewrittenClear := rfl
    have hd : d = x.rewritten.clearFaults := by
      simp only [d, c, w, hz, Lane.rewritten, Lane.clearFaults]
      split <;> rfl
    have hdone : x.copyFails = false → w.blocking = false → x.tripBlocks = false → done := fun hc hb ht =>
      State.turns_granted hx hp rfl g (by rw [Lane.faultClearCmd, Lane.faultClear_of_clear hc hb ht, ← hd, ← hz]; rfl)
    have hrefused : x.copyFails = true ∨ w.blocking = true ∨ x.tripBlocks = true → refused := fun h =>
      State.turns_granted hx hp rfl g (by rw [Lane.faultClearCmd, Lane.faultClear_of_blocked h]; rfl)
    refine ⟨fun hb ht h0 => hdone (Lane.copyFails_of_absent h0) hb ht, fun hb ht h0 => ?_, fun h => hrefused (.inr h)⟩
    cases hc : x.copyFails
    · exact .inl (hdone hc hb ht)
    · exact .inr (hrefused (.inl hc))
  · intro a y b
    refine ⟨fun h => Lane.enterSafe_of_safe h, fun k hk => (x.oneAxis_enterSafe nn).axis_ne hk, fun h hu => ?_,
      fun h ha hf => Lane.autoOpen_pattern h ha hf⟩
    obtain ⟨hsafe, hdriving, hgate, hpwm, htake, hpat⟩ := Lane.enterSafe_axis h hu
    exact ⟨hsafe, hdriving, hgate, hpwm, htake, hpat.trans (Lane.entryPattern_of_used hu), Lane.enterSafe_drive h hu⟩
  · intro y b
    obtain ⟨hen, hdriving, hsafe, hpat, hidx, hcarry, hmask⟩ := x.enableOutputs_axis nn
    refine ⟨hen, hdriving, hsafe, hpat, hidx, hcarry, hmask, fun k hk => (x.oneAxis_enableOutputs nn).axis_ne hk, fun h => ?_⟩
    intro z w hr
    have hz : z = x.enableFrom nn := rfl
    have hw : w = ((x.enableFrom nn).enableOutputs nn).supStart nn := rfl
    rw [hz] at hr
    rw [hw, Lane.enableAxis_of_simplex h hr]

end Sys2Proof.Machine
end

section
/-! Configuration sessions: opening, reading and staging records, COMMIT, DISCARD, closing (R74 to R86, R543). -/

namespace Sys2Proof.Machine

/-! ### The password (R82, R84) -/

section
variable {x : Lane} {pw : Bytes}

theorem Lane.checkPassword_of_locked (h : x.fl.locked = true) : x.checkPassword pw = (x, false) := if_pos h

theorem Lane.checkPassword_of_right (hl : x.fl.locked = false) (h : x.fl.sealed = false ∨ x.passwordFits pw = true) :
    x.checkPassword pw = ({ x with fl := { x.fl with wrong := 0 } }, true) := by
  have hc : (!x.fl.sealed || x.passwordFits pw) = true := by rcases h with h | h <;> simp [h]
  rw [Lane.checkPassword, if_neg (by simp [hl]), if_pos hc]

theorem Lane.checkPassword_of_wrong (hl : x.fl.locked = false) (hs : x.fl.sealed = true) (hw : x.passwordFits pw = false) :
    x.checkPassword pw = ({ x with fl := { x.fl with wrong := x.fl.wrong + 1, locked := true } }, false) := by
  rw [Lane.checkPassword, if_neg (by simp [hl]), if_neg (by simp [hs, hw])]

end

/-! ### SESSION_OPEN (R81) -/

/-- The lane with a session that mailbox `m` opens, and its handle the next free value. -/
def Lane.openedBy (x : Lane) (m : MbId) : Lane :=
  { x with
    free := x.free + 1
    ses := { st := .opened, holder := some m, items := [], job := none, handle := BitVec.ofNat 16 (x.freeBelow 65536) } }

section
variable {x : Lane} {m : MbId} {p pw : Bytes}

theorem Lane.sessionOpen_of_malformed (h : reqPassword p = none) : x.sessionOpen m p = x.respond m stsRange [] := by
  rw [Lane.sessionOpen, h]

variable (hp : reqPassword p = some pw)
include hp

theorem Lane.sessionOpen_of_held {h : MbId} (hh : x.ses.holder = some h) :
    x.sessionOpen m p = x.respond m (if h = m then stsState else stsBusy) [] := by
  rw [Lane.sessionOpen, hp, hh]

variable (hh : x.ses.holder = none) {y : Lane}
include hh

theorem Lane.sessionOpen_of_accepted (hc : x.checkPassword pw = (y, true)) :
    x.sessionOpen m p = (y.openedBy m).respond m stsOk (leBytes 2 (y.freeBelow 65536)) := by
  simp only [Lane.sessionOpen, hp, hh, hc]
  rfl

theorem Lane.sessionOpen_of_refused (hc : x.checkPassword pw = (y, false)) : x.sessionOpen m p = y.respond m stsDenied [] := by
  simp only [Lane.sessionOpen, hp, hh, hc]
  rfl

end

theorem Lane.freeBelow_lt (x : Lane) {n : Nat} (h : 0 < n) : x.freeBelow n < n := Nat.mod_lt _ h

/-! ### RECORD_READ (R74, R79) -/

section
variable {x : Lane} {p : Bytes}

theorem Lane.recordRead_of_no_instance (h : recInstanceOk x.idx (fieldAt p 0 1) (fieldAt p 2 2) = false) :
    x.recordRead p = (stsRange, []) := if_pos (by rw [h]; rfl)

variable (hi : recInstanceOk x.idx (fieldAt p 0 1) (fieldAt p 2 2) = true)
include hi

theorem Lane.recordRead_of_record (ht : fieldAt p 0 1 ≠ 11) :
    x.recordRead p = match findRec x.fl.recs (fieldAt p 0 1) (fieldAt p 2 2) with
      | none => (stsState, [])
      | some r => if r.parts.length ≤ fieldAt p 1 1 || fieldAt p 4 4 ≠ 0 then (stsRange, [])
          else (stsOk, hideSecret (fieldAt p 0 1) (r.parts.getD (fieldAt p 1 1) [])) :=
  (if_neg (by simp [hi])).trans ((if_neg ht).trans rfl)

theorem Lane.recordRead_of_image (ht : fieldAt p 0 1 = 11) :
    x.recordRead p = match x.fl.images.find? (fun y => y.1 = fieldAt p 2 2) with
      | none => (stsState, [])
      | some y => if fieldAt p 1 1 ≠ 0 || fieldAt p 4 4 % 4 ≠ 0 || y.2.length ≤ fieldAt p 4 4 then (stsRange, [])
          else (stsOk, (y.2.drop (fieldAt p 4 4)).take 1008) :=
  (if_neg (by simp [hi])).trans ((if_pos ht).trans rfl)

end

/-! ### RECORD_WRITE (R81, R543) -/

section
variable {x : Lane} {m : MbId} {p : Bytes}

theorem Lane.recordWrite_of_malformed (h : fieldAt p 1 1 ≠ 0 ∨ x.writeOk (fieldAt p 0 1) (fieldAt p 2 2) (p.drop 4) = false) :
    x.recordWrite m p = x.respond m stsRange [] := by
  refine if_pos ?_
  rcases h with h | h <;> simp [h]

variable (h0 : fieldAt p 1 1 = 0) (hw : x.writeOk (fieldAt p 0 1) (fieldAt p 2 2) (p.drop 4) = true)
include h0 hw

theorem Lane.recordWrite_of_full (h : x.ses.room (fieldAt p 0 1, fieldAt p 2 2) = false) :
    x.recordWrite m p = x.respond m stsState [] :=
  (if_neg (by simp [h0, hw])).trans (if_pos (by simp [h]))

theorem Lane.recordWrite_of_room (h : x.ses.room (fieldAt p 0 1, fieldAt p 2 2) = true) :
    x.recordWrite m p =
      let r := p.drop 4
      let k := fieldAt r 6 1
      let staged : Session := x.ses.stage (samePart (fieldAt p 0 1) (fieldAt p 2 2) k)
        (.part (fieldAt p 0 1) (fieldAt p 2 2) k (fieldAt r 7 1) r)
      ({ x with ses := staged } : Lane).respond m stsOk [] :=
  (if_neg (by simp [h0, hw])).trans ((if_neg (by simp [h])).trans rfl)

end

/-! ### COMMIT and SESSION_CLOSE (R81, R85, R86) -/

theorem Lane.commitStart_of_passed {x : Lane} {m : MbId} (h : x.commitStatus = none) :
    x.commitStart m = { x with ses := { x.ses with job := some m } } := by
  rw [Lane.commitStart, h]

theorem Lane.commitStart_of_failed {x : Lane} {m : MbId} {st : Nat} (h : x.commitStatus = some st) :
    x.commitStart m = x.respond m st [] := by
  rw [Lane.commitStart, h]

/-- Settles O16: each command's branches, on the payload of a request that Gamar executes. -/
theorem sessionCommands : Obligations.SessionCommands := by
  refine fun s l x m p hx hp => ⟨fun g => ?_, fun g => ?_, fun g => ?_, fun g => ?_, fun g => ?_, fun g => ?_⟩
  · have hturn : ∀ {y}, x.sessionOpen m p = y → s.Turns (.sessionOpen l m) l y := fun e => State.turns_granted hx hp rfl g e
    refine ⟨fun pw hpw hh => ⟨fun hl h => ?_, fun hl hs hw => hturn ?_, fun hl => hturn ?_⟩,
      fun pw h hpw hh => hturn (Lane.sessionOpen_of_held hpw hh), fun h => hturn (Lane.sessionOpen_of_malformed h)⟩
    · exact ⟨x.freeBelow 65536, x.freeBelow_lt (by decide),
        hturn (Lane.sessionOpen_of_accepted hpw hh (Lane.checkPassword_of_right hl h))⟩
    · exact Lane.sessionOpen_of_refused hpw hh (Lane.checkPassword_of_wrong hl hs hw)
    · exact Lane.sessionOpen_of_refused hpw hh (Lane.checkPassword_of_locked hl)
  · have hturn : ∀ {st b}, x.recordRead p = (st, b) → s.Turns (.recordRead l m) l (x.respond m st b) := fun e =>
      State.turns_granted hx hp rfl g (by rw [e]; rfl)
    refine ⟨fun hi => hturn (Lane.recordRead_of_no_instance hi),
      fun hi ht => ⟨fun hn => hturn ?_, fun r hr => ⟨fun hk h0 => hturn ?_, fun h => hturn ?_⟩⟩,
      fun hi ht => ⟨fun hn => hturn ?_, fun y hy => ⟨fun hk h4 hlt => hturn ?_, fun h => hturn ?_⟩⟩⟩
    · rw [Lane.recordRead_of_record hi ht, hn]
    · rw [Lane.recordRead_of_record hi ht, hr]
      exact if_neg (by simp [hk, h0])
    · rw [Lane.recordRead_of_record hi ht, hr]
      exact if_pos (by simpa using h)
    · rw [Lane.recordRead_of_image hi ht, hn]
    · rw [Lane.recordRead_of_image hi ht, hy]
      exact if_neg (by simp [hk, h4, hlt])
    · rw [Lane.recordRead_of_image hi ht, hy]
      exact if_pos (by simpa [or_assoc] using h)
  · have hturn : ∀ {y}, x.recordWrite m p = y → s.Turns (.recordWrite l m) l y := fun e => State.turns_granted hx hp rfl g e
    exact ⟨fun h0 hw hr => hturn (Lane.recordWrite_of_room h0 hw hr), fun h => hturn (Lane.recordWrite_of_malformed h),
      fun h0 hw hr => hturn (Lane.recordWrite_of_full h0 hw hr)⟩
  · exact ⟨fun h => State.turns_granted hx hp rfl g (Lane.commitStart_of_passed h),
      fun st h => State.turns_granted hx hp rfl g (Lane.commitStart_of_failed h)⟩
  · exact State.turns_granted hx hp rfl g rfl
  · exact ⟨fun h => State.turns_granted hx hp rfl g (if_neg h), fun h => State.turns_granted hx hp rfl g (if_pos h)⟩

end Sys2Proof.Machine
end

section
/-! The start of a lane, its injection test and its test access port, and the pins that reset a Green (R73, R80, R376, R387, R396,
R505, R523, R526, R527, R541). -/

namespace Sys2Proof.Machine

/-! ### The start sequence (R376, R396, R505) -/

/-- The lane whose collector has passed its check and which holds its power (steps 2 and 3 of R505). -/
def Lane.holding (x : Lane) : Lane :=
  { x with fc := { x.fc with checked := true }, sys := { x.sys with pwrHold := true } }

section
variable {x : Lane} {o : StartOutcome} {seen : List LaneId}

theorem Lane.start_of_not_startable (h : x.startable = false) : x.start o seen = x := if_pos (by simp [h])

variable (hs : x.startable = true)
include hs

theorem Lane.start_of_failed_check (ho : o.selfCheckOk = false) : x.start o seen = x.stick :=
  (if_neg (by simp [hs])).trans (if_pos (by simp [ho]))

variable (ho : o.selfCheckOk = true)
include ho

theorem Lane.start_of_bad_clock (hc : x.clocksBad = true) : x.start o seen = { x with fc := { x.fc with checked := true } } :=
  (if_neg (by simp [hs])).trans ((if_neg (by simp [ho])).trans (if_pos hc))

theorem Lane.start_of_good_clocks (hc : x.clocksBad = false) : x.start o seen = x.holding.startFrom4 o seen := by
  have hc' : ¬({ x with fc := { x.fc with checked := true } } : Lane).clocksBad = true := by
    show ¬x.clocksBad = true
    simp [hc]
  exact (if_neg (by simp [hs])).trans ((if_neg (by simp [ho])).trans ((if_neg hc').trans rfl))

end

/-- A lane that has read its seal must test before it goes on (R396). -/
def Lane.mustTest (z : Lane) : Prop := z.tst.sealState = .failed ∨ (z.tst.quick = false ∧ z.sys.lstate = .init)

section
variable {y : Lane} {o : StartOutcome} {seen : List LaneId}

theorem Lane.startFrom4_of_second_test (h : y.readSeal.mustTest) (ht : y.readSeal.tst.tested = true) :
    y.startFrom4 o seen = y.readSeal.stick := by
  refine if_pos ?_
  rcases h with h | ⟨hq, hl⟩
  · simp [ht, h]
  · simp [ht, hq, hl]

variable (h : ¬(y.readSeal.mustTest ∧ y.readSeal.tst.tested = true))
include h

theorem Lane.startFrom4_of_first_test :
    y.startFrom4 o seen = if !y.readSeal.tst.quick && y.readSeal.sys.lstate = .init then y.readSeal.startTest
      else ((y.readSeal.injectionTest o.injection).gamarStart o).startEnd seen := by
  refine if_neg fun hc => h ?_
  simpa [Lane.mustTest, and_comm] using hc

theorem Lane.startFrom4_of_slow (hq : y.readSeal.tst.quick = false) (hl : y.readSeal.sys.lstate = .init) :
    y.startFrom4 o seen = y.readSeal.startTest := by
  rw [Lane.startFrom4_of_first_test h, if_pos (by simp [hq, hl])]

theorem Lane.startFrom4_of_quick (hq : y.readSeal.tst.quick = true ∨ y.readSeal.sys.lstate = .safe) :
    y.startFrom4 o seen = ((y.readSeal.injectionTest o.injection).gamarStart o).startEnd seen := by
  rw [Lane.startFrom4_of_first_test h, if_neg]
  rcases hq with hq | hq <;> simp [hq]

end

/-! ### The injection test (R387) -/

/-- What both comparators find in test window `n`. -/
def windowFound (i : Injection) (n : Nat) : Bool × Bool :=
  (finds i.main (routineSig i.primary) (routineSig i.shadow ^^^ (injected n).1.1),
    finds i.dup (routineSig i.primary) (routineSig i.shadow ^^^ (injected n).1.2))

theorem testWindowOk_iff (i : Injection) (n : Nat) :
    testWindowOk i (routineSig i.primary) (routineSig i.shadow) n = true ↔ windowFound i n = (injected n).2 := by
  simp [testWindowOk, windowFound, Prod.ext_iff]

theorem injectionOk_iff (i : Injection) : injectionOk i = true ↔ ∀ n, n < 68 → windowFound i n = (injected n).2 := by
  simp [injectionOk, injectionFails, ← testWindowOk_iff]

theorem injectionFails_eq_some (i : Injection) (k : Nat) :
    injectionFails i = some k ↔ k < 68 ∧ windowFound i k ≠ (injected k).2 ∧ ∀ n, n < k → windowFound i n = (injected n).2 := by
  simp [injectionFails, List.find?_range_eq_some, ← testWindowOk_iff, and_left_comm]

/-- A core's output is a store request. -/
def storesOut (o : CoreOut) : Bool :=
  match o.req with
  | some r => decide (r.kind = .store)
  | none => false

theorem quietOut_eq (o : CoreOut) : quietOut o = if storesOut o = true then { o with req := none } else o := by
  unfold quietOut storesOut
  cases o.req with
  | none => rfl
  | some r => by_cases h : r.kind = .store <;> simp [h]

theorem routineSig_eq (os : List CoreOut) :
    routineSig os = (List.range 64).foldl (fun g n =>
      let o := os.getD n idleOut
      misrStep g (coreBits (if storesOut o = true then { o with req := none } else o))) misrSeed := by
  simp only [routineSig, quietOut_eq]

theorem injected_words (n : Nat) : (injected n).1 =
    (if n = 0 ∨ n = 67 then (0, 0) else if n = 65 then (1, 0) else if n = 66 then (0, 1)
      else (1 <<< (n - 1), 1 <<< (n - 1)) : W64 × W64) := by
  simp only [injected, Bool.or_eq_true, decide_eq_true_eq, apply_ite Prod.fst]

theorem injected_findings (n : Nat) : (injected n).2 =
    if n = 0 ∨ n = 67 then (true, true) else if n = 65 then (false, true) else if n = 66 then (true, false) else (false, false) := by
  simp only [injected, Bool.or_eq_true, decide_eq_true_eq, apply_ite Prod.snd]

/-! ### The test access port and the output pins (R521, R526, R527) -/

section
variable {x : Lane}

theorem Lane.tapLoad_of_unpowered (h : x.sys.powered = false) (i : TapIr) : x.tapLoad i = x := if_pos (by simp [h])

theorem Lane.tapLoad_sample (h : x.sys.powered = true) : x.tapLoad .sample = { x with
    free := x.free + 1, tap := { ir := .sample, pins := false, scan := x.scanLevels, preload := x.preloadBits } } :=
  if_neg (by simp [h])

theorem Lane.tapLoad_of_ne_sample (h : x.sys.powered = true) {i : TapIr} (hi : i ≠ .sample) :
    x.tapLoad i = { x with tap := { x.tap with ir := i, pins := i = .extest && x.sys.mode = .workshop } } :=
  (if_neg (by simp [h])).trans (if_neg hi)

end

theorem Tap.identity_of_idcode {t : Tap} (h : t.ir = .idcode) : t.identity = some 0x13960A7B := by
  simp [Tap.identity, Tap.acts, h]

theorem Tap.identity_of_ne_idcode {t : Tap} (h : t.ir ≠ .idcode) : t.identity = none := by
  refine if_neg ?_
  rw [Tap.acts]
  split
  · decide
  · exact h

theorem Tap.acts_of_extest {t : Tap} (h : t.ir = .extest) : t.acts = if t.pins = true then .extest else .bypass := by
  cases hp : t.pins <;> simp [Tap.acts, h, hp]

section
variable {x : Lane} {p : OutPin}

theorem Lane.pin_of_unpowered (h : x.sys.powered = false) : x.pin p = .undriven := if_pos (by simp [h])

variable (h : x.sys.powered = true)
include h

theorem Lane.pin_of_function (ht : x.tap.pins = false) : x.pin p = x.outLevel p :=
  (if_neg (by simp [h])).trans (if_neg (by simp [ht]))

theorem Lane.pin_of_extest (ht : x.tap.pins = true) {k : Nat} (hk : drivePins.idxOf? p = some k) :
    x.pin p = .drive (x.tap.preload.getD k false) := by
  refine (if_neg (by simp [h])).trans ((if_pos ht).trans ?_)
  rw [hk]

end

theorem PinLevel.drive_ne_undriven (b : Bool) : PinLevel.drive b ≠ .undriven := by cases b <;> decide

theorem Lane.outLevel_faultN_eq_low (x : Lane) : x.outLevel .faultN = .low ↔ x.faultPin = true := by
  show PinLevel.drive (!x.faultPin) = .low ↔ _
  cases x.faultPin <;> decide

theorem Lane.outLevel_hirqN_eq_undriven (x : Lane) : x.outLevel .hirqN = .undriven ↔ x.awake = false := by
  show (if x.awake then PinLevel.drive (!x.hirqLow) else .undriven) = .undriven ↔ _
  cases x.awake <;> simp [PinLevel.drive_ne_undriven]

theorem Lane.outLevel_testPulse (x : Lane) (k : Fin 4) :
    x.outLevel (.testPulse k) = if x.inp.pulsing = true ∧ x.inp.low ≠ some k then .high else .low := by
  show PinLevel.drive (x.inp.pulsing && decide (x.inp.low ≠ some k)) = _
  simp [PinLevel.drive]

/-! ### The reset of a Green (R497, R523, R541) -/

theorem Green.afterReset_port (x : Green) (p : Fin 19) : x.afterReset.port p =
    if x.powered && !x.testPin && !x.hot then { Green.cold.port p with pma := (x.port p).pma }
    else { Green.cold.port p with pma := (x.port p).pma, st := .down } := vget_ofFn ..

theorem Green.afterReset_counters (x : Green) (p : Fin 19) (k : Fin 8) : vget (x.afterReset.port p).counters k = 0 := by
  rw [Green.afterReset_port]
  split <;> exact Green.cold_port_counters p k

theorem Green.afterReset_down {x : Green} (h : x.powered = false ∨ x.testPin = true ∨ x.hot = true) (p : Fin 19) :
    (x.afterReset.port p).st = .down := by
  rw [Green.afterReset_port, if_neg]
  rcases h with h | h | h <;> simp [h]

/-- The stored schedule, its CRC and the cascade record stand through a reset (R420, R472, R501). -/
theorem Green.afterReset_stored (x : Green) :
    x.afterReset.sched = x.sched ∧ x.afterReset.dlCrc = x.dlCrc ∧ x.afterReset.cascade = x.cascade := by
  simp only [Green.afterReset, and_self]

/-- Settles O60: the branches of the start sequence, the 68 windows of the injection test, the instructions and pins of the test
access port, and the reset of a Green. -/
theorem laneStartTestPortAndGreenPins : Obligations.LaneStartTestPortAndGreenPins := by
  refine ⟨fun s l x o hx => ?_, fun i k => ?_, fun s l x hx => ?_, fun s g x hx => ?_⟩
  · have hturn : ∀ {y}, x.start o (s.seenBy l) = y → s.Turns (.laneStart l o) l y := fun e =>
      State.turns_onLane rfl (by rw [hx]; exact e)
    refine ⟨fun h => hturn (Lane.start_of_not_startable h), fun hs => ?_⟩
    intro ok z w0 w tests
    refine ⟨fun ho => hturn (Lane.start_of_failed_check hs ho),
      fun ho => ⟨fun hc => hturn (Lane.start_of_bad_clock hs ho hc), fun hc => ?_⟩⟩
    have hstart : ∀ {y}, x.holding.startFrom4 o (s.seenBy l) = y → s.Turns (.laneStart l o) l y := fun e =>
      hturn ((Lane.start_of_good_clocks hs ho hc).trans e)
    exact ⟨fun h ht => hstart (Lane.startFrom4_of_second_test h ht), fun h =>
      ⟨fun hq hl => hstart (Lane.startFrom4_of_slow h hq hl), fun hq => hstart (Lane.startFrom4_of_quick h hq)⟩⟩
  · intro sig seen due found
    have hsig : ∀ os, sig os = routineSig os := fun os => (routineSig_eq os).symm
    have hseen : ∀ n, seen n = (injected n).1 := fun n => (injected_words n).symm
    have hdue : ∀ n, due n = (injected n).2 := fun n => (injected_findings n).symm
    have hfound : ∀ n, found n = windowFound i n := fun n => by
      simp only [found, windowFound, hsig, hseen]
    simp only [hfound, hdue]
    exact ⟨injectionOk_iff i, injectionFails_eq_some i k⟩
  · have hturn : ∀ {c i y}, exec c s = .next (s.onLane l fun z => z.tapLoad i) → x.tapLoad i = y → s.Turns c l y := fun hc e =>
      State.turns_onLane hc (by rw [hx]; exact e)
    refine ⟨fun h => ?_, fun h => ?_, State.turns_onLane rfl (by rw [hx]; rfl), fun t => ?_, fun p => ?_, ?_⟩
    · exact ⟨hturn rfl (Lane.tapLoad_of_ne_sample h (by decide)), hturn rfl (Lane.tapLoad_sample h),
        hturn rfl (Lane.tapLoad_of_ne_sample h (by decide)), hturn rfl (Lane.tapLoad_of_ne_sample h (by decide))⟩
    · have hidle := Lane.tapLoad_of_unpowered h
      simp only [List.forall_mem_cons, List.not_mem_nil, false_imp_iff, implies_true, and_true]
      exact ⟨hturn rfl (hidle .bypass), hturn rfl (hidle .sample), hturn rfl (hidle .idcode), hturn rfl (hidle .extest)⟩
    · exact ⟨Tap.identity_of_idcode, Tap.identity_of_ne_idcode, Tap.acts_of_extest⟩
    · exact ⟨Lane.pin_of_unpowered, Lane.pin_of_function, fun h ht k hk => Lane.pin_of_extest h ht hk⟩
    · exact ⟨x.outLevel_faultN_eq_low, PinLevel.drive_ne_undriven _, x.outLevel_hirqN_eq_undriven, x.outLevel_testPulse⟩
  · obtain ⟨hsched, hcrc, hcascade⟩ := x.afterReset_stored
    refine ⟨fun high => ⟨fun h => ?_, fun h => ?_⟩, ?_, fun h => ?_, fun h => ?_, hsched, hcrc, hcascade, rfl, rfl,
      x.afterReset_counters, Green.afterReset_down⟩
    · exact State.turns_onGreen rfl (by rw [hx]; exact if_neg h)
    · exact State.turns_onGreen rfl (by rw [hx]; exact if_pos h)
    · exact State.turns_onGreen rfl (by rw [hx])
    · exact State.turns_onGreen rfl (by rw [hx]; exact if_pos h)
    · exact State.turns_onGreen rfl (by rw [hx]; exact if_neg (by simp [h]))

end Sys2Proof.Machine
end

section
/-! The loss of the Greens, the hold and the steps of a rejoin (R92, R102 to R110, R374, R400): what each row does where it has its
occasion. -/

namespace Sys2Proof.Machine

/-! ### The loss of a Green and the hold (R92, R104, R105) -/

/-- The lane once Green `g` counts as lost, before the hold: event, report, holdover and mode (R92, R95, R112). -/
def Lane.greenGone (x : Lane) (g : GreenId) : Lane :=
  ((((x.onChan g fun c => { c with view := .lost, gotNow := false, gotPrev := false }).event
    (147 + 2 * g.val) 0).fault (102 + g.val) 0xFF 0 0 0).holdover).judgeMode

theorem Lane.greenLost_of_silent {x : Lane} {g : GreenId} (hv : (vget x.net.chan g).view = .present)
    (hn : (vget x.net.chan g).gotNow = false) (hm : greenLossCycles x.laneRec ≤ (vget x.net.chan g).missed) :
    x.greenLost g = if (x.greenGone g).bothLost = true ∧ (x.greenGone g).net.hold = .none then (x.greenGone g).holdStart
      else x.greenGone g := by
  have hs : x.greenSilent g = true := by simp [Lane.greenSilent, hv, hn, hm]
  refine (if_neg (by simp [hs])).trans (if_congr ?_ rfl rfl)
  simp only [Lane.greenGone, Bool.and_eq_true, decide_eq_true_eq]

theorem Lane.holdEnd_of_holding {x : Lane} (h : x.net.hold = .holding) :
    x.holdEnd = each (idxs 12) (fun nn y =>
      if y.stateUnhalted nn = 2 ∨ y.stateUnhalted nn = 3 ∨ y.stateUnhalted nn = 4 ∨ y.stateUnhalted nn = 6 then
        y.startProfile nn else y)
      ((({ x with
        net := { x.net with hold := .ended }
        eps := x.eps.map fun (e : Endpoint) => { e with kept := e.kept || e.delivers } } : Lane).event 159 0).holdRelease
          fun _ => true) := by
  refine (if_neg (by simp [h])).trans (each_congr (fun nn y => if_congr ?_ rfl rfl) _ _)
  simp only [Bool.or_eq_true, decide_eq_true_eq, or_assoc]

theorem Lane.rampEnd_of_ramp {x : Lane} {nn : AxisId} (h : (x.axis nn).profile = 2) :
    x.rampEnd nn = x.onAxis nn fun a => { a with rampDone := true } := if_pos h

/-! ### The steps of a rejoin (R108 to R110) -/

theorem Lane.autoClearNow_of_safe {x : Lane} (hl : x.sys.lstate = .safe) (ha : x.sys.autoClear = true)
    (hr : x.sys.rejoined = false) (hf : x.lk.failed = false) :
    x.autoClearNow = ({ x with sys := { x.sys with autoClear := false } } : Lane).faultClear.1 :=
  if_pos (by simp [hl, ha, hr, hf])

/-- The lane after the rotations of its used axes (R398, R400). -/
def Lane.rotated (x : Lane) (t : RuntimeResult) : Lane :=
  each (idxs 12) (fun nn y => if (y.axis nn).role ≠ .unused then y.testAxis nn (rotationOf t nn) else y) x

/-- The context of event 227 for a result of the runtime tests. -/
def Lane.rejoinBits (x : Lane) (t : RuntimeResult) : Nat := (x.rotated t).runtimeBits (injectionOk t.injection)

/-- The lane whose runtime tests have completed and are reported (R387, R400). -/
def Lane.rejoinTested (x : Lane) (t : RuntimeResult) : Lane :=
  ((x.rotated t).injectionTest t.injection).event 227 (x.rejoinBits t)

section
variable {x : Lane} (hl : x.sys.lstate = .test) (hr : x.sys.rejoining = true)
include hl hr

theorem Lane.rejoinLate_of_rejoining : x.rejoinLate = x.enterLaneSafe := if_pos (by simp [hl, hr])

theorem Lane.runtimeDone_of_rejoining (ht : x.sys.rejoinTime = false) (t : RuntimeResult) :
    x.runtimeDone t = if x.rejoinBits t ≠ 0 then (x.rejoinTested t).enterLaneSafe
      else if (x.rejoinTested t).sys.rejoining then
        ({ x.rejoinTested t with sys := { (x.rejoinTested t).sys with rejoinTime := true } } : Lane).rejoinTry
      else x.rejoinTested t := if_neg (by simp [hl, hr, ht])

end

/-- Settles O24: each row acts where its occasion holds, as the model's own steps of loss, hold and rejoin say. -/
theorem lossAndRejoin : Obligations.LossAndRejoin := by
  rintro s l x rfl
  refine ⟨fun g hv hn hm => State.turns_onLane rfl (Lane.greenLost_of_silent hv hn hm),
    fun h => State.turns_onLane rfl (Lane.holdEnd_of_holding h),
    fun nn h => State.turns_onLane rfl (Lane.rampEnd_of_ramp h),
    fun hl ha hr hf => State.turns_onLane rfl (Lane.autoClearNow_of_safe hl ha hr hf),
    fun hl hr => ⟨State.turns_onLane rfl (Lane.rejoinLate_of_rejoining hl hr), fun ht t => ⟨fun hb => ?_, fun hb hw => ?_⟩⟩⟩
  · exact State.turns_onLane rfl ((Lane.runtimeDone_of_rejoining hl hr ht t).trans (if_pos hb))
  · exact State.turns_onLane rfl ((Lane.runtimeDone_of_rejoining hl hr ht t).trans ((if_neg (not_not.2 hb)).trans (if_pos hw)))

end Sys2Proof.Machine
end

section
/-! The exchange and flag nodes (R100, R176, R220 to R224, R343 to R348): what a node that acts on the lane does, the coordinator
exchange, and the requests that a completed run has left. -/

namespace Sys2Proof.Machine

/-! ### The row of a node that acts on the lane (R189, R215) -/

theorem Lane.nodeRun_of_holds {x : Lane} {u : Fin 4} {j : UnitJob} {op : Nat} (hu : x.unit u = some j) (h : x.holds u op = true)
    (f : Lane → UnitJob → NodeCtx → Lane × Calc) :
    x.nodeRun u op f = (f x j (x.nodeCtx j)).1.nodeWrite u j (f x j (x.nodeCtx j)).2 := by
  simp only [Lane.nodeRun, hu, h, if_true]

/-- The row of an operation executes the node that the unit holds. -/
theorem State.turns_nodeIo {s : State} {c : Instr} {l : LaneId} {u : Fin 4} {j : UnitJob} {op : Nat}
    {f : Lane → UnitJob → NodeCtx → Lane × Calc} {y : Lane} {k : Calc} (h : exec c s = s.nodeIo l u op f)
    (hu : (s.lane l).unit u = some j) (ho : (s.lane l).holds u op = true) (e : f (s.lane l) j ((s.lane l).nodeCtx j) = (y, k)) :
    s.Turns c l (y.nodeWrite u j k) := State.turns_onLane h (by rw [Lane.nodeRun_of_holds hu ho, e])

/-! ### CKPT and FLAGCLR (R221, R224) -/

theorem ioCkpt_of_active {x : Lane} {j : UnitJob} {c : NodeCtx} (hr : (x.axis c.axis).role = .duplexActive) (ho : j.orphan = false) :
    ioCkpt x j c = (x.onSlot j.slot fun k => { k with run := k.run.map fun (r : Run) => { r with
      ckpt := r.ckpt ++ [(c.axis, j.node, (c.operand 0 c.len).map fun v => (stateWord 0 (Encl.of v)).1)] } },
      Calc.pure ((c.operand 0 c.len).map Elem.of)) := by
  simp only [ioCkpt, hr, ho, decide_true, Bool.not_false, Bool.and_self, if_true]

theorem ioCkpt_of_not_active {x : Lane} {j : UnitJob} {c : NodeCtx} (h : (x.axis c.axis).role ≠ .duplexActive ∨ j.orphan = true) :
    ioCkpt x j c = (x, Calc.pure ((c.operand 0 c.len).map Elem.of)) := by
  refine Prod.ext (if_neg ?_) rfl
  rcases h with h | h <;> simp [h]

/-- A FLAGCLR node keeps of each node's flags those that nodes of the slot have set in the same dispatch cycle (R176, R224). -/
theorem ioFlagclr_eq (x : Lane) (j : UnitJob) (c : NodeCtx) :
    let kept (i : Nat) : BitVec 3 :=
      x.dsp.setNow.foldl (fun v q => if q.1 = j.slot ∧ q.2.1 = i then v ||| q.2.2 else v) 0
    ioFlagclr x j c = (x.onSlot j.slot fun k => { k with
      state := (List.range k.nodes.length).foldl (fun w i =>
        let h := k.stateAt (nodeState (k.node i))
        w.set (nodeState (k.node i)) ((h &&& 0xFFF8FFFF) ||| BitVec.ofNat 32 ((hdrFlags h &&& kept i).toNat * 65536))) k.state },
      Calc.pure [Elem.of 0]) := by
  simp only [ioFlagclr, Bool.and_eq_true, decide_eq_true_eq]

/-! ### COORD (R223, R342 to R345) -/

/-- Posting to a partner changes the links, and no handover line. -/
theorem Lane.sendLink_eq (x : Lane) (k : LaneId) (cls : Fin 4) (b : LinkPayload) :
    ∃ links, x.sendLink k cls b = { x with links := links } ∧ ∀ i, (vget links i).line = (vget x.links i).line := by
  have hline : ∀ (f : Link → Link), (∀ z, (f z).line = z.line) →
      ∀ i, (vget (vmod x.links k f) i).line = (vget x.links i).line := by
    intro f hf i
    by_cases hi : i = k
    · subst hi; rw [vget_vmod_self, hf]
    · rw [vget_vmod_ne _ _ hi]
  unfold Lane.sendLink
  split
  · exact ⟨_, rfl, hline _ fun _ => rfl⟩
  · exact ⟨_, rfl, hline _ fun _ => rfl⟩

theorem Lane.sendPeers_eq (x : Lane) (r : Bytes) (cls : Fin 4) (b : LinkPayload) :
    ∃ links, x.sendPeers r cls b = { x with links := links } ∧ ∀ i, (vget links i).line = (vget x.links i).line := by
  unfold Lane.sendPeers
  generalize peersOf r = ps
  induction ps generalizing x with
  | nil => exact ⟨_, rfl, fun _ => rfl⟩
  | cons a ps ih =>
    obtain ⟨_, e, h⟩ := x.sendLink_eq (axisLane a) cls b
    obtain ⟨_, e', h'⟩ := ih (x.sendLink (axisLane a) cls b)
    rw [e] at e' h'
    exact ⟨_, by rw [← e', ← e]; rfl, fun i => (h' i).trans (h i)⟩

theorem Lane.sendPeers_idx (x : Lane) (r : Bytes) (cls : Fin 4) (b : LinkPayload) : (x.sendPeers r cls b).idx = x.idx := by
  obtain ⟨_, e, -⟩ := x.sendPeers_eq r cls b
  rw [e]

/-- What a lane has posted does not change whether it runs alone (R100). -/
theorem Lane.sendPeers_singleLane (x : Lane) (r : Bytes) (cls : Fin 4) (b : LinkPayload) :
    (x.sendPeers r cls b).singleLane = x.singleLane := by
  obtain ⟨links, e, h⟩ := x.sendPeers_eq r cls b
  rw [e]
  simp only [Lane.singleLane, Lane.partners, h]

/-- A COORD node on the lane: the values are posted first, and the partners' values read from the lane that has posted. -/
theorem Lane.coordinate_eq (x : Lane) (nn : AxisId) (xs : List Rat) (maxAge : Nat) :
    let r := x.axisRec nn
    let d := (x.axis nn).red
    let own := d.observing.isSome || d.excluded
    let posted := x.sendPeers r 0 (.coord (x.dev nn) d.observing.isSome d.excluded xs)
    let got := (peersOf r).map fun a => if x.singleLane then none else posted.partnerPresent nn maxAge (axisLane a)
    let v := coordView xs.length (bfpValue (BitVec.ofNat 32 (triTol r))) xs (got.getD 0 none) (got.getD 1 none)
    let out := if v.out = some 0 ∧ own = true then none else v.out
    let counts := coordCounts d.counts (x.idx :: (peersOf r).map axisLane) ((!own) :: got.map Option.isSome) out
    let z := posted.onAxis nn fun a => { a with red := { a.red with disagree := v.disagree, counts := counts } }
    x.coordinate nn xs maxAge = ((z.coordExclude nn (peersOf r) out).observe nn v.inBand, v.sel) := by
  simp only [Lane.coordinate, Lane.sendPeers_idx, Lane.sendPeers_singleLane, Bool.and_eq_true, decide_eq_true_eq]

theorem ioCoord_of_coordinate {x y : Lane} {c : NodeCtx} {sel : List Rat} (j : UnitJob)
    (h : x.coordinate c.axis (c.operand 0 c.len) (c.coefWord (nodeDesc c.word 1) 0).toNat = (y, sel)) :
    ioCoord x j c = (y, Calc.pure (sel.map Elem.of)) := by
  simp only [ioCoord, h]

theorem coordView_sel (n : Nat) (tol : Rat) (own a b : List Rat) :
    (coordView n tol own (some a) (some b)).sel =
      (List.range n).map (fun i => median3 (own.getD i 0) (a.getD i 0) (b.getD i 0)) ∧
    (coordView n tol own (some a) none).sel = (List.range n).map (fun i => (own.getD i 0 + a.getD i 0) / 2) ∧
    (coordView n tol own none (some b)).sel = (List.range n).map (fun i => (own.getD i 0 + b.getD i 0) / 2) ∧
    (coordView n tol own none none).sel = own := ⟨rfl, rfl, rfl, rfl⟩

/-! ### After the run (R220, R347, R348) -/

/-- A request that is not posted leaves the lane as it is; a posted one takes the next sequence and goes to the standby's lane. -/
theorem Lane.postOne_eq (x : Lane) (k : Fin 64) (q : AxisId × Nat × List W32) :
    let r := x.axisRec q.1
    let dst := axisLane (peer0 r)
    let final := (x.axis q.1).red.planned = .armed
    let seq := (x.axis q.1).red.ckptSeq + 1
    let values := (x.slot k).gather q.2.1
    x.postOne k q =
      if x.sys.mode = .shutdown ∨ (x.axis q.1).role ≠ .duplexActive ∨ (vget x.links dst).line = .r01 then x
      else (x.onAxis q.1 fun a => { a with red := { a.red with
          ckptSeq := seq
          planned := if final then .posted 0 else a.red.planned } }).sendLink dst 1 (.checkpoint (peer0 r)
            (ckptRecord (x.dev q.1) values.length q.2.2.length (b2n final) seq.toNat x.tm.glob.toNat q.2.2 values)) := by
  simp only [Lane.postOne, Bool.or_eq_true, decide_eq_true_eq, or_assoc]

theorem Lane.emitRaise_of_cons {x : Lane} {e : Nat × BitVec 16} {es : List (Nat × BitVec 16)} (hg : x.gamarRuns = true)
    (hq : x.dsp.emits = e :: es) :
    x.emitRaise = if natBit (emitEnable x.laneRec) e.1 then
      ({ x with dsp := { x.dsp with emits := es } } : Lane).event (240 + e.1) e.2.toNat
      else { x with dsp := { x.dsp with emits := es } } := by
  unfold Lane.emitRaise
  rw [if_neg (by simp [hg]), hq]
  rfl

/-- Settles O33: a held node executes, and the requests of a completed run and of EMIT are taken in their order. -/
theorem exchangeAndFlagNodes : Obligations.ExchangeAndFlagNodes := by
  refine ⟨?_, fun n tol own a b _ => coordView_sel n tol own a b, ?_, ?_⟩
  · rintro s l x u j rfl hu c nn xs pass
    refine ⟨fun ho => ⟨fun hr hn => State.turns_nodeIo rfl hu ho (ioCkpt_of_active hr hn),
      fun hr => State.turns_nodeIo rfl hu ho (ioCkpt_of_not_active hr)⟩, fun ho => ?_, fun ho => ?_⟩
    · intro r d own maxAge posted got v out counts z
      have e : (s.lane l).coordinate nn xs maxAge = ((z.coordExclude nn (peersOf r) out).observe nn v.inBand, v.sel) :=
        (s.lane l).coordinate_eq nn xs maxAge
      exact State.turns_nodeIo rfl hu ho (ioCoord_of_coordinate j e)
    · intro kept
      exact State.turns_nodeIo rfl hu ho (ioFlagclr_eq (s.lane l) j c)
  · rintro s l x k rfl post
    exact State.turns_onLane rfl (each_congr (fun q z => z.postOne_eq k q) _ _)
  · rintro s l x rfl e es hg hq z
    have h := Lane.emitRaise_of_cons hg hq
    exact ⟨fun hn => State.turns_onLane rfl (h.trans (if_pos hn)), fun hn => State.turns_onLane rfl (h.trans (if_neg (by simp [hn])))⟩

end Sys2Proof.Machine
end

section
/-! Safety connections and trunks (R104, R446 to R460, R476): watchdogs and stale producers, the hold of a lost trunk, and the PDUs
that endpoints consume and produce. -/

namespace Sys2Proof.Machine

theorem Lane.onEp_congr (x : Lane) (e : Fin 512) {f g : Endpoint → Endpoint} (h : f (x.ep e) = g (x.ep e)) : x.onEp e f = x.onEp e g := by
  have hv : vmod x.eps e f = vmod x.eps e g := congrArg (vset x.eps e) h
  simp only [Lane.onEp, hv]

/-! ### Watchdogs and stale producers (R452, R455 to R459) -/

theorem Lane.watched_iff (x : Lane) (e : Fin 512) : x.watched e = true ↔ connRole (x.connRec e) = 2 ∧ (x.ep e).watch = true ∧
    ((x.ep e).st = .running ∨ (x.ep e).st = .held ∨
      ((x.ep e).st = .waiting ∧ ∃ g : GreenId, (vget x.net.chan g).view ≠ .absent)) := by
  simp only [Lane.watched, Bool.and_eq_true, Bool.or_eq_true, decide_eq_true_eq, Bool.not_eq_true', List.all_eq_false, idxs,
    List.mem_finRange, true_and, and_assoc, or_assoc, ne_eq]

theorem Lane.watchdog_of_not_watched {x : Lane} {e : Fin 512} (h : x.watched e ≠ true) : x.watchdog e = x := if_pos (by simp [h])

theorem Lane.watchdog_of_watched {x : Lane} {e : Fin 512} (h : x.watched e = true) :
    x.watchdog e = if x.heldFor e then (x.onEp e fun v => { v with st := .held, watch := false, okRun := 0 }).connFault e
      else ((x.tlbForget e).onEp e fun v => { v with st := .failed, okRun := 0 }).connFault e := if_neg (by simp [h])

theorem Lane.goStale_eq (x : Lane) (e : Fin 512) : x.goStale e =
    if connRole (x.connRec e) = 1 ∧ refreshUs (x.connRec e) ≠ 0 ∧ (x.ep e).st ≠ .closed ∧ (x.ep e).complete ≠ none then
      x.onEp e fun v => { v with stale := true, st := if v.st = .running then .stale else v.st } else x := by
  refine if_congr ?_ rfl rfl
  simp only [Endpoint.isOpen, Bool.and_eq_true, decide_eq_true_eq, Option.isSome_iff_ne_none, and_assoc]

/-! ### The hold of a trunk (R104, R459, R476) -/

/-- The endpoints' states play no part in the records of connections and in the slots of a trunk. -/
theorem Lane.connRec_of_eps (x : Lane) (v : Vector Endpoint 512) (e : Fin 512) :
    ({ x with eps := v } : Lane).connRec e = x.connRec e := rfl

theorem Lane.trunkOwns_of_eps (x : Lane) (v : Vector Endpoint 512) (j : Fin 4) :
    ({ x with eps := v } : Lane).trunkOwns j = x.trunkOwns j := rfl

/-- The RUNNING consumers of slots that the trunk owns become HELD (R476). -/
theorem Lane.trunkMark_eq (x : Lane) (j : Fin 4) : x.trunkMark j = { x with eps := Vector.ofFn fun e : Fin 512 => { x.ep e with
    st := if (x.ep e).st = .running ∧ (decide (connRole (x.connRec e) = 2) && x.trunkOwns j (connSlot (x.connRec e))) = true
      then .held else (x.ep e).st } } := by
  simp only [Lane.trunkMark, Bool.and_eq_true, decide_eq_true_eq, and_assoc]

/-- A trunk that has delivered a frame, is not lost and has been silent for trunk_loss_cycles. -/
abbrev Lane.trunkSilent (x : Lane) (j : Fin 4) : Prop :=
  x.awake = true ∧ bit x.net.trunkSeen j.val = true ∧ bit x.net.trunkLost j.val = false ∧
    trunkLossCycles x.cascadeRec ≤ vget x.net.trunkMissed j

theorem Lane.trunkLoss_eq (x : Lane) (j : Fin 4) : x.trunkLoss j =
    if x.trunkSilent j then (x.onNet fun n => { n with
      trunkLost := bitPut n.trunkLost j.val true, trunkEnded := bitPut n.trunkEnded j.val false }).holdMark.trunkMark j
    else x := by
  unfold Lane.trunkLoss
  rw [← ite_not]
  refine if_congr ?_ rfl rfl
  simp only [Bool.or_eq_true, Bool.not_eq_true', decide_eq_true_eq, not_or, Bool.not_eq_false, Bool.not_eq_true, not_lt, and_assoc]

/-- Marking the consumers that the hold concerns changes neither their records nor the slots of the trunk. -/
theorem Lane.trunkLoss_of_silent {x : Lane} {j : Fin 4} (h : x.trunkSilent j) :
    let z := { x with net := { x.net with
      trunkLost := bitPut x.net.trunkLost j.val true, trunkEnded := bitPut x.net.trunkEnded j.val false } }
    let mine (e : Fin 512) : Bool := decide (connRole (z.connRec e) = 2) && z.trunkOwns j (connSlot (z.connRec e))
    let w := { z with eps := Vector.ofFn fun e : Fin 512 =>
      { z.ep e with inHold := (z.ep e).inHold || ((z.ep e).delivers && z.heldFor e) } }
    x.trunkLoss j = { w with eps := Vector.ofFn fun e : Fin 512 =>
      { w.ep e with st := if (w.ep e).st = .running ∧ mine e = true then .held else (w.ep e).st } } := by
  intro z mine w
  have hw : (x.onNet fun n => { n with
      trunkLost := bitPut n.trunkLost j.val true, trunkEnded := bitPut n.trunkEnded j.val false }).holdMark = w := rfl
  have hmine : ∀ e, (decide (connRole (w.connRec e) = 2) && w.trunkOwns j (connSlot (w.connRec e))) = mine e := fun e => by
    rw [show w.connRec e = z.connRec e from z.connRec_of_eps _ e, show w.trunkOwns j = z.trunkOwns j from z.trunkOwns_of_eps _ j]
  rw [Lane.trunkLoss_eq, if_pos h, hw, Lane.trunkMark_eq]
  simp only [hmine]

/-- A trunk's hold ends for the consumers of the slots that it owns, which the hold itself does not decide (R476). -/
theorem Lane.trunkHoldEnds_eq (x : Lane) (j : Fin 4) : x.trunkHoldEnds j =
    if x.awake = true ∧ bit x.net.trunkLost j.val = true ∧ bit x.net.trunkEnded j.val = false then
      (x.onNet fun n => { n with trunkEnded := bitPut n.trunkEnded j.val true }).holdRelease fun e =>
        x.trunkOwns j (connSlot (x.connRec e))
    else x := by
  unfold Lane.trunkHoldEnds
  rw [← ite_not]
  refine if_congr ?_ rfl rfl
  simp only [Lane.trunkHolds, Bool.or_eq_true, Bool.not_eq_true', Bool.and_eq_false_iff, Bool.not_eq_false', not_or, Bool.not_eq_false,
    Bool.not_eq_true]

/-- Translations that leave the TLB change nothing else. -/
theorem Lane.each_tlbForget_eq (p : Fin 512 → Lane → Bool) (es : List (Fin 512)) (x : Lane) :
    ∃ str, each es (fun e y => if p e y then y.tlbForget e else y) x = { x with str := str } := by
  induction es generalizing x with
  | nil => exact ⟨_, rfl⟩
  | cons e es ih =>
    have hcons : each (e :: es) (fun e y => if p e y then y.tlbForget e else y) x =
        each es (fun e y => if p e y then y.tlbForget e else y) (if p e x then x.tlbForget e else x) := rfl
    rw [hcons]
    split
    · exact ih (x.tlbForget e)
    · exact ih x

/-- A hold that ends fails the HELD consumers selected and takes the mark from the others, judged on the lane before it. -/
theorem Lane.holdRelease_eq (x : Lane) (sel : Fin 512 → Bool) :
    x.holdRelease sel =
      { each (idxs 512) (fun e y => if sel e && decide ((y.ep e).st = .held) then y.tlbForget e else y) x with
        eps := Vector.ofFn fun e : Fin 512 =>
          if sel e = false then x.ep e
          else if (x.ep e).st = .held then { x.ep e with st := .failed, okRun := 0, inHold := false }
          else { x.ep e with inHold := (x.ep e).inHold && x.heldFor e } } := by
  obtain ⟨str, h⟩ := Lane.each_tlbForget_eq (fun e y => sel e && decide ((y.ep e).st = .held)) (idxs 512) x
  simp only [Lane.holdRelease, h, Bool.not_eq_true']
  rfl

/-! ### Consuming (R449, R453 to R460) -/

theorem pduOffsets_succ (c : Bytes) (o n : Nat) : pduOffsets c o (n + 1) =
    if c.length < o + 20 ∨ fieldAt c o 2 = 0 then [] else o :: pduOffsets c (o + (16 + fieldAt c (o + 8) 1 + 3) / 4 * 4) n := by
  simp only [pduOffsets, pduSize, Bool.or_eq_true, decide_eq_true_eq]

theorem pduForm_eq (r c : Bytes) (o : Nat) :
    let n := fieldAt c (o + 8) 1
    let flags := fieldAt c (o + 9) 1
    let ver := fieldAt c (o + 10) 1 % 16
    let inside := o + 16 + n ≤ c.length ∧ n = connLength r
    let sound := fieldAt c (o + 12 + n) 4 =
      crc32c (leBytes 4 (producerId r) ++ leBytes 4 (consumerId r) ++ slice c o 12 ++ slice c (o + 12) n)
    let allowed := verMin r ≤ ver ∧ ver ≤ verMax r ∧ (ver = 1 → n ≤ 64 ∧ natBit flags 1 = false) ∧ flags < 4 ∧
      fieldAt c (o + 11) 1 = 0
    pduForm r c o = if ¬inside then some 5 else if ¬sound then some 1 else if ¬allowed then some 5 else none := by
  intro n flags ver inside sound allowed
  have hinside : (c.length < o + 16 + n || decide (n ≠ connLength r)) = true ↔ ¬inside := by
    simp only [inside, Bool.or_eq_true, decide_eq_true_eq, not_and_or, not_le, ne_eq]
  have hallowed : (ver < verMin r || verMax r < ver || (ver = 1 && (64 < n || natBit flags 1)) || flags / 4 ≠ 0 ||
      fieldAt c (o + 11) 1 ≠ 0) = true ↔ ¬allowed := by
    simp only [allowed, Bool.or_eq_true, Bool.and_eq_true, decide_eq_true_eq, not_and_or, not_le, not_lt, or_assoc, Classical.not_imp,
      Bool.not_eq_false, ne_eq]
    have hdiv : ¬flags / 4 = 0 ↔ 4 ≤ flags := by omega
    rw [hdiv]
  exact if_congr hinside rfl (if_congr Iff.rfl rfl (if_congr hallowed rfl rfl))

theorem Lane.pduCheck_of_malformed {x : Lane} {e : Fin 512} {c : Bytes} {o : Nat} {k : Fin 6}
    (h : pduForm (x.connRec e) c o = some k) (t : Int) : x.pduCheck e c o t = (.discard k, 0) := by
  simp only [Lane.pduCheck, h]

/-- What step 4 of R453 finds of the PDU at offset `o`: whether its sequence passes, and the PDUs it shows as lost (R454). -/
abbrev Lane.pduOrder (x : Lane) (e : Fin 512) (c : Bytes) (o : Nat) : Bool × Nat :=
  seqCheck (x.ep e).seq (natBit (fieldAt c (o + 9) 1) 0) (fieldAt c (o + 2) 2)

section
variable {x : Lane} {e : Fin 512} {c : Bytes} {o : Nat} (h : pduForm (x.connRec e) c o = none)
include h

theorem Lane.pduCheck_of_out_of_order (hq : (x.pduOrder e c o).1 = false) (t : Int) : x.pduCheck e c o t = (.discard 2, 0) := by
  simp only [Lane.pduCheck, h, hq, Bool.not_false, if_true]

theorem Lane.pduCheck_of_in_order (hq : (x.pduOrder e c o).1 = true) (t : Int) :
    let age := toSigned 32 (ofSigned 32 (t / 1000 - fieldAt c (o + 4) 4))
    x.pduCheck e c o t = (if x.tm.sync = .synced ∧ -10 ≤ age ∧ age ≤ maxAgeUs (x.connRec e) then .accept else .discard 4,
      (x.pduOrder e c o).2) := by
  intro age
  have hage : x.ageOk (x.connRec e) t (fieldAt c (o + 4) 4) = true ↔
      x.tm.sync = .synced ∧ -10 ≤ age ∧ age ≤ maxAgeUs (x.connRec e) := by
    simp only [Lane.ageOk, age, Bool.and_eq_true, decide_eq_true_eq, and_assoc]
  simp only [Lane.pduCheck, h, hq, Bool.not_true, Bool.false_eq_true, if_false, hage]
  split <;> rfl

end

theorem Endpoint.recovers_iff (q : Endpoint) (r : Bytes) :
    q.recovers r = true ↔ recoverMode r = 0 ∧ recoverCount r ≤ q.okRun + 1 := by
  simp only [Endpoint.recovers, Bool.and_eq_true, decide_eq_true_eq]

theorem Lane.pduAccept_of_failed {x : Lane} {e : Fin 512} (hst : (x.ep e).st = .failed)
    (h : ¬(recoverMode (x.connRec e) = 0 ∧ recoverCount (x.connRec e) ≤ (x.ep e).okRun + 1)) (c : Bytes) (o : Nat) :
    x.pduAccept e c o = x.onEp e fun _ => { (x.ep e).noteAccepted c o with
      okRun := if recoverMode (x.connRec e) = 0 then (x.ep e).okRun + 1 else 0 } := by
  have hr : ((x.ep e).noteAccepted c o).recovers (x.connRec e) = false :=
    Bool.eq_false_iff.2 fun hr => h ((Endpoint.recovers_iff _ _).1 hr)
  have hs : ((x.ep e).noteAccepted c o).st = .failed := hst
  exact if_pos (by simp [hr, hs])

theorem Lane.pduAccept_of_delivered {x : Lane} {e : Fin 512}
    (h : (x.ep e).st ≠ .failed ∨ (recoverMode (x.connRec e) = 0 ∧ recoverCount (x.connRec e) ≤ (x.ep e).okRun + 1))
    (c : Bytes) (o : Nat) :
    x.pduAccept e c o =
      let z := x.onEp e fun _ => { (x.ep e).noteAccepted c o with
        st := .running, okRun := 0, payload := some (slice c (o + 12) (connLength (x.connRec e))), inHold := false, kept := false }
      if connGroup (x.connRec e) < 16 then z.arrive (connGroup (x.connRec e)) e.val else z := by
  have hs : ((x.ep e).noteAccepted c o).st = (x.ep e).st := rfl
  refine if_neg ?_
  rcases h with h | h
  · simp [hs, h]
  · simp [(Endpoint.recovers_iff ((x.ep e).noteAccepted c o) (x.connRec e)).2 h]

theorem Lane.judgeOffers_of_none {x : Lane} {e : Fin 512} (h : (x.ep e).offer = none) : x.judgeOffers e = x := by
  simp only [Lane.judgeOffers, h]

theorem Endpoint.producing_eq (q : Endpoint) :
    q.producing = if q.complete = none then .waiting else if q.stale = true then .stale else .running := by
  simp only [Endpoint.producing, Option.isNone_iff_eq_none]

/-- What producer `p` makes of the offer `v` that its peer, endpoint `e`, has accepted (R460). -/
def Lane.judgeOffer (e : Fin 512) (v : Nat) (p : Fin 512) (y : Lane) : Lane :=
  let u := y.ep p
  if connRole (y.connRec p) = 1 ∧ peerEndpoint (y.connRec p) = e.val ∧ u.st ≠ .closed then
    if v < verMin (y.connRec p) then
      if u.st = .failed then y else (y.onEp p fun q => { q with st := .failed }).fault 104 0xFF 0 p.val 0
    else if u.st = .failed then y.onEp p fun q => { q with
      st := if q.complete = none then .waiting else if q.stale = true then .stale else .running }
    else y
  else y

theorem Lane.judgeOffers_of_some {x : Lane} {e : Fin 512} {v : Nat} (h : (x.ep e).offer = some v) :
    x.judgeOffers e = each (idxs 512) (Lane.judgeOffer e v) x := by
  simp only [Lane.judgeOffers, h]
  refine each_congr (fun p y => ?_) _ _
  have hc : (connRole (y.connRec p) ≠ 1 || peerEndpoint (y.connRec p) ≠ e.val || (y.ep p).st = .closed) = true ↔
      ¬(connRole (y.connRec p) = 1 ∧ peerEndpoint (y.connRec p) = e.val ∧ (y.ep p).st ≠ .closed) := by
    simp only [Bool.or_eq_true, decide_eq_true_eq, not_and_or, not_not, ne_eq, or_assoc]
  simp only [Lane.judgeOffer, Lane.connFault, Endpoint.producing_eq, hc, ite_not]

/-! ### Producing (R449, R452, R460) -/

/-- The newest offer of a producer's peer, where it has one (R460). -/
def Lane.peerOffer (x : Lane) (e : Fin 512) : Option Nat :=
  let peer : Fin 512 := fin (peerEndpoint (x.connRec e))
  if peerEndpoint (x.connRec e) < 512 ∧ connRole (x.connRec peer) = 2 then (x.ep peer).offer else none

theorem Lane.sendVersion_eq (x : Lane) (e : Fin 512) : x.sendVersion e = match x.peerOffer e with
    | some v => min (verMax (x.connRec e)) v
    | none => verMin (x.connRec e) := by
  simp only [Lane.sendVersion, Lane.peerOffer, Bool.and_eq_true, decide_eq_true_eq]
  split <;> rfl

theorem Lane.anyHold_iff (x : Lane) : x.anyHold = true ↔ x.net.hold = .holding ∨ ∃ j : Fin 4, x.trunkHolds j = true := by
  simp only [Lane.anyHold, idxs, Bool.or_eq_true, decide_eq_true_eq, List.any_eq_true, List.mem_finRange, true_and]

/-- The number of a producer's next PDU (R452). -/
def Endpoint.nextSeq (q : Endpoint) : W16 :=
  match q.seq with
  | some v => v + 1
  | none => 0

/-- The 12 header bytes of a producer's next PDU (R446, R452). -/
def Lane.pduHead (x : Lane) (e : Fin 512) : Bytes :=
  leBytes 2 (connId (x.connRec e)) ++ leBytes 2 (x.ep e).nextSeq.toNat ++ leBytes 4 (x.tm.glob.toNat / 1000) ++
    leBytes 1 (connLength (x.connRec e)) ++
    leBytes 1 ((if (x.ep e).seq = none then 1 else 0) +
      if x.sendVersion e = 2 ∧ (x.net.hold = .holding ∨ ∃ j : Fin 4, x.trunkHolds j = true) then 2 else 0) ++
    leBytes 1 (x.sendVersion e + 16 * x.advertised e) ++ [0]

theorem Lane.pduOf_eq (x : Lane) (e : Fin 512) (p : Bytes) :
    x.pduOf e p = x.pduHead e ++ p ++ leBytes 4 (pduCrc (x.connRec e) (x.pduHead e) p) := by
  have hflags : b2n (x.ep e).seq.isNone + 2 * b2n (x.sendVersion e = 2 && x.anyHold) =
      (if (x.ep e).seq = none then 1 else 0) +
        if x.sendVersion e = 2 ∧ (x.net.hold = .holding ∨ ∃ j : Fin 4, x.trunkHolds j = true) then 2 else 0 := by
    simp only [b2n, Option.isNone_iff_eq_none, Bool.and_eq_true, decide_eq_true_eq, Lane.anyHold_iff]
    split_ifs <;> rfl
  simp only [Lane.pduOf, Lane.pduHead, hflags]
  rfl

/-- Endpoint `e` is a producer of the slot that runs. -/
abbrev Lane.sends (x : Lane) (slot : Nat) (e : Fin 512) : Prop :=
  connRole (x.connRec e) = 1 ∧ connSlot (x.connRec e) = slot ∧ (x.ep e).st = .running

theorem Lane.packOne_of_none {x : Lane} {e : Fin 512} (h : (x.ep e).complete = none) (slot : Nat) (c : Bytes) :
    x.packOne slot c e = (x, c) := by
  simp only [Lane.packOne, h]

theorem Lane.packOne_of_some {x : Lane} {e : Fin 512} {p : Bytes} (h : (x.ep e).complete = some p) (slot : Nat) (c : Bytes) :
    x.packOne slot c e = if x.sends slot e then
      (x.onEp e fun y => { y.count 0 1 with seq := some (x.ep e).nextSeq, version := BitVec.ofNat 8 (x.sendVersion e) },
        c ++ slice (x.pduOf e p) 0 ((16 + connLength (x.connRec e) + 3) / 4 * 4))
      else (x, c) := by
  have hs : (connRole (x.connRec e) ≠ 1 || connSlot (x.connRec e) ≠ slot || (x.ep e).st ≠ .running) = true ↔ ¬x.sends slot e := by
    simp only [Lane.sends, Bool.or_eq_true, decide_eq_true_eq, not_and_or, or_assoc, ne_eq]
  simp only [Lane.packOne, h, hs, ite_not]
  exact if_congr Iff.rfl (Prod.ext (x.onEp_congr e rfl) rfl) rfl

/-- Settles O49: the timers act on their own endpoint or trunk, and PDUs are read, checked, delivered and packed as the rules say. -/
theorem connectionTimersAndTrunks : Obligations.ConnectionTimersAndTrunks := by
  refine ⟨?_, fun c o n => ⟨rfl, fun h => ?_, fun hl hz => ?_⟩, fun x slot c t => rfl, fun x e c o t => ?_,
    fun x e h => Lane.judgeOffers_of_none h, fun x e v h => Lane.judgeOffers_of_some h, fun x slot c e => ?_, fun x slot => rfl⟩
  · rintro s l x rfl
    refine ⟨fun e => ?_, fun j => ?_⟩
    · intro u watched
      have hw : (s.lane l).watched e = true ↔ watched := (s.lane l).watched_iff e
      have hstale := (s.lane l).goStale_eq e
      refine ⟨fun h hh => ?_, fun h hh => ?_, fun h => ?_, ?_⟩
      · exact State.turns_onLane rfl ((Lane.watchdog_of_watched (hw.2 h)).trans (if_pos hh))
      · exact State.turns_onLane rfl ((Lane.watchdog_of_watched (hw.2 h)).trans (if_neg (by simp [hh])))
      · exact State.turns_onLane rfl (Lane.watchdog_of_not_watched (hw.not.2 h))
      · exact ⟨fun h => State.turns_onLane rfl (hstale.trans (if_pos h)), fun h => State.turns_onLane rfl (hstale.trans (if_neg h))⟩
    · intro live holds
      have hends := (s.lane l).trunkHoldEnds_eq j
      exact ⟨fun h => State.turns_onLane rfl (Lane.trunkLoss_of_silent h),
        fun h => State.turns_onLane rfl (((s.lane l).trunkLoss_eq j).trans (if_neg h)),
        fun h => State.turns_onLane rfl (hends.trans ((if_pos h).trans (Lane.holdRelease_eq _ _))),
        fun h => State.turns_onLane rfl (hends.trans (if_neg h))⟩
  · rw [pduOffsets_succ, if_pos h]
  · rw [pduOffsets_succ, if_neg (by omega)]
  · intro r q n flags ver inside sound allowed age order
    refine ⟨pduForm_eq r c o, fun k h => Lane.pduCheck_of_malformed h t,
      fun h => ⟨fun hq => Lane.pduCheck_of_out_of_order h hq t, fun hq => Lane.pduCheck_of_in_order h hq t⟩, ?_⟩
    exact ⟨fun hs hb => Lane.pduAccept_of_failed hs hb c o, fun h => Lane.pduAccept_of_delivered h c o⟩
  · intro r q num peer offer ver shown held head sends
    have hver : x.sendVersion e = ver := x.sendVersion_eq e
    have hhead : x.pduHead e = head := by simp only [Lane.pduHead, hver]; rfl
    refine ⟨fun p hp h => ?_, fun h => ?_⟩
    · rw [Lane.packOne_of_some hp, if_pos h, Lane.pduOf_eq, hver, hhead]
      rfl
    · cases hp : (x.ep e).complete with
      | none => exact Lane.packOne_of_none hp slot c
      | some p => exact (Lane.packOne_of_some hp slot c).trans (if_neg (h.resolve_left (by simp [q, hp])))

end Sys2Proof.Machine
end

section
/-! A frame that arrives at a lane port (R92, R413, R416 to R419, R432, R435, R438, R441, R449, R476): which frames are taken, adopted,
valid or discarded, and what a valid one does. -/

namespace Sys2Proof.Machine

/-! ### The checks of a frame (R416, R438) -/

theorem frameForm_iff (g : GreenId) (f : CttFrame) : frameForm g f = true ↔ f.fcsOk = true ∧ f.ethertype = 0x88B5 ∧ f.vlan = false ∧
    f.version.toNat / 256 = 1 ∧ f.flags.toNat / 2 = 0 ∧ f.flags.toNat % 2 = g.val := by
  simp only [frameForm, Bool.and_eq_true, decide_eq_true_eq, Bool.not_eq_true', and_assoc]

theorem Lane.ownSchedule_iff (x : Lane) (f : CttFrame) : x.ownSchedule f = true ↔ f.scheduleId.toNat = scheduleId x.laneRec :=
  decide_eq_true_iff

theorem Lane.frameSlot_eq_some (x : Lane) (g : GreenId) (f : CttFrame) (t : Int) (e : SlotEntry) :
    let start := x.cycleStartOf f.cycle.toNat + e.startNs
    x.frameSlot g f t = some e ↔
      x.slotOf g f.slot.toNat = some e ∧ e.occurs f.cycle.toNat = true ∧ f.cycle.toNat < 64 ∧ f.kind.toNat = e.kind ∧
      f.length.toNat ≤ f.payload.length ∧ start - e.acceptNs ≤ t ∧ t ≤ start + e.lengthNs + 520 := by
  intro start
  unfold Lane.frameSlot
  cases hs : x.slotOf g f.slot.toNat with
  | none => simp
  | some d =>
    simp only [Option.ite_none_right_eq_some, Option.some.injEq, Bool.and_eq_true, decide_eq_true_eq]
    constructor
    · rintro ⟨⟨⟨⟨⟨⟨ho, hc⟩, hlo⟩, hhi⟩, hk⟩, hl⟩, rfl⟩
      exact ⟨rfl, ho, hc, hk, hl, hlo, hhi⟩
    · rintro ⟨rfl, ho, hc, hk, hl, hlo, hhi⟩
      exact ⟨⟨⟨⟨⟨⟨ho, hc⟩, hlo⟩, hhi⟩, hk⟩, hl⟩, rfl⟩

/-! ### The frame at the port (R413, R416, R438) -/

theorem Lane.frameIn_of_asleep {x : Lane} (h : x.awake = false) (g : GreenId) (f : CttFrame) (t : Int) : x.frameIn g f t = x :=
  if_pos (by simp [h])

section
variable {x : Lane} {g : GreenId} {f : CttFrame} (ha : x.awake = true)
include ha

theorem Lane.frameIn_of_status (hk : f.kind = 6) (t : Int) :
    x.frameIn g f t = if frameForm g f then x.statusHeard g f.payload else x.frameDrop g :=
  (if_neg (by simp [ha])).trans (if_pos hk)

variable (hk : f.kind ≠ 6)
include hk

theorem Lane.frameIn_of_adopted {e : SlotEntry} (he : x.adoptable g f = some e) (hs : x.adopts f = true) (t : Int) :
    x.frameIn g f t = (x.adopt g f e).frameValid g f (x.adopt g f e).tm.glob.toNat e := by
  refine (if_neg (by simp [ha])).trans ((if_neg hk).trans ?_)
  rw [he, hs]

theorem Lane.frameIn_of_not_adopted (h : x.adoptable g f = none ∨ x.adopts f = false) (t : Int) :
    x.frameIn g f t = if !frameForm g f || !x.ownSchedule f then x.frameDrop g
      else match x.frameSlot g f t with
        | some e => x.frameValid g f t e
        | none => x.frameDrop g := by
  refine (if_neg (by simp [ha])).trans ((if_neg hk).trans ?_)
  generalize x.adoptable g f = a at h ⊢
  generalize x.adopts f = b at h ⊢
  rcases h with rfl | rfl
  · rfl
  · cases a <;> rfl

variable (h : x.adoptable g f = none ∨ x.adopts f = false)
include h

theorem Lane.frameIn_of_bad_form (hf : ¬(frameForm g f = true ∧ x.ownSchedule f = true)) (t : Int) :
    x.frameIn g f t = x.frameDrop g := by
  rw [Lane.frameIn_of_not_adopted ha hk h, if_pos]
  simpa only [Bool.or_eq_true, Bool.not_eq_true', ← Bool.not_eq_true, not_and_or] using hf

variable (hf : frameForm g f = true) (ho : x.ownSchedule f = true)
include hf ho

theorem Lane.frameIn_of_no_slot {t : Int} (hs : x.frameSlot g f t = none) : x.frameIn g f t = x.frameDrop g := by
  rw [Lane.frameIn_of_not_adopted ha hk h, if_neg (by simp [hf, ho]), hs]

theorem Lane.frameIn_of_slot {t : Int} {e : SlotEntry} (hs : x.frameSlot g f t = some e) : x.frameIn g f t = x.frameValid g f t e := by
  rw [Lane.frameIn_of_not_adopted ha hk h, if_neg (by simp [hf, ho]), hs]

end

/-! ### What a valid frame does (R92, R417, R432, R435, R476) -/

theorem Lane.trunkHeard_eq (x : Lane) (g : GreenId) (owner : Nat) : x.trunkHeard g owner = each (idxs 4) (fun j y =>
    if owner < 16 ∧ trunkPort x.cascadeRec g j.val = owner then { y with net := { y.net with
      trunkSeen := bitPut y.net.trunkSeen j.val true, trunkNow := bitPut y.net.trunkNow j.val true
      trunkMissed := vset y.net.trunkMissed j 0, trunkLost := bitPut y.net.trunkLost j.val false
      trunkEnded := bitPut y.net.trunkEnded j.val false } } else y) x := by
  simp only [Lane.trunkHeard, Lane.onNet, Bool.and_eq_true, decide_eq_true_eq]

/-- The lane that has heard a valid frame's Green, trunk and sender. -/
def Lane.heardOf (x : Lane) (g : GreenId) (e : SlotEntry) : Lane :=
  ((x.greenHeard g).trunkHeard g e.owner).onChan g fun q => { q with
    lanesNow := if 16 ≤ e.owner then bitPut q.lanesNow (e.owner - 16) true else q.lanesNow }

theorem Lane.frameValid_sync {f : CttFrame} (h : f.kind = 4) (x : Lane) (g : GreenId) (t : Int) (e : SlotEntry) :
    x.frameValid g f t e = ((x.heardOf g e).syncHeard g f t).deliver f t := congrArg (Lane.deliver · f t) (if_pos h)

theorem Lane.frameValid_coldstart {f : CttFrame} (h : f.kind = 3) (x : Lane) (g : GreenId) (t : Int) (e : SlotEntry) :
    x.frameValid g f t e = ((x.heardOf g e).onNet fun n => { n with quiet := 0 }).deliver f t :=
  congrArg (Lane.deliver · f t) ((if_neg (by rw [h]; decide)).trans (if_pos h))

theorem Lane.frameValid_other {f : CttFrame} (h3 : f.kind ≠ 3) (h4 : f.kind ≠ 4) (x : Lane) (g : GreenId) (t : Int) (e : SlotEntry) :
    x.frameValid g f t e = (x.heardOf g e).deliver f t := congrArg (Lane.deliver · f t) ((if_neg h4).trans (if_neg h3))

/-- A valid SYNC frame, apart from what it measures: it marks a lower rank, and a master's takes MASTER and ends the quiet (R435). -/
def Lane.syncSeen (x : Lane) (f : CttFrame) : Lane :=
  let z := x.onNet fun n => { n with
    lowerHeard := n.lowerHeard || decide (f.rank.toNat < rank x.laneRec)
    master := n.master && !(decide (f.rank.toNat < rank x.laneRec) && syncMaster f.payload) }
  if syncMaster f.payload then z.onNet fun n => { n with quiet := 0 } else z

theorem Lane.syncSeen_eq (x : Lane) (f : CttFrame) : x.syncSeen f = { x with net := { x.net with
    lowerHeard := x.net.lowerHeard || decide (f.rank.toNat < rank x.laneRec)
    master := x.net.master && !decide (f.rank.toNat < rank x.laneRec ∧ syncMaster f.payload = true)
    quiet := if syncMaster f.payload = true then 0 else x.net.quiet } } := by
  simp only [Lane.syncSeen, Lane.onNet, Bool.decide_and, Bool.decide_eq_true]
  split <;> rfl

/-- What a channel takes from a SYNC frame that arrives `a` after its Green's stamp (R432). -/
def Channel.measured (q : Channel) (f : CttFrame) (a : Rat) : Channel :=
  let raw := fieldAt f.payload 0x18 4
  let dev : Rat := toSigned 32 raw
  let off : Rat := if raw = 0x80000000 then a - q.latest.getD 0 else (a - dev) / 2
  { q with
    delays := if raw = 0x80000000 then q.delays else (0, (a + dev) / 2) :: q.delays
    latest := if raw = 0x80000000 then q.latest else some ((a + dev) / 2)
    off := if syncMaster f.payload = true ∧ (∀ o, q.off = some o → f.rank.toNat < o.2.2) then
      some (off, decide (raw ≠ 0x80000000), f.rank.toNat) else q.off }

theorem Lane.onChan_congr (x : Lane) (g : GreenId) {f h : Channel → Channel} (e : f (vget x.net.chan g) = h (vget x.net.chan g)) :
    x.onChan g f = x.onChan g h := by
  have hv : vmod x.net.chan g f = vmod x.net.chan g h := congrArg (vset x.net.chan g) e
  simp only [Lane.onChan, hv]

/-- The SYNC frame's offset stands where it comes from the lowest rank heard in the cycle (R432). -/
theorem syncBetter_iff (q : Channel) (f : CttFrame) :
    (syncMaster f.payload && match q.off with | none => true | some o => decide (f.rank.toNat < o.2.2)) = true ↔
      syncMaster f.payload = true ∧ ∀ o, q.off = some o → f.rank.toNat < o.2.2 := by
  cases h : q.off <;> simp

theorem Channel.measured_of_undelayed {f : CttFrame} (h : fieldAt f.payload 0x18 4 = 0x80000000) (q : Channel) (a : Rat) :
    q.measured f a = if syncMaster f.payload = true ∧ ∀ o, q.off = some o → f.rank.toNat < o.2.2 then
      { q with off := some (a - q.latest.getD 0, false, f.rank.toNat) } else q := by
  simp only [Channel.measured, h, if_true, ne_eq, not_true, decide_false]
  split <;> rfl

theorem Channel.measured_of_delayed {f : CttFrame} (h : fieldAt f.payload 0x18 4 ≠ 0x80000000) (q : Channel) (a : Rat) :
    let dev : Rat := toSigned 32 (fieldAt f.payload 0x18 4)
    let d : Channel := { q with delays := (0, (a + dev) / 2) :: q.delays, latest := some ((a + dev) / 2) }
    q.measured f a = if syncMaster f.payload = true ∧ ∀ o, q.off = some o → f.rank.toNat < o.2.2 then
      { d with off := some ((a - dev) / 2, true, f.rank.toNat) } else d := by
  simp only [Channel.measured, h, if_false, ne_eq, not_false_eq_true, decide_true]
  split <;> rfl

theorem Lane.syncHeard_of_unstamped {f : CttFrame} (h : syncEgress f.payload = 0) (x : Lane) (g : GreenId) (t : Int) :
    x.syncHeard g f t = x.syncSeen f := if_pos h

theorem Lane.syncHeard_of_stamped {f : CttFrame} (h : syncEgress f.payload ≠ 0) (x : Lane) (g : GreenId) (t : Int) :
    x.syncHeard g f t = (x.syncSeen f).onChan g fun q => q.measured f ((t : Rat) - syncEgress f.payload) := by
  refine (if_neg h).trans ((x.syncSeen f).onChan_congr g ?_)
  by_cases hraw : fieldAt f.payload 0x18 4 = 0x80000000
  · rw [Channel.measured_of_undelayed hraw]
    simp only [syncDev, hraw, if_true, syncDelta]
    exact if_congr (syncBetter_iff _ f) rfl rfl
  · rw [Channel.measured_of_delayed hraw]
    simp only [syncDev, hraw, if_false, syncDelta]
    exact if_congr (syncBetter_iff _ f) rfl rfl

/-- A frame's content is delivered once (R417). -/
theorem Lane.deliver_of_copy {x : Lane} {f : CttFrame} {c : Nat × Nat × Bytes}
    (h : (x.net.copies.find? fun c => c.1 = f.slot.toNat && c.2.1 = f.cycle.toNat) = some c) (t : Int) :
    x.deliver f t = if c.2.2 = frameData f then x else x.onNet fun n => { n with copyMismatch := n.copyMismatch + 1 } := by
  simp only [Lane.deliver, Net.copyOf, h, Option.map_some]

theorem Lane.deliver_of_first {x : Lane} {f : CttFrame}
    (h : (x.net.copies.find? fun c => c.1 = f.slot.toNat && c.2.1 = f.cycle.toNat) = none) (t : Int) :
    let z := x.onNet fun n => { n with copies := n.copies ++ [(f.slot.toNat, f.cycle.toNat, frameData f)] }
    x.deliver f t = if f.kind = 1 then z.readContainer f.slot.toNat (frameData f) t
      else if f.kind = 2 then z.serviceHeard (frameData f) else z := by
  simp only [Lane.deliver, Net.copyOf, h, Option.map_none]

/-- Settles O55: the checks of a frame in their order, what a valid one marks and measures, and its delivery once. -/
theorem laneFrameRow : Obligations.LaneFrameRow := by
  refine ⟨?_, fun x g f t e => x.frameSlot_eq_some g f t e, fun x g f t e => ?_, fun x g f t => ?_, fun x f t => ?_⟩
  · rintro s l x g f t rfl
    intro c form own dropped
    have hturn : ∀ {y}, (s.lane l).frameIn g f t = y → s.Turns c l y := fun e => State.turns_onLane rfl e
    have hform : frameForm g f = true ↔ form := frameForm_iff g f
    have hown : (s.lane l).ownSchedule f = true ↔ own := (s.lane l).ownSchedule_iff f
    refine ⟨fun ha => ⟨fun hk hf => ?_, fun hk hf => ?_, fun hk => ⟨fun e he hs => hturn (Lane.frameIn_of_adopted ha hk he hs t),
      fun h => ⟨fun hn => ?_, fun hf ho hs => ?_, fun hf ho e hs => ?_⟩⟩⟩, fun ha => hturn (Lane.frameIn_of_asleep ha g f t)⟩
    · exact hturn ((Lane.frameIn_of_status ha hk t).trans (if_pos (hform.2 hf)))
    · exact hturn ((Lane.frameIn_of_status ha hk t).trans (if_neg (hform.not.2 hf)))
    · exact hturn (Lane.frameIn_of_bad_form ha hk h (by rwa [hform, hown]) t)
    · exact hturn (Lane.frameIn_of_no_slot ha hk h (hform.2 hf) (hown.2 ho) hs)
    · exact hturn (Lane.frameIn_of_slot ha hk h (hform.2 hf) (hown.2 ho) hs)
  · intro heard seen lead
    have hlead : lead = x.heardOf g e := congrArg (fun y : Lane => y.onChan g _) (seen.trunkHeard_eq g e.owner).symm
    rw [hlead]
    exact ⟨fun h => Lane.frameValid_sync h x g t e, fun h => Lane.frameValid_coldstart h x g t e,
      fun h3 h4 => Lane.frameValid_other h3 h4 x g t e⟩
  · intro master lower z a raw dev off
    have hz : x.syncSeen f = z := x.syncSeen_eq f
    refine ⟨fun h => (Lane.syncHeard_of_unstamped h x g t).trans hz, fun h => ?_⟩
    rw [Lane.syncHeard_of_stamped h, hz]
    exact z.onChan_congr g rfl
  · intro found data
    exact ⟨fun c h hd => (Lane.deliver_of_copy h t).trans (if_pos hd), fun c h hd => (Lane.deliver_of_copy h t).trans (if_neg hd),
      fun h => Lane.deliver_of_first h t⟩

end Sys2Proof.Machine
end

section
/-! Time, delay lists and compare units (R111 to R133, R225, R226): the PWM cycle of a tick, and the requests that reach a list or a
unit. -/

namespace Sys2Proof.Machine

/-! ### The PWM cycle (R121, R128, R131 to R133) -/

theorem Lane.releaseCycle_eq (x : Lane) : x.releaseCycle =
    if x.keeperStopped ∨ x.inSlice 9 = true then x else each (idxs 16) (fun d y => y.dlCycle d) x := by
  simp only [Lane.releaseCycle, Bool.or_eq_true]

theorem Lane.hitCycle_eq (x : Lane) : x.hitCycle =
    if x.keeperStopped ∨ x.inSlice 9 = true then x else each (idxs 24) (fun u y => y.cuCycle u) x := by
  simp only [Lane.hitCycle, Bool.or_eq_true]

/-- The PWM cycle that begins: time, arrivals, axes, auxiliary outputs, masks, emulation outputs (R111, R112, R116). -/
def Lane.nextCycle (x : Lane) : Lane :=
  let y := each (idxs 12) (fun nn y => y.axisTick nn) (if x.inSlice 9 then x else { x with tm := x.tm.tick }).arriveTick
  each (idxs 2) (fun e y => y.emulTick e) (each (idxs 12) (fun nn y => y.takeMask nn) (each (idxs 8) (fun u y => y.auxTick u) y))

theorem Lane.tick_of_clock {x : Lane} (ha : x.awake = true) (hc : x.clockOn 3 = true) : x.tick =
    (each (idxs 12) (fun nn y => y.fbCycle nn) (each (idxs 12) (fun nn y => y.supSay nn) x).releaseCycle.hitCycle).nextCycle :=
  if_neg (by simp [ha, hc])

theorem Lane.cuCycle_of_fresh {x : Lane} {u : Fin 24} (h : (vget x.cus u).fresh = true) :
    x.cuCycle u = x.onCu u fun c => { c with fresh := false } := if_pos h

/-! ### Requests (R127, R128, R131, R226) -/

theorem Lane.onDl_onDl (x : Lane) (d : Fin 16) (f g : DelayList → DelayList) : (x.onDl d f).onDl d g = x.onDl d fun z => g (f z) := by
  simp [Lane.onDl, vmod, vset, vget]

theorem Lane.onCu_onCu (x : Lane) (u : Fin 24) (f g : CompareUnit → CompareUnit) :
    (x.onCu u f).onCu u g = x.onCu u fun c => g (f c) := by
  simp [Lane.onCu, vmod, vset, vget]

section
variable {x : Lane} {d : Fin 16} {key : ReqKey} {r : DlReq} {rs : List (ReqKey × DlReq)} (h : (vget x.dls d).inflight = (key, r) :: rs)
include h

theorem Lane.dlRequest_of_cons : x.dlRequest d =
    if (vget x.dls d).resort.isSome then (x.onDl d fun z => { z with inflight := rs }).onDl d fun z => { z with held := z.held ++ [r] }
    else (x.onDl d fun z => { z with inflight := rs }).dlApply d r := by
  simp only [Lane.dlRequest, Lane.dl, h, Lane.onDl_dl_self]

/-- A request that reaches the list during a re-sort is held (R127). -/
theorem Lane.dlRequest_of_resort (hs : (vget x.dls d).resort.isSome = true) :
    x.dlRequest d = x.onDl d fun z => { z with inflight := rs, held := z.held ++ [r] } :=
  (Lane.dlRequest_of_cons h).trans ((if_pos hs).trans (x.onDl_onDl d _ _))

theorem Lane.dlRequest_of_no_resort (hs : (vget x.dls d).resort = none) :
    x.dlRequest d = (x.onDl d fun z => { z with inflight := rs }).dlApply d r :=
  (Lane.dlRequest_of_cons h).trans (if_neg (by simp [hs]))

end

section
variable {x : Lane} {u : Fin 24} {key : ReqKey} {rs : List (ReqKey × CmpReq)}

theorem Lane.cuRequest_of_disarm (h : (vget x.cus u).inflight = (key, .disarm) :: rs) :
    x.cuRequest u = x.onCu u fun c => { c with
      inflight := rs, armed := false, fire := none, waitBehind := false, fresh := false } := by
  simp only [Lane.cuRequest, Lane.cu, h]
  exact x.onCu_onCu u _ _

theorem Lane.cuRequest_of_armAbs {k : Int} {i : Option (Nat × Nat)} (h : (vget x.cus u).inflight = (key, .armAbs k i) :: rs) :
    x.cuRequest u = (x.onCu u fun c => { c with inflight := rs }).cuArm u k i := by
  simp only [Lane.cuRequest, Lane.cu, h]

/-- A relative target is taken from the unit's present key (R225). -/
theorem Lane.cuRequest_of_armRel {off : Int} {i : Option (Nat × Nat)} (h : (vget x.cus u).inflight = (key, .armRel off i) :: rs) :
    let z := x.onCu u fun c => { c with inflight := rs }
    x.cuRequest u = z.cuArm u (z.cuPresent u + off) i := by
  simp only [Lane.cuRequest, Lane.cu, h]

end

/-- A re-sort whose count has run out makes the skipped entries due with LATE and lets the held requests act (R127). -/
theorem Lane.dlResorted_of_over {x : Lane} {d : Fin 16} {before after : Int} (h : (vget x.dls d).resort = some (0, before, after)) :
    x.dlResorted d = each (vget x.dls d).held (fun r y => y.dlApply d r) (x.onDl d fun z => { z with
      resort := none, held := []
      entries := z.entries.map fun (e : DlEntry) =>
        if inSpan (x.dlSrc d) (x.dlRev d) before after e.key then { e with due := true, late := true } else e }) := by
  simp only [Lane.dlResorted, Lane.dl, h]

/-- Settles O25: a tick ends one PWM cycle and begins the next, and each request in flight acts on its list or unit. -/
theorem timekeeperRequests : Obligations.TimekeeperRequests := by
  rintro s l x rfl
  refine ⟨fun ha hc _ => ?_, fun d key r rs h => ⟨fun hs => ?_, fun hs => ?_⟩, fun u key rs => ?_, fun d before after h => ?_⟩
  · intro v d h r step tm a b
    have hd : v.releaseCycle = d := v.releaseCycle_eq
    have hh : d.hitCycle = h := d.hitCycle_eq
    refine ⟨State.turns_onLane rfl ((Lane.tick_of_clock ha hc).trans ?_), fun y u hf => Lane.cuCycle_of_fresh hf⟩
    exact congrArg (fun y => (each (idxs 12) (fun nn z => z.fbCycle nn) y).nextCycle) ((congrArg Lane.hitCycle hd).trans hh)
  · exact State.turns_onLane rfl (Lane.dlRequest_of_resort h hs)
  · exact State.turns_onLane rfl (Lane.dlRequest_of_no_resort h hs)
  · exact ⟨fun h => State.turns_onLane rfl (Lane.cuRequest_of_disarm h),
      fun k i h => State.turns_onLane rfl (Lane.cuRequest_of_armAbs h),
      fun off i h => State.turns_onLane rfl (Lane.cuRequest_of_armRel h)⟩
  · exact State.turns_onLane rfl (Lane.dlResorted_of_over h)

end Sys2Proof.Machine
end

section
/-! The scheduling nodes (R128, R131, R202, R225, R226): where a request stands among those in flight, where its key starts, and
what each node sends. -/

namespace Sys2Proof.Machine

/-! ### Requests in flight (R226) -/

/-- A request stands behind those whose cycle, slot and node are not later, and in front of the others. -/
theorem insertReq_eq {α : Type} (q : ReqKey × α) (rs : List (ReqKey × α)) :
    insertReq q rs = rs.takeWhile (fun y => y.1.le q.1) ++ q :: rs.dropWhile (fun y => y.1.le q.1) := by
  induction rs with
  | nil => rfl
  | cons r rs ih => cases h : r.1.le q.1 <;> simp [insertReq, h, ih]

theorem Lane.dlSend_eq (x : Lane) (j : UnitJob) (d : Fin 16) (q : DlReq) :
    x.dlSend j d q = { x with dls := vmod x.dls d fun z => { z with
      inflight := z.inflight.takeWhile (fun y => y.1.le (x.reqKey j)) ++
        (x.reqKey j, q) :: z.inflight.dropWhile (fun y => y.1.le (x.reqKey j)) } } := by
  simp only [Lane.dlSend, Lane.onDl, insertReq_eq]

theorem Lane.cuSend_eq (x : Lane) (j : UnitJob) (u : Fin 24) (q : CmpReq) :
    x.cuSend j u q = { x with cus := vmod x.cus u fun z => { z with
      inflight := z.inflight.takeWhile (fun y => y.1.le (x.reqKey j)) ++
        (x.reqKey j, q) :: z.inflight.dropWhile (fun y => y.1.le (x.reqKey j)) } } := by
  simp only [Lane.cuSend, Lane.onCu, insertReq_eq]

/-! ### Where a key starts (R225) -/

section
variable {x : Lane} {j : UnitJob} {c : NodeCtx} {src : Nat}

/-- The trigger's time stamp on the time of a time source. -/
def Lane.stampKey (x : Lane) (j : UnitJob) (src : Nat) : Int :=
  if src = 0 then (j.trig.time + (x.tm.glob - x.tm.loc)).toNat else j.trig.time.toNat

theorem Lane.keyBase_of_present (h : nodeOpt c.word % 4 = 0) : x.keyBase j c src = .present := by
  simp only [Lane.keyBase, h]

theorem Lane.keyBase_of_stamp (h : nodeOpt c.word % 4 = 1) (ha : srcAngle src = false) :
    x.keyBase j c src = .at (x.stampKey j src) := by
  simp only [Lane.keyBase, h, ha, Bool.false_eq_true, if_false, Lane.stampKey]
  split <;> rfl

theorem Lane.keyBase_of_later (h : 2 ≤ nodeOpt c.word % 4) :
    x.keyBase j c src = if srcAngle src then .at 0 else .bad := by
  unfold Lane.keyBase
  split
  · omega
  · omega
  · rfl

theorem Lane.keyBase_of_zero (h : 2 ≤ nodeOpt c.word % 4) (ha : srcAngle src = true) : x.keyBase j c src = .at 0 :=
  (Lane.keyBase_of_later h).trans (if_pos ha)

theorem Lane.keyBase_of_undefined
    (h : (nodeOpt c.word % 4 = 1 ∧ srcAngle src = true) ∨ (2 ≤ nodeOpt c.word % 4 ∧ srcAngle src = false)) :
    x.keyBase j c src = .bad := by
  rcases h with ⟨h, ha⟩ | ⟨h, ha⟩
  · simp only [Lane.keyBase, h, ha, if_true]
  · exact (Lane.keyBase_of_later h).trans (if_neg (by simp [ha]))

/-! ### What the nodes send (R225, R226) -/

theorem ioDlInsert_of_present (h : x.keyBase j c (x.dlSrc (fin (nodeResource c.word))) = .present) :
    let d : Fin 16 := fin (nodeResource c.word)
    let tag := intWithin (c.elem (nodeDesc c.word 0) 1) 0 65535
    ioDlInsert x j c = (x.dlSend j d (.insertRel (keyStep (x.dlSrc d) (c.one 0)) (BitVec.ofInt 16 tag.1) (some (j.slot.val, j.node))),
      { out := [Elem.of (replyOf c.slot j.node)], st := [], flags := tag.2 }) := by
  simp only [ioDlInsert, h]
  rfl

theorem ioDlInsert_of_at {k : Int} (h : x.keyBase j c (x.dlSrc (fin (nodeResource c.word))) = .at k) :
    let d : Fin 16 := fin (nodeResource c.word)
    let tag := intWithin (c.elem (nodeDesc c.word 0) 1) 0 65535
    ioDlInsert x j c = (x.dlSend j d (.insertAbs (k + keyStep (x.dlSrc d) (c.one 0)) (BitVec.ofInt 16 tag.1) (some (j.slot.val, j.node))),
      { out := [Elem.of (replyOf c.slot j.node)], st := [], flags := tag.2 }) := by
  simp only [ioDlInsert, h]
  rfl

theorem ioDlInsert_of_bad (h : x.keyBase j c (x.dlSrc (fin (nodeResource c.word))) = .bad) :
    let tag := intWithin (c.elem (nodeDesc c.word 0) 1) 0 65535
    ioDlInsert x j c = (x, { out := [Elem.bad (replyOf c.slot j.node)], st := [], flags := tag.2 }) := by
  simp only [ioDlInsert, h]
  rfl

theorem ioCmpArm_of_present (h : x.keyBase j c (cmpSource (x.cmpRec (fin (nodeResource c.word)))) = .present) :
    let u : Fin 24 := fin (nodeResource c.word)
    ioCmpArm x j c = (x.cuSend j u (.armRel (keyStep (cmpSource (x.cmpRec u)) (c.one 0)) (some (j.slot.val, j.node))),
      Calc.pure [Elem.of (replyOf c.slot j.node)]) := by
  simp only [ioCmpArm, h]

theorem ioCmpArm_of_at {k : Int} (h : x.keyBase j c (cmpSource (x.cmpRec (fin (nodeResource c.word)))) = .at k) :
    let u : Fin 24 := fin (nodeResource c.word)
    ioCmpArm x j c = (x.cuSend j u (.armAbs (k + keyStep (cmpSource (x.cmpRec u)) (c.one 0)) (some (j.slot.val, j.node))),
      Calc.pure [Elem.of (replyOf c.slot j.node)]) := by
  simp only [ioCmpArm, h]

theorem ioCmpArm_of_bad (h : x.keyBase j c (cmpSource (x.cmpRec (fin (nodeResource c.word)))) = .bad) :
    ioCmpArm x j c = (x, Calc.pure [Elem.bad (replyOf c.slot j.node)]) := by
  simp only [ioCmpArm, h]

end

/-- Settles O34: a held node sends its request from the base of its key, into its place among those in flight. -/
theorem schedulingNodes : Obligations.SchedulingNodes := by
  rintro s l x u j rfl hu c a d k opt who was key toList toUnit answer refused stamp
  have toList_eq : ∀ q, (s.lane l).dlSend j d q = toList q := (s.lane l).dlSend_eq j d
  have toUnit_eq : ∀ q, (s.lane l).cuSend j k q = toUnit q := (s.lane l).cuSend_eq j k
  refine ⟨fun ho => ?_, fun ho => ?_, fun ho => ?_, fun ho => ?_⟩
  · intro src step tag t
    have sends : ∀ {q}, ioDlInsert (s.lane l) j c = ((s.lane l).dlSend j d q, { out := [Elem.of was], st := [], flags := tag.2 }) →
        s.Turns (.dlInsert l u) l (answer (toList q) tag.2) :=
      fun {q} e => State.turns_nodeIo rfl hu ho (e.trans (congrArg (·, _) (toList_eq q)))
    exact ⟨fun h => sends (ioDlInsert_of_present (Lane.keyBase_of_present h)),
      fun h ha => sends (ioDlInsert_of_at (Lane.keyBase_of_stamp h ha)),
      fun h ha => sends (ioDlInsert_of_at (Lane.keyBase_of_zero h ha)),
      fun h => State.turns_nodeIo rfl hu ho (ioDlInsert_of_bad (Lane.keyBase_of_undefined h))⟩
  · exact State.turns_nodeIo rfl hu ho (congrArg (·, _) (toList_eq _))
  · intro src step
    have sends : ∀ {q}, ioCmpArm (s.lane l) j c = ((s.lane l).cuSend j k q, Calc.pure [Elem.of was]) →
        s.Turns (.cmpArm l u) l (answer (toUnit q) 0) :=
      fun {q} e => State.turns_nodeIo rfl hu ho (e.trans (congrArg (·, _) (toUnit_eq q)))
    exact ⟨fun h => sends (ioCmpArm_of_present (Lane.keyBase_of_present h)),
      fun h ha => sends (ioCmpArm_of_at (Lane.keyBase_of_stamp h ha)),
      fun h ha => sends (ioCmpArm_of_at (Lane.keyBase_of_zero h ha)),
      fun h => State.turns_nodeIo rfl hu ho (ioCmpArm_of_bad (Lane.keyBase_of_undefined h))⟩
  · exact State.turns_nodeIo rfl hu ho (congrArg (·, _) (toUnit_eq _))

end Sys2Proof.Machine
end

section
/-! The carriers (R228 to R249, R289, R335): when the rows of a carrier act, and what a period start, a period mid and the ends of
the COT intervals do. -/

namespace Sys2Proof.Machine

/-! ### A member that a period start drops (R352, R354) -/

theorem each_of_fixed {α β : Type} {f : α → β → β} {b : β} (h : ∀ a, f a b = b) (xs : List α) : each xs f b = b := by
  induction xs with
  | nil => rfl
  | cons a xs ih => exact (congrArg (each xs f) (h a)).trans ih

theorem Lane.afterDrop_eq (y x : Lane) : y.afterDrop x = each (idxs 12) (fun k z =>
    if (x.axis k).role = .duplexActive ∧ (z.axis k).role = .duplexStandby then z.takeoverCheck k false else z) y := by
  simp only [Lane.afterDrop, Bool.and_eq_true, decide_eq_true_eq]

/-- A row that changes nothing has dropped no member. -/
theorem Lane.afterDrop_self (x : Lane) : x.afterDrop x = x := by
  rw [Lane.afterDrop_eq]
  refine each_of_fixed (fun k => ?_) _
  refine if_neg ?_
  rintro ⟨h, h'⟩
  exact absurd (h.symm.trans h') (by decide)

/-! ### The carrier of an axis (R234 to R236, R248, R249, R335) -/

section
variable {x : Lane} {nn : AxisId}

theorem Lane.carrierOn_of (hh : x.sys.halted = false) (hr : (x.axis nn).pwm.running = true) (hc : x.clockOn 3 = true)
    (hs : x.inSlice 12 = false) : x.carrierOn nn = true := by simp [Lane.carrierOn, hh, hr, hc, hs]

theorem Lane.axisPeriod_of_not_due (h : carrierVar (carrier (x.axisRec nn)) = true ∨ x.periodDue nn = false) :
    x.axisPeriod nn = x := if_neg (by rcases h with h | h <;> simp [h])

variable (on : x.carrierOn nn = true)
include on

theorem Lane.axisPeriod_of_due (hv : carrierVar (carrier (x.axisRec nn)) = false) (hd : x.periodDue nn = true) :
    x.axisPeriod nn = x.fixedStart nn := if_pos (by simp [on, hv, hd])

theorem Lane.axisMid_of_due (hv : carrierVar (carrier (x.axisRec nn)) = false) (hw : (x.axis nn).pwm.firstWait = false)
    (hl : (x.axis nn).pwm.length ≠ 0) (hm : (x.axis nn).pwm.since % (x.axis nn).pwm.length = (x.axis nn).pwm.length / 2) :
    x.axisMid nn = ((x.event (4 * nn.val + 1) 0).takeSets nn 2).ssiEvent nn 1 :=
  if_neg (by simp [Lane.midDue, on, hv, hw, hl, hm])

theorem Lane.inPeriod_of {p : Phase} {fixed : Bool} (hv : carrierVar (carrier (x.axisRec nn)) = true)
    (hw : (x.axis nn).pwm.firstWait = false) (hf : vget (x.axis nn).pwm.fixedInt p = fixed) : x.inPeriod nn p fixed = true := by
  simp [Lane.inPeriod, on, hv, hw, hf]

/-- A crossing during a pulsed zero vector cuts the pulse (R335). -/
theorem Lane.axisCross_of_zeroPulse (hv : carrierVar (carrier (x.axisRec nn)) = false)
    (hz : zeroPulse (x.axisRec nn) (x.axis nn).pwm = true) (hm : minPulseNs (x.axisRec nn) ≤ 5 * (x.axis nn).pwm.since) (p : Phase) :
    x.axisCross nn p = (x.onAxis nn fun a => { a with pwm := { a.pwm with pulseCut := true } }).pwmDrive nn :=
  (if_neg (by simp [Lane.inPeriod, hv])).trans (if_pos (by simp [on, hz, hm]))

end

/-! ### COT and COFT periods (R235, R236, R289) -/

/-- A phase enters its fixed interval with its shadow as duty and threshold (R235). -/
def Lane.enterFixed (x : Lane) (nn : AxisId) (p : Phase) : Lane :=
  (x.onAxis nn fun a => { a with pwm := { a.pwm with
    duty := vset a.pwm.duty p (vget a.pwm.shadow p), thr := vset a.pwm.thr p (vget a.pwm.shadow p)
    fixedInt := vset a.pwm.fixedInt p true, count := vset a.pwm.count p 0 } }).pwmDrive nn

theorem Lane.varStart_eq (x : Lane) (nn : AxisId) (p : Phase) : x.varStart nn p =
    if p = 0 then ((x.periodHead nn).enterFixed nn p).periodTail nn else x.enterFixed nn p := by
  by_cases h : p = 0 <;> simp only [Lane.varStart, h, if_true, if_false] <;> rfl

section
variable {x : Lane} {nn : AxisId} {p : Phase}

theorem Lane.axisFixedEnd_of_elapsed (hi : x.inPeriod nn p true = true)
    (ht : tFixedNs (x.axisRec nn) ≤ 5 * vget (x.axis nn).pwm.count p) :
    let z := (x.onAxis nn fun a => { a with pwm := { a.pwm with
      fixedInt := vset a.pwm.fixedInt p false, varAt := vset a.pwm.varAt p (vget a.pwm.count p) } }).pwmDrive nn
    x.axisFixedEnd nn p = if p = 0 then ((z.event (4 * nn.val + 1) 0).takeSets nn 2).ssiEvent nn 1 else z := by
  refine (if_neg ?_).trans ?_
  · simp [hi, ht]
  · rfl

variable (hi : x.inPeriod nn p false = true)
include hi

theorem Lane.axisLimit_of_elapsed (ht : tLimitNs (x.axisRec nn) ≤ 5 * vget (x.axis nn).pwm.count p) :
    x.axisLimit nn p = x.varStart nn p := if_pos (by simp [hi, ht])

theorem Lane.axisCross_of_variable : x.axisCross nn p =
    if minPulseNs (x.axisRec nn) ≤ 5 * (vget (x.axis nn).pwm.count p - vget (x.axis nn).pwm.varAt p) then x.varStart nn p else x :=
  if_pos hi

end

/-! ### Dead time (R237) -/

theorem Lane.deadEnd_of_running {x : Lane} (hh : x.sys.halted = false) (nn : AxisId) (sw : Switch) :
    let z := x.onAxis nn fun a => { a with pwm := { a.pwm with
      dead := bitPut a.pwm.dead sw.val false
      pendOn := bitPut a.pwm.pendOn sw.val false
      cmd := if bit a.pwm.pendOn sw.val then bitPut a.pwm.cmd sw.val true else a.pwm.cmd } }
    x.deadEnd nn sw = if z.patternHeld nn then z.driveGates nn else z := if_neg (by simp [hh])

/-! ### Auxiliary carriers (R235, R247) -/

/-- The lane whose auxiliary output begins a period with a sampled command and its pull-in (R234 to R238, R247). -/
def Lane.auxBegun (x : Lane) (u : Fin 8) (on pulling : Bool) : Lane :=
  let r := x.auxRec u
  let v := vget x.aux u
  let var := carrierVar (auxCarrier r)
  let level := if pulling then levelPull r else levelHold r
  let follow := on && !v.latched && !(v.wait && decide (v.relAt = some x.tm.loc))
  let w := placeWidth (if on then mkRat level 65536 else 0) (32 * auxPeriod r) (natBit (auxFlags r) 1 && follow) v.carry 0 (auxMinPulseNs r)
  ((if x.afe.calGood then x else x.useFree).onAux u fun a => { a with
    firstWait := false, wait := a.wait && decide (a.relAt = some x.tm.loc), since := 0, on := on, pulling := pulling, level := level
    grid := x.newGrid
    start := if var then 0 else placeStart (auxCarrier r) (32 * auxPeriod r) w.width, width := if var then 0 else w.width
    carry := if follow then w.carry else a.carry, fixedInt := var, thr := mkRat level 65536 }).auxDrive u

section
variable {x : Lane} {u : Fin 8} (hh : x.sys.halted = false) (hr : (vget x.aux u).running = true)
include hh hr

theorem Lane.auxIn_of {fixed : Bool} (hv : carrierVar (auxCarrier (x.auxRec u)) = true) (hf : (vget x.aux u).fixedInt = fixed) :
    x.auxIn u fixed = true := by simp [Lane.auxIn, hh, hr, hv, hf]

theorem Lane.auxStart_of_running :
    let r := x.auxRec u
    let v := vget x.aux u
    let on := (x.auxCommand u).getD v.on && !x.auxOff
    x.auxStart u = x.auxBegun u on (if on = true ∧ v.on = false then decide (pullMs r ≠ 0) else on && v.pulling) := by
  intro r v on
  have pull_eq : (if (on && !v.on) = true then decide (pullMs r ≠ 0) else on && v.pulling) =
      if on = true ∧ v.on = false then decide (pullMs r ≠ 0) else on && v.pulling := by
    simp only [Bool.and_eq_true, Bool.not_eq_true']
  exact (if_neg (by simp [hr, hh])).trans (congrArg (x.auxBegun u on) pull_eq)

theorem Lane.auxFixedEnd_of_elapsed (hv : carrierVar (auxCarrier (x.auxRec u)) = true) (hf : (vget x.aux u).fixedInt = true)
    (ht : auxFixedNs (x.auxRec u) ≤ 5 * (vget x.aux u).since) :
    x.auxFixedEnd u = (x.onAux u fun a => { a with fixedInt := false, varAt := a.since }).auxDrive u :=
  if_pos (by simp [Lane.auxIn_of hh hr hv hf, ht])

theorem Lane.auxLimit_of_elapsed (hv : carrierVar (auxCarrier (x.auxRec u)) = true) (hf : (vget x.aux u).fixedInt = false)
    (ht : auxLimitNs (x.auxRec u) ≤ 5 * (vget x.aux u).since) : x.auxLimit u = x.auxStart u :=
  if_pos (by simp [Lane.auxIn_of hh hr hv hf, ht])

theorem Lane.auxCross_of_late (hv : carrierVar (auxCarrier (x.auxRec u)) = true) (hf : (vget x.aux u).fixedInt = false)
    (hm : auxMinPulseNs (x.auxRec u) ≤ 5 * ((vget x.aux u).since - (vget x.aux u).varAt)) : x.auxCross u = x.auxStart u :=
  if_pos (by simp [Lane.auxIn_of hh hr hv hf, hm])

end

/-- Settles O35: each row of a carrier acts where it is due, and a dropped member is judged after the rows that start a period. -/
theorem carrierRows : Obligations.CarrierRows := by
  rintro s l x rfl hh off grid
  have off_eq : ∀ y : Lane, y.afterDrop (s.lane l) = off y := fun y => y.afterDrop_eq _
  refine ⟨fun nn hr hc hs p => ?_, fun nn sw => State.turns_onLane rfl (Lane.deadEnd_of_running hh nn sw), fun u hr => ?_⟩
  · intro r w enter next mid
    have on := Lane.carrierOn_of hh hr hc hs
    have next_eq : (s.lane l).varStart nn p = if p = 0 then (enter ((s.lane l).periodHead nn)).periodTail nn else enter (s.lane l) :=
      (s.lane l).varStart_eq nn p
    have starts : ∀ {y}, y = (s.lane l).varStart nn p → y.afterDrop (s.lane l) = next :=
      fun e => (off_eq _).trans (congrArg off (e.trans next_eq))
    have stays : ∀ {y : Lane}, y = s.lane l → y.afterDrop (s.lane l) = s.lane l := by
      rintro y rfl
      exact Lane.afterDrop_self _
    refine ⟨fun hv => ⟨fun hd => ?_, fun hd => ?_, fun hw hl hm => ?_, fun hz hm => ?_⟩, fun hv => ?_, fun hv hw => ⟨fun hf ht => ?_,
      fun hf => ⟨fun ht => ?_, fun hm => ?_, fun hm => ?_⟩⟩⟩
    · intro free
      exact State.turns_onLane rfl ((off_eq _).trans (congrArg off (Lane.axisPeriod_of_due on hv hd)))
    · exact State.turns_onLane rfl (stays (Lane.axisPeriod_of_not_due (.inr hd)))
    · exact State.turns_onLane rfl (Lane.axisMid_of_due on hv hw hl hm)
    · exact State.turns_onLane rfl ((off_eq _).trans (congrArg off (Lane.axisCross_of_zeroPulse on hv hz hm p)))
    · exact State.turns_onLane rfl (stays (Lane.axisPeriod_of_not_due (.inl hv)))
    · intro z
      exact State.turns_onLane rfl (Lane.axisFixedEnd_of_elapsed (Lane.inPeriod_of on hv hw hf) ht)
    · exact State.turns_onLane rfl (starts (Lane.axisLimit_of_elapsed (Lane.inPeriod_of on hv hw hf) ht))
    · exact State.turns_onLane rfl (starts ((Lane.axisCross_of_variable (Lane.inPeriod_of on hv hw hf)).trans (if_pos hm)))
    · exact State.turns_onLane rfl (stays ((Lane.axisCross_of_variable (Lane.inPeriod_of on hv hw hf)).trans (if_neg (Nat.not_le.2 hm))))
  · intro r v var on waiting pulling level follow w start
    have start_eq : (s.lane l).auxStart u = start := Lane.auxStart_of_running hh hr
    have starts : ∀ {y}, y = (s.lane l).auxStart u → y.afterDrop (s.lane l) = off start :=
      fun e => (off_eq _).trans (congrArg off (e.trans start_eq))
    exact ⟨fun hd => State.turns_onLane rfl (starts (if_pos hd)),
      fun hv hf ht => State.turns_onLane rfl (Lane.auxFixedEnd_of_elapsed hh hr hv hf ht),
      fun hv hf => ⟨fun ht => State.turns_onLane rfl (starts (Lane.auxLimit_of_elapsed hh hr hv hf ht)),
        fun hm => State.turns_onLane rfl (starts (Lane.auxCross_of_late hh hr hv hf hm))⟩⟩

end Sys2Proof.Machine
end

section
/-! The cluster cycle and the integration states (R113, R430 to R443): the offset of a cycle, what it corrects and how it is judged,
and the timed transitions. -/

namespace Sys2Proof.Machine

/-! ### Corrections and bounds (R434, R438) -/

theorem clamp_mem {v lo hi : Rat} (h : lo ≤ hi) : lo ≤ clamp v lo hi ∧ clamp v lo hi ≤ hi := by
  unfold clamp
  split
  · exact ⟨le_rfl, h⟩
  · next hlo =>
    split
    · exact ⟨h, le_rfl⟩
    · next hhi => exact ⟨not_lt.1 hlo, not_lt.1 hhi⟩

theorem within_iff (e lim : Rat) : within e lim = true ↔ |e| ≤ lim := by
  simp only [within, Bool.and_eq_true, decide_eq_true_eq, abs_le]

theorem Timebase.atLimit_iff (t : Timebase) (ppm : Nat) :
    t.atLimit ppm = true ↔ t.rate = mkRat ppm 1000000 ∨ t.rate = -(mkRat ppm 1000000) := by
  simp only [Timebase.atLimit, Bool.or_eq_true, decide_eq_true_eq]

theorem Timebase.correct_rate_mem (t : Timebase) (ppm cyc : Nat) (e : Rat) :
    -(mkRat ppm 1000000) ≤ (t.correct ppm cyc (some e)).rate ∧ (t.correct ppm cyc (some e)).rate ≤ mkRat ppm 1000000 := by
  have h : (0 : Rat) ≤ mkRat ppm 1000000 := by
    rw [Rat.mkRat_eq_div]
    positivity
  exact clamp_mem (neg_le_self h)

/-! ### The cycle's offset (R434) -/

section
variable {x : Lane}

theorem Lane.cycleOffset_of_none (ha : (vget x.net.chan 0).off = none) (hb : (vget x.net.chan 1).off = none) :
    x.cycleOffset = (none, false) := by simp only [Lane.cycleOffset, ha, hb]

theorem Lane.cycleOffset_of_first {u : Rat × Bool × Nat} (ha : (vget x.net.chan 0).off = some u) (hb : (vget x.net.chan 1).off = none) :
    x.cycleOffset = (some (u.1, u.2.1), false) := by simp only [Lane.cycleOffset, ha, hb]

theorem Lane.cycleOffset_of_second {v : Rat × Bool × Nat} (ha : (vget x.net.chan 0).off = none) (hb : (vget x.net.chan 1).off = some v) :
    x.cycleOffset = (some (v.1, v.2.1), false) := by simp only [Lane.cycleOffset, ha, hb]

theorem Lane.cycleOffset_of_both {u v : Rat × Bool × Nat} (ha : (vget x.net.chan 0).off = some u)
    (hb : (vget x.net.chan 1).off = some v) :
    x.cycleOffset = if 2 * passiveLimitNs x.laneRec < |u.1 - v.1| then (some (u.1, u.2.1 || v.2.1), true)
      else (some ((u.1 + v.1) / 2, u.2.1 || v.2.1), false) := by
  simp only [Lane.cycleOffset, ha, hb, Bool.or_eq_true, decide_eq_true_eq, gt_iff_lt, lt_abs, neg_sub]

end

/-! ### How a cycle's offset is judged (R438) -/

theorem any_good_iff (off : Option (Rat × Bool)) (lim : Rat) :
    (off.any fun y => within y.1 lim && y.2) = true ↔ ∃ e, off = some (e, true) ∧ |e| ≤ lim := by
  simp [Option.any_eq_true, within_iff, and_comm]

theorem any_fine_iff (off : Option (Rat × Bool)) (lim : Rat) (t : Timebase) (ppm : Nat) :
    (off.any fun y => within y.1 lim && !t.atLimit ppm) = true ↔
      ∃ e d, off = some (e, d) ∧ |e| ≤ lim ∧ ¬(t.rate = mkRat ppm 1000000 ∨ t.rate = -(mkRat ppm 1000000)) := by
  simp only [Option.any_eq_true, Prod.exists, Bool.and_eq_true, Bool.not_eq_true', ← Bool.not_eq_true, within_iff, Timebase.atLimit_iff]

theorem any_bad_iff (off : Option (Rat × Bool)) (lim : Rat) :
    (off.any fun y => !within y.1 lim) = true ↔ ∃ e d, off = some (e, d) ∧ lim < |e| := by
  simp only [Option.any_eq_true, Prod.exists, Bool.not_eq_true', ← Bool.not_eq_true, within_iff, not_le]

/-- The integration state entered, its counts restarted. -/
def Lane.into (x : Lane) (v : Integ) : Lane := x.onNet fun n => n.enter v

/-- INTEGRATING and PASSIVE end in ACTIVE with the second good offset in a row. -/
def Lane.countGood (x : Lane) (good : Bool) : Lane :=
  let n := if good then x.net.goodRun + 1 else 0
  if 2 ≤ n then x.into .active else x.onNet fun y => { y with goodRun := n }

/-- ACTIVE ends in PASSIVE with a bad offset or the eighth cycle in a row at the rate limit. -/
def Lane.countLimit (x : Lane) (limited bad : Bool) : Lane :=
  let n := if limited then x.net.limitRun + 1 else 0
  if bad || 8 ≤ n then x.onNet fun y => { y.enter .passive with master := false } else x.onNet fun y => { y with limitRun := n }

theorem Lane.countGood_of_iff {good : Bool} {p : Prop} (h : good = true ↔ p) (x : Lane) :
    (p → 1 ≤ x.net.goodRun → x.countGood good = x.into .active) ∧
    (p → x.net.goodRun = 0 → x.countGood good = x.onNet fun y => { y with goodRun := 1 }) ∧
    (¬p → x.countGood good = x.onNet fun y => { y with goodRun := 0 }) := by
  refine ⟨fun hp hr => ?_, fun hp hr => ?_, fun hp => ?_⟩
  · rw [h.2 hp]
    exact if_pos (Nat.succ_le_succ hr)
  · simp [h.2 hp, Lane.countGood, hr]
  · rw [Bool.eq_false_iff.2 (h.not.2 hp)]
    rfl

theorem Lane.countLimit_of_iff {limited bad : Bool} {p q : Prop} (hp : limited = true ↔ p) (hq : bad = true ↔ q) (x : Lane) :
    (q ∨ (p ∧ 7 ≤ x.net.limitRun) → x.countLimit limited bad = x.onNet fun y => { y.enter .passive with master := false }) ∧
    (¬q → p → x.net.limitRun < 7 → x.countLimit limited bad = x.onNet fun y => { y with limitRun := x.net.limitRun + 1 }) ∧
    (¬q → ¬p → x.countLimit limited bad = x.onNet fun y => { y with limitRun := 0 }) := by
  refine ⟨?_, fun nq h hr => ?_, fun nq np => ?_⟩
  · rintro (h | ⟨h, hr⟩)
    · exact if_pos (by simp [hq.2 h])
    · exact if_pos (by simp [hp.2 h, hr])
  · simp [Lane.countLimit, hp.2 h, Bool.eq_false_iff.2 (hq.not.2 nq), hr]
  · simp [Lane.countLimit, Bool.eq_false_iff.2 (hp.not.2 np), Bool.eq_false_iff.2 (hq.not.2 nq)]

section
variable {x : Lane}

theorem Lane.integrate_of_integrating (h : x.net.integ = .integrating) (off : Option (Rat × Bool)) :
    x.integrate off = x.countGood (off.any fun y => within y.1 (passiveLimitNs x.laneRec) && y.2) := by
  cases off <;> simp only [Lane.integrate, h] <;> rfl

theorem Lane.integrate_of_active (h : x.net.integ = .active) (off : Option (Rat × Bool)) :
    x.integrate off = x.countLimit (x.tm.atLimit (rateLimitPpm x.laneRec)) (off.any fun y => !within y.1 (passiveLimitNs x.laneRec)) := by
  cases off <;> simp only [Lane.integrate, h] <;> rfl

theorem Lane.integrate_of_passive (h : x.net.integ = .passive) (off : Option (Rat × Bool)) :
    x.integrate off = x.countGood (off.any fun y =>
      within y.1 (passiveLimitNs x.laneRec / 2) && !x.tm.atLimit (rateLimitPpm x.laneRec)) := by
  cases off <;> simp only [Lane.integrate, h] <;> rfl

theorem Lane.integrate_of_starting (h : x.net.integ = .listen ∨ x.net.integ = .coldstart) (off : Option (Rat × Bool)) :
    x.integrate off = x := by
  rcases h with h | h <;> simp only [Lane.integrate, h]

end

/-- A lane with another net that stands in the same cycle. -/
def Lane.SameCycle (x y : Lane) : Prop := ∃ n, y = { x with net := n } ∧ n.cycle = x.net.cycle ∧ n.cycleAt = x.net.cycleAt

theorem Lane.sameCycle_countGood (x : Lane) (good : Bool) : x.SameCycle (x.countGood good) := by
  by_cases h : 2 ≤ (if good then x.net.goodRun + 1 else 0)
  · exact ⟨_, if_pos h, rfl, rfl⟩
  · exact ⟨_, if_neg h, rfl, rfl⟩

theorem Lane.sameCycle_countLimit (x : Lane) (limited bad : Bool) : x.SameCycle (x.countLimit limited bad) := by
  by_cases h : (bad || 8 ≤ (if limited then x.net.limitRun + 1 else 0)) = true
  · exact ⟨_, if_pos h, rfl, rfl⟩
  · exact ⟨_, if_neg h, rfl, rfl⟩

theorem Lane.sameCycle_integrate (x : Lane) (off : Option (Rat × Bool)) : x.SameCycle (x.integrate off) := by
  cases h : x.net.integ with
  | integrating => exact Lane.integrate_of_integrating h off ▸ x.sameCycle_countGood _
  | passive => exact Lane.integrate_of_passive h off ▸ x.sameCycle_countGood _
  | active => exact Lane.integrate_of_active h off ▸ x.sameCycle_countLimit _ _
  | listen => exact ⟨_, Lane.integrate_of_starting (.inl h) off, rfl, rfl⟩
  | coldstart => exact ⟨_, Lane.integrate_of_starting (.inr h) off, rfl, rfl⟩

/-! ### The cycle start (R434, R438, R439) -/

/-- The offset that a lane corrects by: none where it follows no master. -/
def Lane.followed (x : Lane) : Option (Rat × Bool) := if x.net.follows = true then x.cycleOffset.1 else none

/-- The lane with its time corrected and its counts of the cycle moved on. -/
def Lane.corrected (x : Lane) : Lane := { x with
  tm := x.tm.correct (rateLimitPpm x.laneRec) x.cyc (x.followed.map fun (y : Rat × Bool) => y.1)
  net := { x.net with
    inState := x.net.inState + 1
    skews := if x.net.follows = true ∧ x.cycleOffset.2 = true then x.net.skews + 1 else x.net.skews
    lastOff := match x.followed with | some y => y.1 | none => x.net.lastOff } }

theorem Lane.cycleStart_of_awake {x : Lane} (h : x.awake = true) :
    let w := x.corrected.integrate x.followed
    let v : Lane := { w with net := w.net.roll (w.syncSlotIn w.net.cycle) w.cyc }
    x.cycleStart = v.event 144 v.net.cycle := by
  intro w v
  refine (if_neg (by simp [h])).trans ?_
  simp only [Bool.and_eq_true]
  rfl

/-- The next of 64 cycles begins one cycle length after the present one. -/
theorem Lane.rolled_cycle (x : Lane) :
    let w := x.corrected.integrate x.followed
    let n := w.net.roll (w.syncSlotIn w.net.cycle) w.cyc
    n.cycle = (x.net.cycle + 1) % 64 ∧ n.cycleAt = x.net.cycleAt + x.cyc := by
  intro w n
  obtain ⟨m, hw, hc, ha⟩ := x.corrected.sameCycle_integrate x.followed
  have hcyc : w.cyc = x.cyc := (congrArg Lane.cyc hw :)
  have hnet : w.net = m := congrArg Lane.net hw
  refine ⟨?_, ?_⟩
  · show (w.net.cycle + 1) % 64 = _
    rw [hnet, hc]
    rfl
  · show w.net.cycleAt + w.cyc = _
    rw [hnet, ha, hcyc]
    rfl

theorem Lane.cycleStart_of_asleep {x : Lane} (h : x.awake = false) : x.cycleStart = x := if_pos (by simp [h])

/-! ### Timed transitions (R113, R435, R437, R438, R443) -/

/-- A row that acts where its occasion holds and changes nothing elsewhere. -/
theorem State.turns_onLane_ite {s : State} {c : Instr} {l : LaneId} {f : Lane → Lane} {p : Prop} [Decidable p] {y : Lane}
    (h : exec c s = .next (s.onLane l f)) (e : f (s.lane l) = if p then y else s.lane l) :
    (p → s.Turns c l y) ∧ (¬p → s.Turns c l (s.lane l)) :=
  ⟨fun hp => State.turns_onLane h (e.trans (if_pos hp)), fun hp => State.turns_onLane h (e.trans (if_neg hp))⟩

theorem Lane.listenEnd_eq (x : Lane) : x.listenEnd =
    if (x.awake = true ∧ x.keeperStopped = false) ∧ x.net.integ = .listen ∧ coldstartEn x.laneRec = true ∧
        listenCycles x.laneRec ≤ x.net.inState ∧ x.hasSchedule = true then
      (x.onNet fun n => { n.enter .coldstart with cycle := 0, cycleAt := x.tm.glob.toNat }).event 144 0 else x := by
  simp only [Lane.listenEnd, Lane.portsOn, Bool.and_eq_true, Bool.not_eq_true', decide_eq_true_eq, and_assoc]

theorem Lane.coldMaster_eq (x : Lane) : x.coldMaster =
    if (x.awake = true ∧ x.keeperStopped = false) ∧ x.net.integ = .coldstart ∧ coldstartCycles x.laneRec ≤ x.net.inState then
      ((x.onNet fun n => { n.enter .active with master := true }).setSync .synced).rejoinTry else x := by
  simp only [Lane.coldMaster, Lane.portsOn, Bool.and_eq_true, Bool.not_eq_true', decide_eq_true_eq, and_assoc]

theorem Lane.integrationEnd_eq (x : Lane) : x.integrationEnd =
    if x.awake = true ∧ x.net.integ = .integrating ∧ 8 ≤ x.net.quiet then (x.into .listen).setSync .holdover else x := by
  simp only [Lane.integrationEnd, Bool.and_eq_true, decide_eq_true_eq, and_assoc]
  rfl

theorem Lane.passiveEnd_eq (x : Lane) : x.passiveEnd =
    if x.awake = true ∧ x.net.integ = .passive ∧ 8 ≤ x.net.inState then
      let z := x.stepGlobal ((x.tm.glob.toNat : Int) - roundEven x.net.lastOff)
      { z with tm := { z.tm with slew := 0 }, net := { z.net.enter .integrating with quiet := 0 } } else x := by
  simp only [Lane.passiveEnd, Bool.and_eq_true, decide_eq_true_eq, and_assoc]
  rfl

theorem Lane.succeed_eq (x : Lane) : x.succeed =
    if (x.awake = true ∧ x.keeperStopped = false) ∧ x.net.integ = .active ∧ syncEn x.laneRec = true ∧
        x.net.lowerHeard = false ∧ masterLossCycles x.laneRec ≤ x.net.lowerAge then
      ((x.onNet fun n => { n with master := true }).setSync .synced).rejoinTry else x := by
  simp only [Lane.succeed, Lane.portsOn, Bool.and_eq_true, Bool.not_eq_true', decide_eq_true_eq, and_assoc]

/-- Settles O57: the cycle start corrects and judges, the offset and its judgement case by case, and the timed transitions. -/
theorem integrationStateRows : Obligations.IntegrationStateRows := by
  refine ⟨?_, fun x => ⟨fun ha hb => Lane.cycleOffset_of_none ha hb, fun u ha hb => Lane.cycleOffset_of_first ha hb,
    fun v ha hb => Lane.cycleOffset_of_second ha hb, fun u v ha hb => ⟨fun h => ?_, fun h => ?_⟩⟩, fun x off => ?_⟩
  · rintro s l x rfl r sends enter listens starts fails idles succeeds
    obtain ⟨hl, hl'⟩ := State.turns_onLane_ite (s := s) (c := .listenTimeout l) rfl (s.lane l).listenEnd_eq
    obtain ⟨hc, hc'⟩ := State.turns_onLane_ite (s := s) (c := .coldstartMaster l) rfl (s.lane l).coldMaster_eq
    obtain ⟨hi, hi'⟩ := State.turns_onLane_ite (s := s) (c := .integrationTimeout l) rfl (s.lane l).integrationEnd_eq
    obtain ⟨hp, hp'⟩ := State.turns_onLane_ite (s := s) (c := .passiveTimeout l) rfl (s.lane l).passiveEnd_eq
    obtain ⟨hm, hm'⟩ := State.turns_onLane_ite (s := s) (c := .masterSuccession l) rfl (s.lane l).succeed_eq
    refine ⟨fun ha => ?_, fun ha => State.turns_onLane rfl (Lane.cycleStart_of_asleep ha), hl, hl', hc, hc', hi, hi', hp, hp', hm, hm',
      fun t ppm cyc e _ => ⟨rfl, rfl, rfl, t.correct_rate_mem ppm cyc e⟩⟩
    intro m off z w v
    exact ⟨State.turns_onLane rfl (Lane.cycleStart_of_awake ha), (s.lane l).rolled_cycle⟩
  · exact (Lane.cycleOffset_of_both ha hb).trans (if_pos h)
  · exact (Lane.cycleOffset_of_both ha hb).trans (if_neg (not_lt.2 h))
  · intro lim top good fine bad into run
    refine ⟨fun h => ?_, fun h => ?_, fun h => ?_, fun h => Lane.integrate_of_starting h off⟩
    · rw [Lane.integrate_of_integrating h]
      exact x.countGood_of_iff (any_good_iff off lim)
    · rw [Lane.integrate_of_active h]
      exact x.countLimit_of_iff (x.tm.atLimit_iff _) (any_bad_iff off lim)
    · rw [Lane.integrate_of_passive h]
      exact x.countGood_of_iff (any_fine_iff off (lim / 2) x.tm _)

end Sys2Proof.Machine
end

section
/-! Transforms, tables and trigonometry of the axis engine (R192, R193, R198 to R200), and what the shared forms of an operation
answer element by element (R185, R191). -/

namespace Sys2Proof.Machine

/-! ### The row of a node that acts on its own stage and state alone (R189) -/

/-- The row of an operation writes what the operation works out on the node that the unit holds. -/
theorem State.turns_node {s : State} {c : Instr} {l : LaneId} {u : Fin 4} {j : UnitJob} {op : Nat} {f : NodeCtx → Calc} {k : Calc}
    (h : exec c s = s.node l u op f) (hu : (s.lane l).unit u = some j) (ho : (s.lane l).holds u op = true)
    (e : f ((s.lane l).nodeCtx j) = k) : s.Turns c l ((s.lane l).nodeWrite u j k) :=
  State.turns_nodeIo (f := fun x _ c => (x, f c)) h hu ho (by rw [e])

/-! ### Operands element by element (R185) -/

theorem NodeCtx.nth_operand (c : NodeCtx) (k : Nat) {n i : Nat} (h : i < n) :
    nth (c.operand k n) i = c.elem (nodeDesc c.word k) i := by
  simp [nth, NodeCtx.operand, h]

theorem NodeCtx.zip_operand (c : NodeCtx) (k k' n : Nat) :
    (c.operand k n).zip (c.operand k' n) =
      (List.range n).map fun i => (c.elem (nodeDesc c.word k) i, c.elem (nodeDesc c.word k') i) :=
  List.zip_map' ..

theorem calc1_eq (f : Rat → Elem) (c : NodeCtx) :
    calc1 f c = Calc.pure ((List.range c.len).map fun i => f (c.elem (nodeDesc c.word 0) i)) := by
  simp only [calc1, NodeCtx.operand, List.map_map, Function.comp_def]

theorem calc2_eq (f : Rat → Rat → Elem) (c : NodeCtx) :
    calc2 f c = Calc.pure ((List.range c.len).map fun i => f (c.elem (nodeDesc c.word 0) i) (c.elem (nodeDesc c.word 1) i)) := by
  simp only [calc2, NodeCtx.zip_operand, List.map_map, Function.comp_def]

theorem calc3_eq (f : Rat → Rat → Rat → Elem) (c : NodeCtx) :
    calc3 f c = Calc.pure ((List.range c.len).map fun i =>
      f (c.elem (nodeDesc c.word 0) i) (c.elem (nodeDesc c.word 1) i) (c.elem (nodeDesc c.word 2) i)) := by
  simp only [calc3, NodeCtx.operand, List.zip_map', List.map_map, Function.comp_def]

/-- An element-wise operation given by what it makes of every index. -/
theorem calc1_of_eq {f : Rat → Elem} {c : NodeCtx} {g : Nat → Elem} (h : ∀ i, f (c.elem (nodeDesc c.word 0) i) = g i) :
    calc1 f c = Calc.pure ((List.range c.len).map g) := by
  rw [calc1_eq, funext h]

theorem calc2_of_eq {f : Rat → Rat → Elem} {c : NodeCtx} {g : Nat → Elem}
    (h : ∀ i, f (c.elem (nodeDesc c.word 0) i) (c.elem (nodeDesc c.word 1) i) = g i) :
    calc2 f c = Calc.pure ((List.range c.len).map g) := by
  rw [calc2_eq, funext h]

theorem rsum_eq_sum (xs : List Rat) : rsum xs = xs.sum := List.sum_eq_foldl.symm

/-! ### Table look-ups (R199) -/

/-- The table's count of points. -/
def NodeCtx.lutCount (c : NodeCtx) : Nat := (c.coefWord (nodeDesc c.word 1) 2).toNat

/-- The count or the table is out of range. -/
def NodeCtx.lutBad (c : NodeCtx) : Bool :=
  c.lutCount < 2 || 1024 < c.lutCount || c.tableEnd (nodeDesc c.word 1) < (nodeDesc c.word 1).index + c.lutCount + 3

theorem NodeCtx.lutBad_iff (c : NodeCtx) : c.lutBad = true ↔
    c.lutCount < 2 ∨ 1024 < c.lutCount ∨ c.tableEnd (nodeDesc c.word 1) < (nodeDesc c.word 1).index + c.lutCount + 3 := by
  simp only [NodeCtx.lutBad, Bool.or_eq_true, decide_eq_true_eq, or_assoc]

/-- Where a value lies in the table, in points. -/
def NodeCtx.lutPos (c : NodeCtx) (v : Rat) : Rat := (v - c.par1 0) * c.par1 1

/-- The value between the point below and the point after it. -/
def NodeCtx.lutBetween (c : NodeCtx) (v : Rat) (next : Nat → Nat) : Elem :=
  let k := ((c.lutPos v).floor % (c.lutCount : Int)).toNat
  Elem.of (c.par1 (k + 3) + (c.lutPos v - (c.lutPos v).floor) * (c.par1 (next k + 3) - c.par1 (k + 3)))

theorem lutElem_of_bad {c : NodeCtx} (h : c.lutBad = true) (v : Rat) : lutElem c v = (Elem.bad 0, false) := if_pos h

theorem lutElem_of_wrap {c : NodeCtx} (h : ¬c.lutBad = true) (ho : c.opt 0 = true) (v : Rat) :
    lutElem c v = (c.lutBetween v fun k => (k + 1) % c.lutCount, false) := (if_neg h).trans (if_pos ho)

/-- Inside the table the floor needs no reduction. -/
theorem floor_emod_of_inside {t : Rat} {n : Nat} (hn : 2 ≤ n) (h0 : 0 ≤ t) (h1 : t ≤ ((n - 1 : Nat) : Rat)) :
    t.floor % (n : Int) = t.floor := by
  have hf : 0 ≤ t.floor := Rat.le_floor_iff.2 (by simpa using h0)
  have hle : t.floor ≤ ((n - 1 : Nat) : Int) := by
    have : (t.floor : Rat) ≤ ((n - 1 : Nat) : Int) := (Rat.floor_le t).trans (by simpa using h1)
    exact_mod_cast this
  exact Int.emod_eq_of_lt hf (by omega)

theorem lutElem_of_ends {c : NodeCtx} (h : ¬c.lutBad = true) (ho : c.opt 0 = false) (v : Rat) :
    let t := c.lutPos v
    let low : Bool := t < 0
    let high : Bool := ((c.lutCount - 1 : Nat) : Rat) < t
    lutElem c v = (if low then Elem.of (c.par1 3)
      else if high then Elem.of (c.par1 (c.lutCount - 1 + 3))
      else if t = t.floor then Elem.of (c.par1 (t.floor.toNat + 3))
      else c.lutBetween v fun k => k + 1, low || high) := by
  intro t low high
  refine (if_neg h).trans ((if_neg (by simp [ho])).trans ?_)
  by_cases hl : t < 0
  · simp only [low, hl]
    exact if_pos hl
  by_cases hh : ((c.lutCount - 1 : Nat) : Rat) < t
  · simp only [low, high, hl, hh]
    exact (if_neg hl).trans (if_pos hh)
  have hn : 2 ≤ c.lutCount := not_lt.1 fun hn => h (c.lutBad_iff.2 (.inl hn))
  have hk : (c.lutPos v).floor % (c.lutCount : Int) = (c.lutPos v).floor := floor_emod_of_inside hn (not_lt.1 hl) (not_lt.1 hh)
  have hf : t - t.floor = 0 ↔ t = t.floor := sub_eq_zero
  simp only [low, high, hl, hh, NodeCtx.lutBetween, hk, ← apply_ite Elem.of, ← hf, decide_false, Bool.false_eq_true, if_false,
    Bool.or_false]
  exact (if_neg hl).trans (if_neg hh)

/-- LUT given by what each look-up answers. -/
theorem calcLut_of_eq {c : NodeCtx} {f : Nat → Elem × Bool} (h : ∀ i, lutElem c (c.elem (nodeDesc c.word 0) i) = f i) :
    calcLut c = {
      out := (List.range c.len).map fun i => (f i).1
      st := []
      flags := if (List.range c.len).any (fun i => (f i).2) then 1 else 0 } := by
  simp only [calcLut, NodeCtx.operand, List.map_map, List.any_map, Function.comp_def, h]

theorem calcLut_of_inside {c : NodeCtx} {f : Nat → Elem} (h : ∀ i, lutElem c (c.elem (nodeDesc c.word 0) i) = (f i, false)) :
    calcLut c = Calc.pure ((List.range c.len).map f) := by
  simp [calcLut_of_eq h, Calc.pure]

/-! ### The angle and the length of a vector (R200) -/

theorem calcAtan2_of_zero {c : NodeCtx} (h0 : c.elem (nodeDesc c.word 0) 0 = 0) (h1 : c.elem (nodeDesc c.word 0) 1 = 0) :
    calcAtan2 c = Calc.pure [Elem.bad 0] :=
  if_pos (by simp [c.nth_operand, h0, h1])

theorem calcAtan2_of_ne {c : NodeCtx} (h : c.elem (nodeDesc c.word 0) 0 ≠ 0 ∨ c.elem (nodeDesc c.word 0) 1 ≠ 0) :
    calcAtan2 c = Calc.pure [.num (angleOf (c.elem (nodeDesc c.word 0) 0) (c.elem (nodeDesc c.word 0) 1))] :=
  if_neg (by simpa [c.nth_operand, imp_iff_not_or] using h)

theorem calcMag_eq (c : NodeCtx) :
    calcMag c = Calc.pure [.num (sqrtEncl ((List.range (c.imm % 16)).map fun i =>
      c.elem (nodeDesc c.word 0) i * c.elem (nodeDesc c.word 0) i).sum)] := by
  simp only [calcMag, NodeCtx.count, NodeCtx.operand, rsum_eq_sum, List.map_map, Function.comp_def]

/-- Settles O28: each row is the node that its unit holds; the transforms by their definitions, the element-wise operations
index by index, a look-up by the case of its table. -/
theorem transformAndTableOperations : Obligations.TransformAndTableOperations := by
  rintro s l x u j rfl hu c a b out each1 root3 t
  refine ⟨fun ho => ⟨fun h => ?_, fun h => ?_⟩, fun ho => ?_, fun ho => ?_, fun ho => ?_, fun ho => ?_, fun ho => ?_, fun ho => ?_,
    fun ho => ?_, fun ho => ?_, fun ho => ⟨fun h0 h1 => ?_, fun h => ?_⟩, fun ho => ?_⟩
  · exact State.turns_node rfl hu ho (if_neg (ne_true_of_eq_false h))
  · exact State.turns_node rfl hu ho (if_pos h)
  · exact State.turns_node rfl hu ho rfl
  · exact State.turns_node rfl hu ho rfl
  · intro va vb vc hi lo w k off duty
    exact State.turns_node rfl hu ho (by simp only [calcSvm, Bool.and_eq_true, Bool.not_eq_true']; rfl)
  · intro d word n bad pos up
    have hb : bad ↔ c.lutBad = true := c.lutBad_iff.symm
    refine ⟨fun h => ?_, fun h hw => ?_, fun h hw => ?_⟩
    · exact State.turns_node rfl hu ho (calcLut_of_inside fun i => lutElem_of_bad (hb.1 h) _)
    · exact State.turns_node rfl hu ho (calcLut_of_inside fun i => lutElem_of_wrap (mt hb.2 h) hw _)
    · exact State.turns_node rfl hu ho (calcLut_of_eq fun i => lutElem_of_ends (mt hb.2 h) hw _)
  · exact State.turns_node rfl hu ho (calc2_of_eq fun _ => rfl)
  · exact State.turns_node rfl hu ho (calc2_of_eq fun _ => rfl)
  · exact State.turns_node rfl hu ho (calc2_of_eq fun _ => rfl)
  · exact State.turns_node rfl hu ho rfl
  · exact State.turns_node rfl hu ho (calcAtan2_of_zero h0 h1)
  · exact State.turns_node rfl hu ho (calcAtan2_of_ne h)
  · exact State.turns_node rfl hu ho (calcMag_eq _)

end Sys2Proof.Machine
end

section
/-! The rule for stages (R164 to R175) and the arithmetic operations (R191): rounding, the mantissas of a stage at its exponent,
the choice of the exponent, the flags, the words of a stage, and the rows from MOV to SELECT. -/

namespace Sys2Proof.Machine

/-! ### Rounding (R170) -/

/-- Rounding moves a value by at most a half, and by a half only to an even integer. -/
theorem roundEven_spec (q : Rat) : |q - roundEven q| ≤ 1 / 2 ∧ (|q - roundEven q| = 1 / 2 → roundEven q % 2 = 0) := by
  have h0 := Rat.floor_le q
  have h1 := Rat.lt_floor (x := q)
  simp only [roundEven]
  split_ifs with hl hh he
  · rw [abs_of_nonneg (by linarith)]
    exact ⟨hl.le, fun h => absurd h hl.ne⟩
  · push_cast at h1 ⊢
    rw [abs_of_nonpos (by linarith)]
    exact ⟨by linarith, fun h => by linarith⟩
  · rw [abs_of_nonneg (by linarith)]
    exact ⟨not_lt.1 hh, fun _ => he⟩
  · push_cast at h1 ⊢
    rw [abs_of_nonpos (by linarith)]
    exact ⟨by linarith, fun _ => by omega⟩

/-! ### A value at an exponent (R164, R168, R173) -/

/-- The mantissa that a value takes at an exponent. -/
def mantAt (e : Int) (q : Rat) : Int :=
  if 0x7FFFFF * pow2 (e - 23) < q then 0x7FFFFF
  else if q < -0x800000 * pow2 (e - 23) then -0x800000 else roundEven (q * pow2 (23 - e))

theorem mantValue_max (e : Int) : mantValue e mantMax = 0x7FFFFF * pow2 (e - 23) := by simp [mantValue, mantMax]

theorem mantValue_min (e : Int) : mantValue e mantMin = -0x800000 * pow2 (e - 23) := by simp [mantValue, mantMin]

/-- A value's mantissa; it is clipped where it does not fit. -/
theorem place_eq (e : Int) (q : Rat) : place e q = (mantAt e q, !fits e q) := by
  simp only [place, mantAt, fits, mantValue_max, mantValue_min]
  split_ifs with hh hl
  · simp only [not_le.2 hh, mantMax, decide_false, Bool.and_false, Bool.not_false]
  · simp only [not_le.2 hl, mantMin, decide_false, Bool.false_and, Bool.not_false]
  · simp only [not_lt.1 hh, not_lt.1 hl, decide_true, Bool.and_self, Bool.not_true]

/-! ### Elements at an exponent (R168, R169, R174) -/

/-- The mantissa of an element: a largest value is the greatest or the least. -/
def Pick.mantAt (e : Int) (y : Pick) : Int := (y.place e).1

theorem stageAt_mants (e : Int) (xs : List Pick) (f : BitVec 3) : (stageAt e xs f).mants = xs.map (Pick.mantAt e) :=
  List.map_map

/-- Numbers at an exponent: SAT where one does not fit. -/
theorem stageAt_nums (e : Int) (qs : List Rat) (f : BitVec 3) : stageAt e (qs.map Pick.num) f =
    { exp := e, mants := qs.map (mantAt e), flags := f ||| if qs.any fun q => !fits e q then 1 else 0 } := by
  simp only [stageAt, List.map_map, List.any_map, Function.comp_def, Pick.place, place_eq]

theorem stageAt_nums_of_fit {e : Int} {qs : List Rat} (h : ∀ q ∈ qs, fits e q = true) :
    stageAt e (qs.map Pick.num) 0 = { exp := e, mants := qs.map (mantAt e), flags := 0 } := by
  rw [stageAt_nums, if_neg (by simpa using h)]; rfl

theorem stageAt_nums_of_not_fit {e : Int} {qs : List Rat} (h : ∃ q ∈ qs, ¬fits e q = true) :
    stageAt e (qs.map Pick.num) 0 = { exp := e, mants := qs.map (mantAt e), flags := 1 } := by
  rw [stageAt_nums, if_pos (by simpa using h)]; rfl

theorem Pick.odd_iff (y : Pick) : y.odd = true ↔ y.live = none := by cases y <;> simp [Pick.odd, Pick.live]

/-! ### The choice of the exponent (R168) -/

/-- The exponent of a stage whose values need `qs`: the least at which all fit, within the span of R164. -/
def leastExp (qs : List Rat) : Int :=
  match expFor qs with
  | none => -128
  | some e => if 127 < e then 127 else if e < -128 then -128 else e

/-- The least exponent at which all values fit is the one at which they fit and at the one before do not. -/
theorem expFor_eq_some {qs : List Rat} {p : Int} (h : ∀ q ∈ qs, fits p q = true) (h' : ∃ q ∈ qs, ¬fits (p - 1) q = true) :
    expFor qs = some p := by
  obtain ⟨q, hq, hn⟩ := h'
  cases he : expFor qs with
  | none => exact absurd (fits_iff.2 (by simp [(expFor_spec qs).1 he q hq, (pow2_pos _).le])) hn
  | some e =>
    obtain ⟨hf, r, hr, hm⟩ := (expFor_spec qs).2 e he
    have h1 : p ≤ e := not_lt.1 fun hlt => hn (fits_mono (by omega) (hf q hq))
    have h2 : e ≤ p := not_lt.1 fun hlt => by simp [fits_mono (show p ≤ e - 1 by omega) (h r hr)] at hm
    rw [le_antisymm h2 h1]

theorem expFor_of_beyond {qs : List Rat} {p : Int} (h : ∃ q ∈ qs, ¬fits p q = true) : ∃ e, expFor qs = some e ∧ p < e := by
  obtain ⟨q, hq, hn⟩ := h
  cases he : expFor qs with
  | none => exact absurd (fits_iff.2 (by simp [(expFor_spec qs).1 he q hq, (pow2_pos _).le])) hn
  | some e => exact ⟨e, rfl, not_le.1 fun hle => hn (fits_mono hle (((expFor_spec qs).2 e he).1 q hq))⟩

theorem expFor_of_fit {qs : List Rat} {p e : Int} (h : ∀ q ∈ qs, fits p q = true) (he : expFor qs = some e) : e ≤ p := by
  obtain ⟨-, r, hr, hm⟩ := (expFor_spec qs).2 e he
  exact not_lt.1 fun hlt => by simp [fits_mono (show p ≤ e - 1 by omega) (h r hr)] at hm

/-! ### A stage (R168, R169, R174) -/

/-- Elements at the exponent that `qs` need, with SAT and EXPOVF where that is beyond 127. -/
def chosenStage (xs : List Pick) (qs : List Rat) (f : BitVec 3) : StageOut :=
  match expFor qs with
  | none => stageAt (-128) xs f
  | some e =>
    if 127 < e then { stageAt 127 xs f with flags := (stageAt 127 xs f).flags ||| 3 }
    else if e < -128 then stageAt (-128) xs f else stageAt e xs f

theorem chosenStage_exp (xs : List Pick) (qs : List Rat) (f : BitVec 3) : (chosenStage xs qs f).exp = leastExp qs := by
  unfold chosenStage leastExp
  cases expFor qs with
  | none => rfl
  | some e => dsimp only; split_ifs <;> rfl

theorem chosenStage_mants (xs : List Pick) (qs : List Rat) (f : BitVec 3) :
    (chosenStage xs qs f).mants = xs.map (Pick.mantAt (leastExp qs)) := by
  unfold chosenStage leastExp
  cases expFor qs with
  | none => exact stageAt_mants ..
  | some e => dsimp only; split_ifs <;> exact stageAt_mants _ xs f

/-- SAT and EXPOVF leave DIVZ as it is. -/
theorem bit_two_stageAt (e : Int) (xs : List Pick) (f : BitVec 3) : bit (stageAt e xs f).flags 2 = bit f 2 := by
  simp only [stageAt, bit, BitVec.getLsbD_or]
  split <;> simp

theorem bit_two_chosenStage (xs : List Pick) (qs : List Rat) (f : BitVec 3) : bit (chosenStage xs qs f).flags 2 = bit f 2 := by
  unfold chosenStage
  cases expFor qs with
  | none => exact bit_two_stageAt ..
  | some e =>
    dsimp only
    split_ifs
    · rw [← bit_two_stageAt 127 xs f]; simp [bit]
    · exact bit_two_stageAt ..
    · exact bit_two_stageAt ..

/-- The flag of undefined points. -/
def divz (xs : List Pick) : BitVec 3 := if xs.any Pick.odd then 4 else 0

theorem bit_two_divz (xs : List Pick) : bit (divz xs) 2 = xs.any Pick.odd := by
  unfold divz
  cases xs.any Pick.odd <;> rfl

/-- The values that the exponent is chosen from: those at no undefined point, or where all elements are at one, their named
results. -/
def choosers (xs : List Pick) : List Rat := xs.filterMap (if xs.all Pick.odd then Pick.named else Pick.live)

theorem mkStage_pinned (p : Int) (xs : List Pick) : mkStage (some p) xs = stageAt p xs (divz xs) := rfl

theorem mkStage_none (xs : List Pick) : mkStage none xs =
    if xs.all Pick.odd && xs.any Pick.top then stageAt 127 xs (divz xs) else chosenStage xs (choosers xs) (divz xs) := rfl

theorem mkStage_none_of_high {xs : List Pick} (h : xs.all Pick.odd = true) (ht : xs.any Pick.top = true) :
    mkStage none xs = stageAt 127 xs (divz xs) := by
  rw [mkStage_none, if_pos (by rw [h, ht]; rfl)]

theorem mkStage_none_of_not_high {xs : List Pick} (h : ¬(xs.all Pick.odd = true ∧ xs.any Pick.top = true)) :
    mkStage none xs = chosenStage xs (choosers xs) (divz xs) := by
  rw [mkStage_none, if_neg (by simpa only [Bool.and_eq_true] using h)]

/-- Every stage has its elements' mantissas at its exponent. -/
theorem mkStage_mants (pin : Option Int) (xs : List Pick) :
    (mkStage pin xs).mants = xs.map (Pick.mantAt (mkStage pin xs).exp) := by
  cases pin with
  | some p => exact stageAt_mants ..
  | none =>
    rw [mkStage_none]
    split_ifs
    · exact stageAt_mants ..
    · rw [chosenStage_mants, chosenStage_exp]

/-- DIVZ is set where an element is at an undefined point. -/
theorem bit_two_mkStage (pin : Option Int) (xs : List Pick) : bit (mkStage pin xs).flags 2 = xs.any Pick.odd := by
  rw [← bit_two_divz]
  cases pin with
  | some p => exact bit_two_stageAt ..
  | none =>
    rw [mkStage_none]
    split_ifs
    · exact bit_two_stageAt ..
    · exact bit_two_chosenStage ..

/-! ### A stage of numbers -/

theorem divz_nums (qs : List Rat) : divz (qs.map Pick.num) = 0 := by
  simp [divz, Pick.odd]

theorem choosers_nums (qs : List Rat) : choosers (qs.map Pick.num) = qs := by
  cases qs with
  | nil => rfl
  | cons q qs => simp [choosers, Pick.odd, Pick.live, Function.comp_def]

theorem mkStage_nums (qs : List Rat) : mkStage none (qs.map Pick.num) = chosenStage (qs.map Pick.num) qs 0 := by
  rw [mkStage_none_of_not_high (by simp [Pick.top]), choosers_nums, divz_nums]

theorem mkStage_nums_exp (qs : List Rat) : (mkStage none (qs.map Pick.num)).exp = leastExp qs := by
  rw [mkStage_nums, chosenStage_exp]

theorem mkStage_nums_pinned (p : Int) (qs : List Rat) : mkStage (some p) (qs.map Pick.num) = stageAt p (qs.map Pick.num) 0 := by
  rw [mkStage_pinned, divz_nums]

/-- Numbers that fit an exponent of the span and not all the one before stand at it. -/
theorem mkStage_nums_of_least {qs : List Rat} {p : Int} (h0 : -128 ≤ p) (h1 : p ≤ 127) (h : ∀ q ∈ qs, fits p q = true)
    (h' : ∃ q ∈ qs, ¬fits (p - 1) q = true) :
    mkStage none (qs.map Pick.num) = { exp := p, mants := qs.map (mantAt p), flags := 0 } := by
  simp only [mkStage_nums, chosenStage, expFor_eq_some h h', if_neg (not_lt.2 h0), if_neg (not_lt.2 h1), stageAt_nums_of_fit h]

theorem mkStage_nums_of_beyond {qs : List Rat} (h : ∃ q ∈ qs, ¬fits 127 q = true) :
    mkStage none (qs.map Pick.num) = { exp := 127, mants := qs.map (mantAt 127), flags := 3 } := by
  obtain ⟨e, he, hlt⟩ := expFor_of_beyond h
  simp only [mkStage_nums, chosenStage, he, if_pos hlt, stageAt_nums_of_not_fit h]
  rfl

theorem mkStage_nums_of_below {qs : List Rat} (h : ∀ q ∈ qs, fits (-129) q = true) :
    mkStage none (qs.map Pick.num) = { exp := -128, mants := qs.map (mantAt (-128)), flags := 0 } := by
  rw [← stageAt_nums_of_fit fun q hq => fits_mono (by decide : (-129 : Int) ≤ -128) (h q hq), mkStage_nums, chosenStage]
  cases he : expFor qs with
  | none => rfl
  | some e =>
    have hle := expFor_of_fit h he
    exact (if_neg (by omega)).trans (if_pos (by omega))

/-! ### Undefined points in a stage (R174) -/

theorem all_odd_iff (xs : List Pick) : xs.all Pick.odd = true ↔ ∀ y ∈ xs, y.live = none := by
  simp only [List.all_eq_true, Pick.odd_iff]

theorem any_odd_iff (xs : List Pick) : xs.any Pick.odd = true ↔ ∃ y ∈ xs, y.live = none := by
  simp only [List.any_eq_true, Pick.odd_iff]

/-- A stage of undefined points alone, no largest value among them, has the exponent of their named results. -/
theorem mkStage_exp_of_odd {xs : List Pick} (h : xs.all Pick.odd = true) (ht : ¬xs.any Pick.top = true) :
    (mkStage none xs).exp = (mkStage none ((xs.filterMap Pick.named).map Pick.num)).exp := by
  rw [mkStage_none_of_not_high fun hh => ht hh.2, chosenStage_exp, mkStage_nums_exp, choosers, if_pos h]

/-- Undefined points take no part in the exponent of a stage with another element. -/
theorem mkStage_exp_of_live {xs : List Pick} (h : ¬xs.all Pick.odd = true) :
    (mkStage none xs).exp = (mkStage none ((xs.filterMap Pick.live).map Pick.num)).exp := by
  rw [mkStage_none_of_not_high fun hh => h hh.1, chosenStage_exp, mkStage_nums_exp, choosers, if_neg h]

/-! ### The words of a stage (R165, R187) -/

/-- Exact elements need no free number. -/
theorem stageOf_exact (pin : Option Int) (free : Nat) (qs : List Rat) :
    stageOf pin free (qs.map Elem.of) = (mkStage pin (qs.map Pick.num), false) := by
  have h (up : Bool) : (qs.map Elem.of).map (Elem.pick up) = qs.map Pick.num := by
    simp [Elem.of, Elem.pick, Encl.of]
  simp only [stageOf, h, if_true]

/-- A node of exact elements that stores no state writes its header and its mantissas. -/
theorem Slot.writeNode_exact (k : Slot) (w : BitVec 128) (free : Nat) (qs : List Rat) (f : BitVec 3) :
    let base := nodeState w
    let g := mkStage (nodePinned w) (qs.map Pick.num)
    let h := headerWord g qs.length (hdrFlags (k.stateAt base) ||| g.flags ||| f)
    k.writeNode w free { out := qs.map Elem.of, st := [], flags := f } =
      ({ k with state := putWords k.state base (h :: g.mants.map mantWord) }, g.flags ||| f, false) := by
  simp [Slot.writeNode, stageOf_exact, putStates, BitVec.or_assoc]

theorem or_or_absorb {w : Nat} (a b c : BitVec w) : a ||| b ||| c ||| b = a ||| b ||| c := by
  rw [BitVec.or_assoc (a ||| b), BitVec.or_comm c, ← BitVec.or_assoc, BitVec.or_assoc a, BitVec.or_self]

theorem toSigned_ofSigned_byte {e : Int} (h0 : -128 ≤ e) (h1 : e ≤ 127) : toSigned 8 (ofSigned 8 e) = e := by
  simp only [toSigned, ofSigned]
  omega

/-- A header word is read back as it was formed, from a length of at most 15 and an exponent of the span. -/
theorem headerWord_fields {g : StageOut} {n : Nat} (hn : n < 16) (h0 : -128 ≤ g.exp) (h1 : g.exp ≤ 127) (f : BitVec 3) :
    hdrExp (headerWord g n f) = g.exp ∧ hdrLen (headerWord g n f) = n ∧ hdrFlags (headerWord g n f) = f ||| g.flags := by
  have he : ofSigned 8 g.exp < 256 := by simp only [ofSigned]; omega
  have hf : (f ||| g.flags).toNat < 8 := (f ||| g.flags).isLt
  have hw : (headerWord g n f).toNat = (f ||| g.flags).toNat * 2 ^ 16 + n * 2 ^ 8 + ofSigned 8 g.exp := by
    rw [headerWord, BitVec.toNat_ofNat, Nat.mod_eq_of_lt (by omega)]
  refine ⟨?_, ?_, ?_⟩
  · have h : ((headerWord g n f).extractLsb' 0 8).toNat = ofSigned 8 g.exp := by
      rw [BitVec.extractLsb'_toNat, hw, Nat.shiftRight_eq_div_pow]; omega
    rw [hdrExp, h, toSigned_ofSigned_byte h0 h1]
  · rw [hdrLen, BitVec.extractLsb'_toNat, hw, Nat.shiftRight_eq_div_pow]; omega
  · refine BitVec.eq_of_toNat_eq ?_
    rw [hdrFlags, BitVec.extractLsb'_toNat, hw, Nat.shiftRight_eq_div_pow]; omega

/-! ### Quotients, sums and PACK (R174, R191) -/

theorem quotient_eq (p q : Rat) :
    quotient p q = if q ≠ 0 then Elem.of (p / q) else if p = 0 then Elem.bad 0 else .largest (p < 0) := by
  simp only [quotient, ne_eq, ite_not]

theorem rabs_eq (q : Rat) : rabs q = if 0 ≤ q then q else -q := by
  simp only [rabs, ← not_lt, ite_not]

theorem calcDot_eq (c : NodeCtx) :
    calcDot c = Calc.pure [Elem.of ((List.range (c.imm % 16)).map fun i =>
      c.elem (nodeDesc c.word 0) i * c.elem (nodeDesc c.word 1) i).sum] := by
  simp only [calcDot, NodeCtx.count, NodeCtx.zip_operand, rsum_eq_sum, List.map_map, Function.comp_def]

theorem calcSum_eq (c : NodeCtx) :
    calcSum c = Calc.pure [Elem.of ((List.range (c.imm % 16)).map (c.elem (nodeDesc c.word 0))).sum] := by
  simp only [calcSum, NodeCtx.count, NodeCtx.operand, rsum_eq_sum]

/-- PACK where the first part is not longer than the output. -/
theorem calcPack_of_le {c : NodeCtx} (h : c.imm % 16 ≤ c.len) :
    calcPack c = Calc.pure ((List.range c.len).map fun i =>
      Elem.of (if i < c.imm % 16 then c.elem (nodeDesc c.word 0) i else c.elem (nodeDesc c.word 1) (i - c.imm % 16))) := by
  obtain ⟨r, hr⟩ := Nat.exists_eq_add_of_le h
  simp only [calcPack, NodeCtx.operand, hr, Nat.add_sub_cancel_left, List.range_add, List.map_append, List.map_map]
  refine congrArg Calc.pure (congrArg₂ _ (List.map_congr_left fun i hi => ?_) (List.map_congr_left fun i _ => ?_))
  · simp [List.mem_range.1 hi]
  · simp

/-- Settles O27: the rule for stages, for numbers in each mode and with undefined points; the words of a stage, read back; and
each row as the node that its unit holds, element by element. -/
theorem arithmeticOperations : Obligations.ArithmeticOperations := by
  refine ⟨roundEven_spec, ?_, ?_, ?_⟩
  · rintro xs qs p hi lo fit m norm
    have hall (e : Int) : (∀ q ∈ qs, fit e q) ↔ ∀ q ∈ qs, fits e q = true := forall₂_congr fun _ _ => fits_iff.symm
    have hex (e : Int) : (∃ q ∈ qs, ¬fit e q) ↔ ∃ q ∈ qs, ¬fits e q = true :=
      exists_congr fun _ => and_congr_right fun _ => not_congr fits_iff.symm
    refine ⟨fun h => ?_, fun h => ?_, fun h0 h1 h h' => mkStage_nums_of_least h0 h1 ((hall p).1 h) ((hex _).1 h'),
      fun h => mkStage_nums_of_beyond ((hex _).1 h), fun h => mkStage_nums_of_below ((hall _).1 h), fun pin => ?_⟩
    · exact (mkStage_nums_pinned p qs).trans (stageAt_nums_of_fit ((hall p).1 h))
    · exact (mkStage_nums_pinned p qs).trans (stageAt_nums_of_not_fit ((hex p).1 h))
    · intro g odd high
      have hodd : odd ↔ xs.all Pick.odd = true := (all_odd_iff xs).symm
      have hhigh : high ↔ xs.all Pick.odd = true ∧ xs.any Pick.top = true := and_congr hodd List.any_eq_true.symm
      refine ⟨?_, ?_, ?_, ?_, ?_, ?_⟩
      · rintro rfl; rfl
      · rintro rfl h
        obtain ⟨ho, ht⟩ := hhigh.1 h
        exact congrArg StageOut.exp (mkStage_none_of_high ho ht)
      · rintro rfl ho hn
        exact mkStage_exp_of_odd (hodd.1 ho) fun ht => hn (hhigh.2 ⟨hodd.1 ho, ht⟩)
      · rintro rfl ho
        exact mkStage_exp_of_live (mt hodd.2 ho)
      · refine (mkStage_mants pin xs).trans (List.map_congr_left fun y _ => ?_)
        cases y with
        | num q => exact congrArg Prod.fst (place_eq _ q)
        | undef q => exact congrArg Prod.fst (place_eq _ q)
        | largest neg => rfl
      · rw [bit_two_mkStage, any_odd_iff]
  · intro k w free qs f base g h
    refine ⟨k.writeNode_exact w free qs f, fun hn h0 h1 => ?_⟩
    obtain ⟨he, hl, hf⟩ := headerWord_fields (n := qs.length) (by omega) h0 h1 (hdrFlags (k.stateAt base) ||| g.flags ||| f)
    exact ⟨he, hl, hf.trans (by rw [or_or_absorb])⟩
  · rintro s l x u j rfl hu c a b d n out single div
    have hdiv (p q : Rat) : quotient p q = div p q := quotient_eq p q
    exact ⟨fun ho => State.turns_node rfl hu ho (calc1_of_eq fun _ => rfl),
      fun ho => State.turns_node rfl hu ho (calc2_of_eq fun _ => rfl),
      fun ho => State.turns_node rfl hu ho (calc2_of_eq fun _ => rfl),
      fun ho => State.turns_node rfl hu ho (calc2_of_eq fun _ => rfl),
      fun ho => State.turns_node rfl hu ho (calc3_eq _ _),
      fun ho => State.turns_node rfl hu ho (calc1_of_eq fun _ => rfl),
      fun ho => State.turns_node rfl hu ho (calc1_of_eq fun _ => congrArg Elem.of (rabs_eq _)),
      fun ho => State.turns_node rfl hu ho (calc1_of_eq fun _ => rfl),
      fun ho => State.turns_node rfl hu ho (calc2_of_eq fun _ => hdiv _ _),
      fun ho => State.turns_node rfl hu ho (calc1_of_eq fun _ => hdiv _ _),
      fun ho => State.turns_node rfl hu ho (calc1_of_eq fun _ => rfl),
      fun ho => State.turns_node rfl hu ho (calcDot_eq _),
      fun ho => State.turns_node rfl hu ho (calcSum_eq _),
      fun ho hn => State.turns_node rfl hu ho (calcPack_of_le hn),
      fun ho => State.turns_node rfl hu ho (calc3_eq _ _)⟩

end Sys2Proof.Machine
end

section
/-! The observers of the axis engine (R205 to R209): the step of each where its parameters are in range, and its
undefined points. -/

namespace Sys2Proof.Machine

/-! ### PLL and BEMF: a period or an inductance that is not positive is an undefined point (R206, R207) -/

theorem calcPll_of_nonpos {c : NodeCtx} (h : c.par1 2 ≤ 0) : calcPll c = Calc.pure [Elem.bad (c.opState 0), Elem.bad 0] :=
  if_pos h

theorem calcPll_of_pos {c : NodeCtx} (h : 0 < c.par1 2) :
    let e := pllError c (c.opState 0)
    let w := (Encl.of (c.opState 1)).add (e.scale (c.par1 1))
    let th := (((Encl.of (c.opState 0)).add w).add (e.scale (c.par1 0))).wrap
    calcPll c = { out := [.num th, .num (w.scale (1 / c.par1 2))], st := [(0, th), (1, w)], flags := 0 } := if_neg (not_le.2 h)

theorem calcBemf_of_nonpos {c : NodeCtx} (h : c.par2 1 ≤ 0 ∨ c.par2 2 ≤ 0) : calcBemf c = Calc.pure [Elem.bad 0, Elem.bad 0] :=
  if_pos (by simpa using h)

theorem calcBemf_of_pos {c : NodeCtx} (hi : 0 < c.par2 1) (ht : 0 < c.par2 2) :
    let a := c.elem (nodeDesc c.word 0)
    let b := c.elem (nodeDesc c.word 1)
    let st := c.opState
    let cur (k : Nat) : Rat := st k + c.par2 2 / c.par2 1 * (a k - c.par2 0 * st k - st (2 + k)) + c.par2 3 * (b k - st k)
    let emf (k : Nat) : Rat := st (2 + k) - c.par2 4 * (b k - st k)
    calcBemf c = {
      out := [Elem.of (emf 1), Elem.of (-(emf 0))]
      st := [(0, Encl.of (cur 0)), (1, Encl.of (cur 1)), (2, Encl.of (emf 0)), (3, Encl.of (emf 1))]
      flags := 0 } :=
  if_neg (by simp [hi, ht])

/-! ### SATP: the peaks of the two signs (R209) -/

/-- Word k of SATP's operation state before this value: 0 where option bit 1 restarts it. -/
def NodeCtx.satpOld (c : NodeCtx) (k : Nat) : Rat := if c.opt 1 then 0 else c.opState k

/-- The peaks of the positive and the negative sign, with this value in the one that option bit 0 names. -/
def NodeCtx.satpPlus (c : NodeCtx) : Rat :=
  if c.opt 0 then c.satpOld 0 else rmax (c.satpOld 0) (rabs (c.elem (nodeDesc c.word 0) 0))
def NodeCtx.satpMinus (c : NodeCtx) : Rat :=
  if c.opt 0 then rmax (c.satpOld 1) (rabs (c.elem (nodeDesc c.word 0) 0)) else c.satpOld 1

/-- The signs seen: bit 0 the positive, bit 1 the negative. -/
def NodeCtx.satpSeen (c : NodeCtx) : Nat := (c.satpOld 2).floor.toNat ||| (if c.opt 0 then 2 else 1)

/-- The margin between the peaks. -/
def NodeCtx.satpMargin (c : NodeCtx) : Rat := (c.satpPlus - c.satpMinus) / (c.satpPlus + c.satpMinus)

/-- SATP's answer: two elements, and the peaks and the signs seen as its operation state. -/
def NodeCtx.satpCalc (c : NodeCtx) (decision margin : Elem) : Calc :=
  { out := [decision, margin], st := [(0, Encl.of c.satpPlus), (1, Encl.of c.satpMinus), (2, Encl.of c.satpSeen)], flags := 0 }

theorem calcSatp_of_zero {c : NodeCtx} (h : c.satpPlus + c.satpMinus = 0) :
    calcSatp c = c.satpCalc (if c.satpSeen = 3 then Elem.bad 0 else Elem.of 0) (Elem.bad 0) :=
  (if_pos h).trans (congrArg (fun o => { c.satpCalc (Elem.bad 0) (Elem.bad 0) with out := o })
    (apply_ite (fun e => [e, Elem.bad 0]) (c.satpSeen = 3) _ _).symm)

theorem calcSatp_of_ne {c : NodeCtx} (h : c.satpPlus + c.satpMinus ≠ 0) :
    calcSatp c = c.satpCalc (Elem.of (if c.satpSeen ≠ 3 then 0
      else if c.par1 0 ≤ c.satpMargin then 1 else if c.satpMargin ≤ -(c.par1 0) then -1 else 0)) (Elem.of c.satpMargin) :=
  if_neg h

theorem calcSatp_of_unseen {c : NodeCtx} (h : c.satpPlus + c.satpMinus ≠ 0) (hs : c.satpSeen ≠ 3) :
    calcSatp c = c.satpCalc (Elem.of 0) (Elem.of c.satpMargin) := by
  rw [calcSatp_of_ne h, if_pos hs]

theorem calcSatp_of_seen {c : NodeCtx} (h : c.satpPlus + c.satpMinus ≠ 0) (hs : c.satpSeen = 3) :
    calcSatp c = c.satpCalc (Elem.of (if c.par1 0 ≤ c.satpMargin then 1 else if c.satpMargin ≤ -(c.par1 0) then -1 else 0))
      (Elem.of c.satpMargin) := by
  rw [calcSatp_of_ne h, if_neg (not_not.2 hs)]

/-- Settles O30: each observer is the node that its unit holds, where its parameters are in range and where they are not. -/
theorem observerOperations : Obligations.ObserverOperations := by
  rintro s l x u j rfl hu c a b st write
  refine ⟨fun ho => ⟨fun h => ?_, fun h => ?_⟩, fun ho => ⟨fun hi ht => ?_, fun h => ?_⟩, fun ho => ?_,
    fun ho => ⟨fun h hs => ?_, fun h hs => ?_, fun h => ?_⟩⟩
  · exact State.turns_node rfl hu ho (calcPll_of_pos h)
  · exact State.turns_node rfl hu ho (calcPll_of_nonpos h)
  · exact State.turns_node rfl hu ho (calcBemf_of_pos hi ht)
  · exact State.turns_node rfl hu ho (calcBemf_of_nonpos h)
  · exact State.turns_node rfl hu ho rfl
  · exact State.turns_node rfl hu ho (calcSatp_of_unseen h hs)
  · exact State.turns_node rfl hu ho (calcSatp_of_seen h hs)
  · exact State.turns_node rfl hu ho (calcSatp_of_zero h)

end Sys2Proof.Machine
end

section
/-! Control and filter operations of the axis engine (R194 to R197): what each makes of one element, and where reversed
bounds make it an undefined point. -/

namespace Sys2Proof.Machine

/-! ### An operation given element by element (R185, R194) -/

/-- The outcome of one element from its result and the words it stores. -/
def Step1.of (p : Elem × List (Nat × Encl)) : Step1 := { out := p.1, st := p.2 }

/-- Where an operation's undefined point stands, its outcome is that point; elsewhere it is the outcome of its steps. -/
theorem Step1.of_ite (p : Prop) [Decidable p] (y z : Elem × List (Nat × Encl)) :
    Step1.of (if p then y else z) = if p then Step1.of y else Step1.of z := apply_ite ..

theorem calcEach_of_eq {f : NodeCtx → Nat → Rat → Step1} {c : NodeCtx} {g : Nat → Elem × List (Nat × Encl)}
    (h : ∀ k, f c k (c.elem (nodeDesc c.word 0) k) = Step1.of (g k)) :
    calcEach f c =
      { out := (List.range c.len).map fun k => (g k).1, st := (List.range c.len).flatMap fun k => (g k).2, flags := 0 } := by
  simp only [calcEach, Calc.collect, h, Step1.of, List.map_map, List.flatMap_map, Function.comp_def]

/-! ### PI, PID, LIMIT and RATE (R195, R196) -/

/-- The new integrator: it stays while the output is beyond a bound and the error drives it further. -/
def integrator (p kit umax umin i e : Rat) : Rat :=
  if (umax < p + (i + kit * e) ∧ 0 < e) ∨ (p + (i + kit * e) < umin ∧ e < 0) then i else clamp (i + kit * e) umin umax

theorem piSteps_eq (p kit umax umin i e : Rat) :
    piSteps p kit umax umin i e =
      (integrator p kit umax umin i e, clamp (p + integrator p kit umax umin i e) umin umax) := by
  simp only [piSteps, integrator, Bool.or_eq_true, Bool.and_eq_true, decide_eq_true_eq]

theorem piElem_eq (c : NodeCtx) (k : Nat) (e : Rat) :
    let q := c.par 4 k
    let i := integrator (q 0 * e) (q 1) (q 2) (q 3) (c.opState k) e
    piElem c k e =
      Step1.of (if q 2 < q 3 then (Elem.bad 0, []) else (Elem.of (clamp (q 0 * e + i) (q 3) (q 2)), [(k, Encl.of i)])) := by
  simp only [piElem, piSteps_eq, Step1.of_ite]
  rfl

theorem pidElem_eq (c : NodeCtx) (k : Nat) (e : Rat) :
    let q := c.par 6 k
    let d := c.opState (c.len + k) + q 3 * (q 2 * (e - c.opState (2 * c.len + k)) - c.opState (c.len + k))
    let i := integrator (q 0 * e + d) (q 1) (q 4) (q 5) (c.opState k) e
    pidElem c k e =
      Step1.of (if q 4 < q 5 then (Elem.bad 0, [])
        else (Elem.of (clamp (q 0 * e + d + i) (q 5) (q 4)),
          [(k, Encl.of i), (c.len + k, Encl.of d), (2 * c.len + k, Encl.of e)])) := by
  simp only [pidElem, piSteps_eq, Step1.of_ite]
  rfl

theorem limitElem_eq (c : NodeCtx) (k : Nat) (v : Rat) :
    let q := c.par 2 k
    limitElem c k v = Step1.of (if q 0 < q 1 then (Elem.bad 0, []) else (Elem.of (clamp v (q 1) (q 0)), [])) := by
  simp only [limitElem, Step1.of_ite]
  rfl

theorem rateElem_eq (c : NodeCtx) (k : Nat) (v : Rat) :
    let q := c.par 2 k
    let z := c.opState k + clamp (v - c.opState k) (-(q 1)) (q 0)
    rateElem c k v =
      Step1.of (if q 0 < 0 ∨ q 1 < 0 then (Elem.bad (c.opState k), []) else (Elem.of z, [(k, Encl.of z)])) := by
  simp only [rateElem, Bool.or_eq_true, decide_eq_true_eq, Step1.of_ite]
  rfl

/-- Settles O29: each row is the node that its unit holds, its elements one by one: PI, PID, LIMIT and RATE by the lemma of
their steps, the filters by their definitions. -/
theorem controlAndFilterOperations : Obligations.ControlAndFilterOperations := by
  rintro s l x u j rfl hu c a st one elems sum integ section2
  refine ⟨fun ho => ?_, fun ho => ?_, fun ho => ?_, fun ho => ?_, fun ho => ?_, fun ho => ?_, fun ho => ?_⟩
  · exact State.turns_node rfl hu ho (calcEach_of_eq fun k => piElem_eq c k (a k))
  · exact State.turns_node rfl hu ho (calcEach_of_eq fun k => pidElem_eq c k (a k))
  · exact State.turns_node rfl hu ho (calcEach_of_eq fun k => limitElem_eq c k (a k))
  · exact State.turns_node rfl hu ho (calcEach_of_eq fun k => rateElem_eq c k (a k))
  · exact State.turns_node rfl hu ho (calcEach_of_eq fun _ => rfl)
  · exact State.turns_node rfl hu ho (calcEach_of_eq fun _ => rfl)
  · exact State.turns_node rfl hu ho (calcEach_of_eq fun _ => rfl)

end Sys2Proof.Machine
end

section
/-! The input nodes of the axis engine (R189, R202, R210 to R214, R286): the snapshot that each takes of its source, and the
issue of a node to its unit. -/

namespace Sys2Proof.Machine

/-! ### The snapshot of each input node (R210) -/

section
variable {x : Lane} {c : NodeCtx} {t : Event}

theorem Lane.snapshot_rdAdc (h : nodeOp c.word = 0x90) : x.snapshot c t = x.snapAdc c t := by
  simp only [Lane.snapshot, h]

theorem Lane.snapshot_rdPos (h : nodeOp c.word = 0x91) : x.snapshot c t = (x.snapPos c, 0, false) := by
  simp only [Lane.snapshot, h]

theorem Lane.snapshot_rdPdu (h : nodeOp c.word = 0x92) : x.snapshot c t = (x.snapPdu c, 0, false) := by
  simp only [Lane.snapshot, h]

theorem Lane.snapshot_rdTrig (h : nodeOp c.word = 0x93) : x.snapshot c t = (x.snapTrig t, 0, false) := by
  simp only [Lane.snapshot, h]

theorem Lane.snapshot_rdFlags (h : nodeOp c.word = 0x94) : x.snapshot c t = ([(c.slot.shown.toNat : Rat)], 0, false) := by
  simp only [Lane.snapshot, h]

/-! ### RD_ADC (R211, R286) -/

theorem Lane.adcSet_eq (x : Lane) (nn : AxisId) (t : Event) :
    x.adcSet nn t =
      if t.num.toNat = 4 * nn.val + 2 then
        ((x.axis nn).sense.done.find? fun q => q.set = t.ctx.toNat).or (x.axis nn).sense.done.head?
      else (x.axis nn).sense.done.head? := by
  unfold Lane.adcSet
  split <;> rfl

theorem Lane.snapAdc_of_none (h : x.adcSet c.axis t = none) :
    x.snapAdc c t = ((contentInputs (nodeOpt c.word % 4)).map fun _ => 0, 0, false) := by
  simp only [Lane.snapAdc, h]

/-- A conversion that the set holds is read as a fraction of full scale and takes no free code. -/
theorem adcElem_of_mem {v : AdcSet} {i : Fin 6} (h : i ∈ contentInputs v.content) :
    let code := v.codes.getD ((contentInputs v.content).idxOf i) (0, false)
    adcElem x v i = (mkRat code.1 8192, code.2, false) := by
  obtain ⟨k, hk⟩ := Option.isSome_iff_exists.1 (List.isSome_idxOf?.2 h)
  simp only [adcElem, List.idxOf_eq_getD_idxOf?, hk, Option.getD_some]

theorem Lane.snapAdc_of_held {v : AdcSet} (h : x.adcSet c.axis t = some v)
    (hi : ∀ i ∈ contentInputs (nodeOpt c.word % 4), i ∈ contentInputs v.content) :
    let codes := (contentInputs (nodeOpt c.word % 4)).map fun i => v.codes.getD ((contentInputs v.content).idxOf i) (0, false)
    x.snapAdc c t = (codes.map fun k => mkRat k.1 8192, if codes.any (fun k => k.2) then 1 else 0, false) := by
  have he := List.map_congr_left fun i hm => adcElem_of_mem (x := x) (hi i hm)
  simp [Lane.snapAdc, h, he, Function.comp_def]

/-! ### RD_POS and RD_PDU (R212, R213) -/

theorem Lane.snapPos_of_turn (h : nodeOpt c.word % 4 = 0) :
    x.snapPos c = [wrapTurn (turnsOf (x.axis c.axis).acc.mech), x.angleSpeed c.axis, x.angleStatus c.axis] := by
  simp only [Lane.snapPos, h]

theorem Lane.snapPos_of_elec (h : nodeOpt c.word % 4 = 1) :
    x.snapPos c = [wrapTurn (turnsOf ((x.axis c.axis).elec (x.axisRec c.axis))),
      x.angleSpeed c.axis * polePairs (x.axisRec c.axis), x.angleStatus c.axis] := by
  simp only [Lane.snapPos, h]

theorem Lane.snapPos_of_multiturn (h : 2 ≤ nodeOpt c.word % 4) :
    x.snapPos c = [mkRat (toSigned 64 (x.axis c.axis).acc.mech) 4294967296, x.angleSpeed c.axis, x.angleStatus c.axis] := by
  unfold Lane.snapPos
  split
  · omega
  · omega
  · rfl

/-- The elements of a node's payload in its format, from its offset on, times the factor of its endpoint. -/
def Lane.pduData (x : Lane) (c : NodeCtx) (n : Nat) : List Rat :=
  let d := x.delivered c.slot.gateAxis c.endpoint
  (List.range n).map fun i => payloadElem (nodeOpt c.word % 4) d.1 (c.imm + payloadSize (nodeOpt c.word % 4) * i) * d.2.1

theorem Lane.snapPdu_of_plain (h : c.opt 2 = false) : x.snapPdu c = x.pduData c c.len := by
  simp [Lane.snapPdu, Lane.pduData, h, b2n]

theorem Lane.snapPdu_of_status (h : c.opt 2 = true) :
    x.snapPdu c = x.pduData c (c.len - 1) ++ [(x.delivered c.slot.gateAxis c.endpoint).2.2] := by
  simp [Lane.snapPdu, Lane.pduData, h, b2n]

/-! ### RD_TRIG (R214) -/

theorem Lane.snapTrig_eq (x : Lane) (t : Event) :
    x.snapTrig t = [(t.num.toNat : Rat), t.ctx.toNat, if t.late then 1 else 0,
      mkRat ((x.tm.loc.toNat : Int) - t.time.toNat) 1000] := by
  simp [Lane.snapTrig, b2n]

end

/-! ### Issue (R155, R158, R189) -/

theorem Lane.issueTo_of_run {x : Lane} {k : Fin 64} {r : Run} (h : (x.slot k).run = some r) (u : Fin 4) (p n : Nat) :
    let w := (x.slot k).node n
    let v := x.snapshot { slot := x.slot k, word := w, node := n, bank := r.bank } r.trig
    x.issueTo u (p, k, n) = (if v.2.2 then x.useFree else x).setUnit u (some {
      slot := k, node := n, left := nodeCycles w - 1, executed := false, orphan := false, bank := r.bank, trig := r.trig,
      snap := v.1, snapFlags := v.2.1 }) := by
  simp only [Lane.issueTo, h]

/-- Settles O31: each row delivers what its unit took at the issue, the issue of a node of a run takes the snapshot, and the
snapshot is that of the node's operation. -/
theorem inputNodes : Obligations.InputNodes := by
  refine ⟨?_, fun x u k p n r h => Lane.issueTo_of_run h u p n, ?_⟩
  · rintro s l x u j rfl hu y
    exact ⟨fun ho => State.turns_nodeIo rfl hu ho rfl, fun ho => State.turns_nodeIo rfl hu ho rfl,
      fun ho => State.turns_nodeIo rfl hu ho rfl, fun ho => State.turns_nodeIo rfl hu ho rfl,
      fun ho => State.turns_nodeIo rfl hu ho rfl⟩
  · intro x c t nn acc opt newest mine set
    have hset : x.adcSet c.axis t = set := x.adcSet_eq c.axis t
    refine ⟨fun ho => ⟨fun h => ?_, fun v h hi => ?_⟩, fun ho => ⟨fun h => ?_, fun h => ?_, fun h => ?_⟩,
      fun ho => ⟨fun h => ?_, fun h => ?_⟩, fun ho => ?_, fun ho => ?_⟩
    · exact (Lane.snapshot_rdAdc ho).trans (Lane.snapAdc_of_none (hset.trans h))
    · exact (Lane.snapshot_rdAdc ho).trans (Lane.snapAdc_of_held (hset.trans h) hi)
    · rw [Lane.snapshot_rdPos ho, Lane.snapPos_of_turn h]
    · rw [Lane.snapshot_rdPos ho, Lane.snapPos_of_elec h]
    · rw [Lane.snapshot_rdPos ho, Lane.snapPos_of_multiturn h]
    · exact (Lane.snapshot_rdPdu ho).trans (by rw [Lane.snapPdu_of_plain h]; rfl)
    · exact (Lane.snapshot_rdPdu ho).trans (by rw [Lane.snapPdu_of_status h]; rfl)
    · rw [Lane.snapshot_rdTrig ho, Lane.snapTrig_eq]
    · exact Lane.snapshot_rdFlags ho

end Sys2Proof.Machine
end

section
/-! The output nodes of the axis engine (R215 to R220, R353): what WR_ANGLE does to the accumulators, and what each of the nodes
hands to its block. -/

namespace Sys2Proof.Machine

/-! ### The accumulators after an angle is set (R115 to R117, R218) -/

/-- What every step leaves as it is, the whole run leaves. -/
theorem each_fixes {α β γ : Type} {f : α → β → β} {p : β → γ} (h : ∀ a b, p (f a b) = p b) (xs : List α) (b : β) :
    p (each xs f b) = p b := by
  induction xs generalizing b with
  | nil => rfl
  | cons a xs ih => exact (ih (f a b)).trans (h a b)

theorem Lane.cuJump_ax (x : Lane) (u : Fin 24) (b a : Int) : (x.cuJump u b a).ax = x.ax := by
  unfold Lane.cuJump
  dsimp only
  split_ifs <;> rfl

/-- Delay lists and compare units alone see a jump. -/
theorem Lane.jumped_ax (x old : Lane) (sel : Nat → AxisId → Bool) : (x.jumped old sel).ax = x.ax := by
  refine (each_fixes (p := Lane.ax) (fun u z => ?_) _ _).trans (each_fixes (p := Lane.ax) (fun d z => ?_) _ _)
  · split
    · exact z.cuJump_ax u _ _
    · rfl
  · split <;> rfl

theorem Lane.angleJumped_axis (x old : Lane) (nn k : AxisId) : (x.angleJumped old nn).axis k = x.axis k :=
  congrArg (vget · k) (x.jumped_ax old _)

/-- The accumulator that `Lane.setAngle` leaves, from the one before it. -/
def Acc.set (a : Acc) (pos : Rat) (fix : Int) (speed bound : Rat) : Acc :=
  { a with pos := pos, elecFix := fix, valid := true, speed := speed, base := pos, bound := bound }

section
variable (x : Lane) (nn : AxisId) (pos : Rat) (fix : Int) (speed bound : Rat) (jump : Bool)

theorem Lane.setAngle_eq : x.setAngle nn pos fix speed bound jump =
    let y := x.onAxis nn fun a => { a with acc := a.acc.set pos fix speed bound }
    if jump || !(x.axis nn).acc.valid then y.angleJumped x nn else y := rfl

theorem Lane.setAngle_acc : ((x.setAngle nn pos fix speed bound jump).axis nn).acc = (x.axis nn).acc.set pos fix speed bound := by
  rw [Lane.setAngle_eq]
  dsimp only
  split
  · rw [Lane.angleJumped_axis, Lane.onAxis_axis_self]
  · rw [Lane.onAxis_axis_self]

variable {x nn} in
/-- A valid accumulator that is set without a jump disturbs nothing but its axis. -/
theorem Lane.setAngle_of_valid (h : (x.axis nn).acc.valid = true) : x.setAngle nn pos fix speed bound false =
    x.onAxis nn fun a => { a with acc := a.acc.set pos fix speed bound } := by
  rw [Lane.setAngle_eq, h]
  rfl

end

/-- The electrical accumulator holds whatever the rest of R115's product leaves to its target. -/
theorem Axis.elec_of_target {a : Axis} {r : Bytes} {target : Int}
    (h : a.acc.elecFix = target - ((a.acc.mech : Int) * polePairs r + elecOffset r)) : (a.elec r : Int) = target % 2 ^ 64 := by
  rw [Axis.elec, h, add_sub_cancel, Int.toNat_of_nonneg (Int.emod_nonneg _ (by norm_num))]

/-! ### WR_ANGLE (R218, R314) -/

section
variable (x : Lane) (nn : AxisId) (th om : Rat)

/-- The lane with the last written angle and speed kept. -/
def Lane.keepAngle : Lane := x.onAxis nn fun q => { q with acc := { q.acc with written := some (th, om) } }

theorem Lane.keepAngle_axis :
    (x.keepAngle nn th om).axis nn = { x.axis nn with acc := { (x.axis nn).acc with written := some (th, om) } } :=
  Lane.onAxis_axis_self ..

/-- The values kept do not change the angle source in effect (R314). -/
theorem Lane.keepAngle_angleSrc : (x.keepAngle nn th om).angleSrc nn = x.angleSrc nn := by
  unfold Lane.angleSrc
  rw [Lane.keepAngle_axis]
  rfl

/-- The shortest way from the angle that the electrical accumulator of an axis holds to a written one, in turns. -/
def Lane.wayTo : Rat := wrapTurn (th - turnsOf ((x.axis nn).elec (x.axisRec nn)))

/-- What the electrical accumulator gets beyond R115's product, so that it ends the shortest way from where it stands, rounded to its
unit with ties to even (log 42). -/
def Lane.fixFor : Int :=
  let r := x.axisRec nn
  let pos := (x.axis nn).acc.pos + x.wayTo nn th / polePairs r
  (x.axis nn).elec r + roundEven (x.wayTo nn th * 4294967296) -
    (({ (x.axis nn).acc with pos := pos }.mech : Int) * polePairs r + elecOffset r)

variable {x nn th om}

theorem Lane.writeAngle_of_other (h : x.angleSrc nn ≠ 2) : x.writeAngle nn th om = x.keepAngle nn th om :=
  if_pos (by rwa [← x.keepAngle_angleSrc nn th om] at h)

theorem Lane.writeAngle_of_observer (h : x.angleSrc nn = 2) (hs : x.supRuns nn = false) :
    x.writeAngle nn th om = (x.keepAngle nn th om).applyAngle nn th om := by
  have h' := (x.keepAngle_angleSrc nn th om).trans h
  have hs' : (x.keepAngle nn th om).supRuns nn = false := by
    rw [← hs, Lane.supRuns, Lane.supRuns, Lane.keepAngle_angleSrc]
    rfl
  exact (if_neg (not_not.2 h')).trans (if_neg (Bool.eq_false_iff.1 hs'))

theorem Lane.keepAngle_applyAngle : (x.keepAngle nn th om).applyAngle nn th om = (x.keepAngle nn th om).setAngle nn
    ((x.axis nn).acc.pos + x.wayTo nn th / polePairs (x.axisRec nn)) (x.fixFor nn th) (om / polePairs (x.axisRec nn)) 0 false := by
  unfold Lane.applyAngle
  rw [Lane.keepAngle_axis]
  rfl

/-- The accumulators of an axis after WR_ANGLE under OBSERVER without a supervisor. -/
theorem Lane.writeAngle_acc (h : x.angleSrc nn = 2) (hs : x.supRuns nn = false) :
    ((x.writeAngle nn th om).axis nn).acc = Acc.set { (x.axis nn).acc with written := some (th, om) }
      ((x.axis nn).acc.pos + x.wayTo nn th / polePairs (x.axisRec nn)) (x.fixFor nn th) (om / polePairs (x.axisRec nn)) 0 := by
  rw [Lane.writeAngle_of_observer h hs, Lane.keepAngle_applyAngle, Lane.setAngle_acc, Lane.keepAngle_axis]

theorem Lane.writeAngle_elec (h : x.angleSrc nn = 2) (hs : x.supRuns nn = false) :
    (((x.writeAngle nn th om).axis nn).elec (x.axisRec nn) : Int) =
      ((x.axis nn).elec (x.axisRec nn) + roundEven (x.wayTo nn th * 4294967296)) % 2 ^ 64 :=
  Axis.elec_of_target (by rw [Lane.writeAngle_acc h hs]; rfl)

theorem Lane.writeAngle_of_valid (h : x.angleSrc nn = 2) (hs : x.supRuns nn = false) (hv : (x.axis nn).acc.valid = true) :
    x.writeAngle nn th om = x.onAxis nn fun q => { q with acc := ((x.writeAngle nn th om).axis nn).acc } := by
  have hk : ((x.keepAngle nn th om).axis nn).acc.valid = true := by rw [Lane.keepAngle_axis]; exact hv
  rw [Lane.writeAngle_acc h hs, Lane.writeAngle_of_observer h hs, Lane.keepAngle_applyAngle, Lane.setAngle_of_valid _ _ _ _ hk]
  exact (x.onAxis_onAxis nn _ _).trans (x.onAxis_congr nn rfl)

end

/-! ### What the other nodes hand on (R215 to R220) -/

section
variable {x : Lane} {c : NodeCtx} (j : UnitJob)

theorem ioWrDuty_eq :
    let a := c.elem (nodeDesc c.word 0)
    let d (p : Fin 3) : Rat := clamp (a p.val) 0 1
    ioWrDuty x j c = (x.onAxis c.axis fun q => { q with
        pwm := { q.pwm with shadow := Vector.ofFn d }
        red := { q.red with takeover := q.red.takeover.map fun (t : Takeover) => { t with duty := t.duty || t.role } } },
      { out := [Elem.of (d 0), Elem.of (d 1), Elem.of (d 2)], st := [],
        flags := if d 0 = a 0 ∧ d 1 = a 1 ∧ d 2 = a 2 then 0 else 1 }) := by
  intro a d
  have ho : c.operand 0 3 = [a 0, a 1, a 2] := rfl
  have hd : (fun p : Fin 3 => ((c.operand 0 3).map fun v => clamp v 0 1).getD p.val 0) = d := by
    funext p
    fin_cases p <;> rfl
  have hf : (c.operand 0 3 = (c.operand 0 3).map fun v => clamp v 0 1) ↔ d 0 = a 0 ∧ d 1 = a 1 ∧ d 2 = a 2 := by
    simp [ho, d, eq_comm]
  simp only [ioWrDuty, hd, hf]
  rfl

theorem ioWrMask_of_mask {v : Fin 64} (h : roundEven (c.one 0) = v.val) :
    ioWrMask x j c = (x.onAxis c.axis fun q => { q with pwm := { q.pwm with maskReq := some (BitVec.ofNat 6 v.val) } },
      Calc.pure [Elem.of v.val]) := by
  have hv : (0 ≤ (v.val : Int) && (v.val : Int) ≤ 63) = true := by simp; omega
  simp only [ioWrMask, h, hv, if_true, BitVec.ofInt_natCast, Int.cast_natCast]

theorem ioWrMask_of_outside (h : roundEven (c.one 0) < 0 ∨ 63 < roundEven (c.one 0)) :
    ioWrMask x j c = (x, Calc.pure [Elem.bad (x.axis c.axis).pwm.mask.toNat]) :=
  if_neg (by simp; omega)

theorem ioCommut_of_running (h : x.sys.halted = false) :
    ioCommut x j c = ((x.event (4 * c.axis.val + 3) 0).onAxis c.axis fun q =>
      { q with pwm := { q.pwm with stepReq := q.pwm.stepReq + 1 } }, Calc.pure [Elem.of 0]) := by
  simp only [ioCommut, h, Bool.false_eq_true, if_false]

theorem ioCommut_of_halted (h : x.sys.halted = true) : ioCommut x j c = (x, Calc.pure [Elem.of 0]) := by
  simp only [ioCommut, h, if_true]

end

/-! ### WR_PDU (R219) -/

section
variable (x : Lane) (e : Fin 512) (off : Nat) (data : Bytes) (send : Bool)

theorem Lane.writePdu_of_other (h : connRole (x.connRec e) ≠ 1) : x.writePdu e off data send = x := if_pos h

theorem Lane.writePdu_of_producer (h : connRole (x.connRec e) = 1) :
    let put (p : Endpoint) : Bytes := stagePayload (connLength (x.connRec e)) p.staging off data
    let sent (p : Endpoint) : Endpoint := if send
      then { p with
        staging := put p, complete := some (put p), stale := false
        st := if p.st = .waiting ∨ p.st = .stale then .running else p.st }
      else { p with staging := put p }
    x.writePdu e off data send = { x with eps := vmod x.eps e sent } := by
  simp only [Lane.writePdu, h, ne_eq, not_true_eq_false, if_false, Lane.onEp, Bool.or_eq_true, decide_eq_true_eq]

end

/-- Settles O32: WR_ANGLE moves the accumulators by the lemmas above, and each row executes the node that its unit holds. -/
theorem outputNodes : Obligations.OutputNodes := by
  refine ⟨fun x nn th om => ?_, ?_⟩
  · intro r a y
    refine ⟨Lane.writeAngle_of_other, fun h hs => ?_⟩
    intro d w
    have hw : w = _ := Lane.writeAngle_acc h hs
    exact ⟨congrArg Acc.pos hw, congrArg Acc.valid hw, congrArg Acc.speed hw, congrArg Acc.written hw, Lane.writeAngle_elec h hs,
      Lane.writeAngle_of_valid h hs⟩
  · rintro s l x u j rfl hu c nn a
    refine ⟨fun ho => ?_, fun ho => ⟨fun v h => ?_, fun h => ?_⟩, fun ho => ⟨fun h => ?_, fun h => ?_⟩, fun ho => ?_, fun ho => ?_,
      fun ho => ?_⟩
    · exact State.turns_nodeIo rfl hu ho (ioWrDuty_eq j)
    · exact State.turns_nodeIo rfl hu ho (ioWrMask_of_mask j h)
    · exact State.turns_nodeIo rfl hu ho (ioWrMask_of_outside j h)
    · exact State.turns_nodeIo rfl hu ho (ioCommut_of_running j h)
    · exact State.turns_nodeIo rfl hu ho (ioCommut_of_halted j h)
    · exact State.turns_nodeIo rfl hu ho rfl
    · intro xs codes put sent
      have hc : (c.operand 0 c.len).map (payloadCode (nodeOpt c.word % 4)) = xs := List.map_map ..
      have hio : ∀ {y}, (s.lane l).writePdu c.endpoint c.imm (xs.flatMap fun v => v.1) (c.opt 2) = y →
          ioWrPdu (s.lane l) j c = (y, codes) := by
        rintro y rfl
        simp only [ioWrPdu, hc]
        rfl
      exact ⟨fun h => State.turns_nodeIo rfl hu ho (hio (Lane.writePdu_of_producer _ _ _ _ _ h)),
        fun h => State.turns_nodeIo rfl hu ho (hio (Lane.writePdu_of_other _ _ _ _ _ h))⟩
    · exact State.turns_nodeIo rfl hu ho rfl

end Sys2Proof.Machine
end

section
/-! The gate-driver die (R241, R257 to R263, R275): what a switch command, a readback mismatch, a short and the end of a turn-off
stage do, case by case. -/

namespace Sys2Proof.Machine

section
variable {x : Lane} {nn : AxisId} {sw : Switch}

/-! ### Switch commands (R241, R257, R260, R275) -/

theorem Lane.axisCommand_on_of_disabled_or_held (h : (x.axis nn).enabled = false ∨ x.patternHeld nn = true) : x.axisCommand nn sw true = x :=
  (if_neg (by decide)).trans (if_pos (by rcases h with h | h <;> simp [h]))

section
variable (he : (x.axis nn).enabled = true) (hp : x.patternHeld nn = false)
include he hp

theorem Lane.axisCommand_on_of_complement_off (h : bit (x.axis nn).gate.cmd (other sw).val = false) :
    x.axisCommand nn sw true = (x.onAxis nn fun a => { a with gate := { a.gate with
      cmd := bitPut a.gate.cmd sw.val true, blank := bitPut a.gate.blank sw.val true } }).driveGates nn :=
  (if_neg (by decide)).trans ((if_neg (by simp [he, hp])).trans (if_neg (by simp [h])))

theorem Lane.axisCommand_on_of_complement_on (h : bit (x.axis nn).gate.cmd (other sw).val = true) :
    x.axisCommand nn sw true = x.interlock nn (phaseOf sw) :=
  (if_neg (by decide)).trans ((if_neg (by simp [he, hp])).trans (if_pos h))

end

/-! ### Readback (R258) -/

theorem Lane.readback_of_disabled (h : rbEnabled (x.axisRec nn) = false) (high : Bool) : x.readback nn sw high = x :=
  if_pos (by simp [h])

theorem Lane.readback_of_enabled (h : rbEnabled (x.axisRec nn) = true) (high : Bool) :
    x.readback nn sw high = ((x.onAxis nn fun a => { a with gate := { a.gate with
      readback := bitPut a.gate.readback (phaseOf sw).val true } }).autoOpen nn).gateFault nn 3 (gateDetail sw high 0) :=
  if_neg (by simp [h])

/-! ### Shorts (R260, R262, R263) -/

/-- A detector is armed at a switch that is on and whose leg has no short latched. -/
theorem Lane.shortArmed_iff :
    x.shortArmed nn sw = true ↔ vget (x.axis nn).gate.drive sw = .on ∧ bit (x.axis nn).gate.short (phaseOf sw).val = false := by
  simp [Lane.shortArmed]

/-- The detector `cell` is enabled: the sense cell's, or the switch voltage's (R255). -/
def Lane.detectorOn (x : Lane) (nn : AxisId) (cell : Bool) : Bool :=
  if cell then scellEnabled (x.axisRec nn) nn else scEnabled (x.axisRec nn)

theorem Lane.shortDetected_eq (cell : Bool) : x.shortDetected nn sw cell =
    if x.detectorOn nn cell = true ∧ x.shortArmed nn sw = true ∧ bit (x.axis nn).gate.blank sw.val = false
    then x.latchShort nn sw (b2n cell) else x := by
  show (if (x.detectorOn nn cell && x.shortArmed nn sw && !bit (x.axis nn).gate.blank sw.val) = true then _ else x) = _
  simp only [Bool.and_eq_true, Bool.not_eq_true', and_assoc]

theorem Lane.shortDetected_of_armed {cell : Bool} (ha : x.shortArmed nn sw = true)
    (hb : bit (x.axis nn).gate.blank sw.val = false) (he : x.detectorOn nn cell = true) :
    x.shortDetected nn sw cell = x.latchShort nn sw (b2n cell) :=
  (Lane.shortDetected_eq cell).trans (if_pos ⟨he, ha, hb⟩)

theorem Lane.shortDetected_of_not {cell : Bool}
    (h : ¬ x.shortArmed nn sw = true ∨ bit (x.axis nn).gate.blank sw.val = true ∨ x.detectorOn nn cell = false) :
    x.shortDetected nn sw cell = x :=
  (Lane.shortDetected_eq cell).trans (if_neg (by rcases h with h | h | h <;> simp [h]))

theorem Lane.fastTrip_of_armed (ha : x.shortArmed nn sw = true) (he : scellEnabled (x.axisRec nn) nn = true) :
    x.fastTrip nn sw = x.latchShort nn sw 2 := if_pos (by simp [ha, he])

theorem Lane.fastTrip_of_not (h : ¬ x.shortArmed nn sw = true ∨ scellEnabled (x.axisRec nn) nn = false) : x.fastTrip nn sw = x :=
  if_neg (by rcases h with h | h <;> simp [h])

end

/-- Settles O37: each row is the branch that the enables, the gate and the commands of the leg ask for; a gate outside the stage that
ends is left as it is. -/
theorem gateCommandAndFaultRows : Obligations.GateCommandAndFaultRows := by
  rintro s l x nn sw rfl a leg detail reported latched lit
  have armed : (s.lane l).shortArmed nn sw = true ↔ lit := Lane.shortArmed_iff
  refine ⟨State.turns_onLane rfl rfl, fun he hp => ⟨fun h => ?_, fun h => ?_⟩, fun h => ?_, fun u on => State.turns_onLane rfl rfl,
    fun high => ⟨fun h => ?_, fun h => ?_⟩, State.turns_onLane rfl rfl, fun hl hb => ⟨fun h => ?_, fun h => ?_⟩, fun hl h => ?_,
    fun h => ?_, fun h => ?_, fun h => ?_, fun h => ?_, fun h => ?_, fun h => ?_, fun h => ?_⟩
  · exact State.turns_onLane rfl (Lane.axisCommand_on_of_complement_off he hp h)
  · exact State.turns_onLane rfl (Lane.axisCommand_on_of_complement_on he hp h)
  · exact State.turns_onLane rfl (Lane.axisCommand_on_of_disabled_or_held h)
  · exact State.turns_onLane rfl (Lane.readback_of_enabled h high)
  · exact State.turns_onLane rfl (Lane.readback_of_disabled h high)
  · exact State.turns_onLane rfl (Lane.shortDetected_of_armed (cell := false) (armed.2 hl) hb h)
  · exact State.turns_onLane rfl (Lane.shortDetected_of_armed (cell := true) (armed.2 hl) hb h)
  · exact State.turns_onLane rfl (Lane.fastTrip_of_armed (armed.2 hl) h)
  · exact State.turns_onLane rfl (Lane.shortDetected_of_not (cell := false) (h.imp_left (mt armed.1)))
  · exact State.turns_onLane rfl (Lane.shortDetected_of_not (cell := true) (h.imp_left (mt armed.1)))
  · exact State.turns_onLane rfl (Lane.fastTrip_of_not (h.imp_left (mt armed.1)))
  · exact State.turns_onLane rfl (if_neg h)
  · exact State.turns_onLane rfl (if_neg h)
  · exact State.turns_onLane rfl (if_pos h)
  · exact State.turns_onLane rfl (if_pos h)

end Sys2Proof.Machine
end

section
/-! The supplies of the gate-driver die and x_GDEN (R265, R266, R272, R273): a VGD group that is lost, a floating supply that falls and
the rise of x_GDEN. -/

namespace Sys2Proof.Machine

section
variable {x : Lane}

theorem Lane.groupInvalid_of_invalid {g : Fin 4} (h : bit x.gd.valid g.val = false) : x.groupInvalid g = x := if_pos (by simp [h])

/-- A group that was valid drives its gates low before its undervoltage is latched and reported. -/
theorem Lane.groupInvalid_of_valid {g : Fin 4} (h : bit x.gd.valid g.val = true) : x.groupInvalid g =
    ({ x with gd := { x.gd with valid := bitPut x.gd.valid g.val false } }.driveAll).groupLatch g := if_neg (by simp [h])

/-- A floating supply is watched where its axis is enabled and its group valid. -/
theorem Lane.floatLatch_eq (nn : AxisId) (p : Phase) : x.floatLatch nn p =
    if (x.axis nn).enabled = true ∧ bit x.gd.valid (groupOf nn) = true then
      ((x.onAxis nn fun a => { a with gate := { a.gate with uvlo := bitPut a.gate.uvlo p.val true } }).autoOpen nn).gateFault nn 0 (4 + p.val)
    else x := if_congr (Bool.and_eq_true_iff) rfl rfl

theorem Lane.gdenRise_of_high (h : x.gd.gden = true) (long : Bool) : x.gdenRise long = x := if_pos h

theorem Lane.gdenRise_of_low (h : x.gd.gden = false) (long : Bool) : x.gdenRise long =
    if long = true then (({ x with gd := { x.gd with gden := true } } : Lane).clearGateLatches.relatch).driveAll
    else ({ x with gd := { x.gd with gden := true } } : Lane).driveAll := if_neg (by simp [h])

end

/-- Settles O38: the rows of a group, of a floating supply and of x_GDEN are the branches of whether the group was valid, the supply is
watched and x_GDEN was high. -/
theorem gateSupplyRows : Obligations.GateSupplyRows := by
  rintro s l x rfl
  refine ⟨fun g => ⟨fun h => ?_, fun h => ?_, State.turns_onLane rfl rfl⟩,
    fun nn p => ⟨State.turns_onLane rfl rfl, State.turns_onLane rfl (Lane.floatLatch_eq nn p)⟩,
    State.turns_onLane rfl rfl, fun h => ⟨?_, ?_⟩, fun h long => ?_⟩
  · exact State.turns_onLane rfl (Lane.groupInvalid_of_valid h)
  · exact State.turns_onLane rfl (Lane.groupInvalid_of_invalid h)
  · exact State.turns_onLane rfl (Lane.gdenRise_of_low h true)
  · exact State.turns_onLane rfl (Lane.gdenRise_of_low h false)
  · exact State.turns_onLane rfl (Lane.gdenRise_of_high h long)

end Sys2Proof.Machine
end

section
/-! The slices of a self-test run (R377, R391 to R393, R398): how one starts, how it ends, and what lifting its mask reports. -/

namespace Sys2Proof.Machine

/-! ### The start of a slice (R276, R391, R393, R398) -/

theorem Lane.dispatchIdle_iff (x : Lane) :
    x.dispatchIdle = true ↔ (∀ i : Fin 64, (x.slot i).run = none) ∧ ∀ u : UnitId, x.unit u = none := by
  simp [Lane.dispatchIdle, idxs]

/-- The next slice is the first of a run that quiets the lane: a shutdown or a service run (R398). -/
def TestRun.quiets (q : TestRun) : Bool := q.fresh && decide (q.kind ≠ RunKind.startup)

theorem TestRun.quiets_iff {q : TestRun} (hn : q.now = none) :
    q.quiets = true ↔ q.kind ≠ RunKind.startup ∧ q.passed = 0 ∧ q.failed = 0 := by
  simp only [TestRun.quiets, TestRun.fresh, hn, Option.isNone_none, Bool.true_and, Bool.and_eq_true, decide_eq_true_eq]
  exact and_comm

/-- Slice `k` in progress with the slices `ks` left: its sources are masked, and for a VGD group's every gate is low (R276, R377). -/
def Lane.sliceBegun (x : Lane) (q : TestRun) (k : Nat) (ks : List Nat) : Lane :=
  let w := { x with tst := { x.tst with run := some { q with now := some k, todo := ks } } }.maskSources (sliceSources k) true
  (if 14 ≤ k ∧ k ≤ 17 then { w with gd := { w.gd with heldLow := true } }.driveAll else w).event 224 k

/-- The first slice left starts, in the lane quieted where the run asks for it; with none left nothing does (R393, R398). -/
def Lane.sliceNext (x : Lane) (q : TestRun) : Lane :=
  match q.todo with
  | [] => x
  | k :: ks => (if q.quiets = true then x.quiesce q.kind else x).sliceBegun q k ks

theorem Lane.sliceNext_of_nil (x : Lane) {q : TestRun} (h : q.todo = []) : x.sliceNext q = x := by simp only [Lane.sliceNext, h]

theorem Lane.sliceNext_of_cons (x : Lane) {q : TestRun} {k : Nat} {ks : List Nat} (h : q.todo = k :: ks) :
    x.sliceNext q = (if q.quiets = true then x.quiesce q.kind else x).sliceBegun q k ks := by simp only [Lane.sliceNext, h]

section
variable {x : Lane} {q : TestRun}

theorem Lane.sliceStart_of_not_ready
    (h : x.awake = false ∨ x.tst.run = none ∨ ∃ q, x.tst.run = some q ∧ (q.now ≠ none ∨ q.wake = true)) : x.sliceStart = x := by
  cases hr : x.tst.run with
  | none => simp only [Lane.sliceStart, hr]
  | some q =>
    have hstays : (!x.awake || q.now.isSome || q.wake) = true := by
      simpa [hr, Option.isSome_iff_ne_none, or_assoc] using h
    simp only [Lane.sliceStart, hr, hstays, if_true]

theorem Lane.sliceStart_of_ready (ha : x.awake = true) (hr : x.tst.run = some q) (hn : q.now = none) (hw : q.wake = false) :
    x.sliceStart = if q.quiets = true ∧ ¬ x.dispatchIdle = true then x.stopSlots true else x.sliceNext q := by
  have hready : (!x.awake || q.now.isSome || q.wake) = false := by simp [ha, hn, hw]
  simp only [Lane.sliceStart, hr, hready, Bool.false_eq_true, if_false]
  refine if_congr (by simp [TestRun.quiets]) rfl ?_
  cases ht : q.todo with
  | nil => rw [x.sliceNext_of_nil ht]
  | cons k ks =>
    rw [x.sliceNext_of_cons ht]
    exact congrArg (fun y : Lane => y.event 224 k) (if_congr (by simp) rfl rfl)

end

/-! ### The end of a slice (R377, R391, R392) -/

section
variable {x : Lane} (h : x.tst.run = none ∨ ∃ q, x.tst.run = some q ∧ q.now = none)
include h

theorem Lane.sliceDone_of_no_slice (ok : Bool) : x.sliceDone ok = x := by
  rcases h with hr | ⟨q, hr, hn⟩ <;> simp only [Lane.sliceDone, *]

theorem Lane.sliceEnd_of_no_slice (sig : W64) : x.sliceEnd sig = x := by
  rcases h with hr | ⟨q, hr, hn⟩ <;> simp only [Lane.sliceEnd, *]

end

section
variable {x : Lane} {q : TestRun} {k : Nat} (hr : x.tst.run = some q) (hk : q.now = some k)
include hr hk

theorem Lane.sliceDone_of_slice (ok : Bool) : x.sliceDone ok =
    { (x.reinit k).unmask k with tst := { ((x.reinit k).unmask k).tst with run := some { q with
        now := none, passed := if ok = true then bitPut q.passed k true else q.passed,
        failed := if ok = true then q.failed else bitPut q.failed k true } } }.event (if ok = true then 225 else 226) k := by
  simp only [Lane.sliceDone, hr, hk]

theorem Lane.sliceEnd_of_slice (sig : W64) : x.sliceEnd sig = x.sliceDone (decide (sig = Config.sliceSignature x.idx k)) := by
  simp only [Lane.sliceEnd, hr, hk]

end

/-! ### The mask lifted (R363, R364, R377) -/

theorem Lane.lineStill_eq (x : Lane) (k i : Nat) : x.lineStill k i =
    (x.lineHeld i || (decide (16 ≤ i ∧ i ≤ 22) && bit x.sys.badClocks (i - 16)) || (decide (k = 23) && bit x.fc.present i)) := by
  rw [Bool.decide_and]
  rfl

/-- Settles O47: the start is the branch of whether a slice can start and whether it waits for the dispatcher; both ends share the row's
meaning with the verdict of the signature. -/
theorem selfTestSlices : Obligations.SelfTestSlices := by
  refine ⟨?_, fun x k => ?_⟩
  · rintro s l x rfl
    refine ⟨fun q ha hr hn hw => ?_, fun h => State.turns_onLane rfl (Lane.sliceStart_of_not_ready h), fun q k hr hk => ?_,
      fun h => ⟨State.turns_onLane rfl (Lane.sliceDone_of_no_slice h false),
        fun sig => State.turns_onLane rfl (Lane.sliceEnd_of_no_slice h sig)⟩⟩
    · intro first idle z starts
      have hfirst : q.quiets = true ↔ first := TestRun.quiets_iff hn
      have hidle : (s.lane l).dispatchIdle = true ↔ idle := Lane.dispatchIdle_iff _
      have hstart := (Lane.sliceStart_of_ready ha hr hn hw).trans
        (if_congr (and_congr hfirst (not_congr hidle)) rfl rfl)
      have hgoes (h : ¬first ∨ idle) : (s.lane l).sliceStart = (s.lane l).sliceNext q :=
        hstart.trans (if_neg fun hw => h.elim (· hw.1) hw.2)
      refine ⟨fun hf hi => State.turns_onLane rfl (hstart.trans (if_pos ⟨hf, hi⟩)), fun h ht => ?_, fun h k ks ht => ?_⟩
      · exact State.turns_onLane rfl ((hgoes h).trans (Lane.sliceNext_of_nil _ ht))
      · have hz : (if q.quiets = true then (s.lane l).quiesce q.kind else s.lane l) = z := if_congr hfirst rfl rfl
        refine State.turns_onLane rfl ((hgoes h).trans ((Lane.sliceNext_of_cons _ ht).trans ?_))
        rw [hz]
        rfl
    · have hdone := Lane.sliceDone_of_slice hr hk
      have hend := Lane.sliceEnd_of_slice hr hk
      refine ⟨?_, fun sig h => ?_, State.turns_onLane rfl (hdone false)⟩
      · exact State.turns_onLane rfl ((hend _).trans (by rw [decide_eq_true rfl]; exact hdone true))
      · exact State.turns_onLane rfl ((hend sig).trans (by rw [decide_eq_false h]; exact hdone false))
  · intro ks still again bad z w
    have hstill : (ks.filter fun i => x.lineStill k i) = still := List.filter_congr fun i _ => x.lineStill_eq k i
    have hagain : x.stillReport = again := rfl
    have hunmask : x.unmask k = if (still.map again).isEmpty && bad.isEmpty then w else w.collect (still.map again ++ bad.map wired) := by
      rw [← hstill, ← hagain]
      rfl
    rw [hunmask]
    exact if_congr (by simp) rfl rfl

end Sys2Proof.Machine
end

section
/-! The Greens (19_network_and_greens.md): the states they keep. -/

namespace Sys2Proof.Machine

/-- A state with the same Greens is as good. -/
theorem State.greensOk_of_greens {s t : State} (h : s.GreensOk) (e : t.greens = s.greens) : t.GreensOk := fun g => by
  have : t.green g = s.green g := congrArg (vget · g) e
  rw [this]; exact h g

/-- A reset, made or not, leaves a Green in range. -/
theorem Green.ok_ite_afterReset {x : Green} (h : x.Ok) (p : Prop) [Decidable p] (y : Green) : (if p then y.afterReset else x).Ok := by
  split
  · exact Green.ok_afterReset y
  · exact h

/-- What the row of a Green does to it keeps it in range. -/
theorem exec_greensOk_of_green {s t : State} (h : s.GreensOk) {c : Instr} {g : GreenId} (hr : c.region = some (.green g))
    (hp : ¬PowerRow c) (ht : exec c s = .next t) : t.GreensOk := by
  have row {f : Green → Green} (hf : ∀ x : Green, x.Ok → (f x).Ok) (e : exec c s = .next (s.onGreen g f)) : t.GreensOk := by
    cases e.symm.trans ht
    exact State.greensOk_onGreen h g hf
  cases c with
  | greenFrameIngress g' p f u => cases hr; exact row (fun _ hx => Green.ok_ingress hx g p f u) rfl
  | slotEndTruncate g' p => cases hr; exact row (fun _ hx => Green.ok_truncate hx p) rfl
  | greenCycleEnd g' => cases hr; exact row (fun _ => Green.ok_cycleEnd) rfl
  | greenStatusSend g' => cases hr; exact row (fun _ hx => Green.ok_sendStatus hx g) rfl
  | portLinkChange g' p k => cases hr; exact row (fun _ hx => Green.ok_linkChange hx p k) rfl
  | greenBlockEnd g' => cases hr; exact row (fun _ => Green.ok_blockEnd) rfl
  | greenSyncLoss g' => cases hr; exact row (fun _ => Green.ok_syncLoss) rfl
  | greenTestPin g' high =>
    cases hr
    refine row (f := fun x => if x.testPin = high then x else { x with testPin := high }.afterReset) (fun x hx => ?_) rfl
    rw [← ite_not]
    exact Green.ok_ite_afterReset hx _ _
  | greenOverTemperature g' => cases hr; exact row (fun _ _ => Green.ok_afterReset _) rfl
  | greenCooled g' => cases hr; exact row (fun _ hx => Green.ok_ite_afterReset hx _ _) rfl
  | clockFault k =>
    cases k with
    | laneClock => cases hr
    | greenClock g' =>
      cases hr
      exact row (f := fun x => { x with clockOk := false })
        (fun _ hx => Green.ok_congr hx rfl rfl rfl (fun _ => rfl) rfl rfl rfl rfl) rfl
  | supplyValid => exact absurd trivial hp
  | supplyLost => exact absurd trivial hp
  | _ => cases hr

/-- A supply that becomes valid resets its Green or leaves it. -/
theorem State.supplyValid_greensOk {s : State} (h : s.GreensOk) (r : Region) : (s.supplyValid r).GreensOk := by
  unfold State.supplyValid
  split
  · exact h
  · cases r with
    | lane l => exact State.greensOk_of_greens h (State.onLane_greens ..)
    | green g =>
      refine State.greensOk_onGreen h g fun x hx => ?_
      rw [← ite_not]
      exact Green.ok_ite_afterReset hx _ _

/-- A supply that is lost resets its Green. -/
theorem State.supplyLost_greensOk {s : State} (h : s.GreensOk) (r : Region) : (s.supplyLost r).GreensOk := by
  have hu : (s.unfeed r).GreensOk := State.greensOk_of_greens h (by simp only [State.unfeed])
  cases r with
  | lane l => exact State.greensOk_of_greens hu (State.onLane_greens ..)
  | green g => exact State.greensOk_onGreen hu g fun x _ => Green.ok_afterReset _

/-- The rows of the power branches keep the Greens in range. -/
theorem exec_greensOk_of_powerRow {s t : State} (h : s.GreensOk) {c : Instr} (hp : PowerRow c) (ht : exec c s = .next t) :
    t.GreensOk := by
  cases c with
  | branchOverload g k star => cases ht; exact State.greensOk_of_greens h rfl
  | pdClassification g p => cases ht; exact State.greensOk_of_greens h rfl
  | homePortLoss l g => cases ht; exact State.greensOk_of_greens h (State.onLane_greens ..)
  | supplyValid r => cases ht; exact State.supplyValid_greensOk h r
  | supplyLost r => cases ht; exact State.supplyLost_greensOk h r
  | _ => exact hp.elim

/-- Every command keeps the Greens in range. -/
theorem exec_greensOk {s t : State} (h : s.GreensOk) {c : Instr} (ht : exec c s = .next t) : t.GreensOk := by
  by_cases hp : PowerRow c
  · exact exec_greensOk_of_powerRow h hp ht
  · obtain ⟨l, f, -, e⟩ | ⟨g, f, hr, -⟩ | hp' := exec_cases c s
    · cases e.symm.trans ht; exact State.greensOk_of_greens h (State.onLane_greens ..)
    · exact exec_greensOk_of_green h hr hp ht
    · exact absurd hp' hp

/-- Settles O5: an empty queue leaves the state, a command changes a lane, a Green by an operation that keeps it in range, or
a power branch, which resets Greens alone. -/
theorem greensInvariant : Obligations.GreensInvariant := by
  intro s t h ht
  cases hq : s.pending with
  | nil => simp only [step, hq] at ht; cases ht; exact h
  | cons c cs =>
    rw [step_of_pending_cons hq] at ht
    exact exec_greensOk (s := { s with pending := cs }) (State.greensOk_of_greens h rfl) ht

/-- Settles O9: the code of each of the five states, and the reading of every number, by the cases of the two definitions. -/
theorem portStateCodes : Obligations.PortStateCodes := by
  refine ⟨rfl, rfl, rfl, rfl, rfl, fun st => by cases st <;> rfl, fun n hn => ?_⟩
  match n, hn with
  | n + 5, _ => rfl

end Sys2Proof.Machine
end

section
/-! The sequence check of a consumer (R453, R454, R461). -/

namespace Sys2Proof.Machine

theorem seqCheck_of_free {last : Option W16} {restart : Bool} (h : last = none ∨ restart = true) (q : Nat) :
    seqCheck last restart q = (true, 0) := by
  cases last with
  | none => rfl
  | some p => simp only [seqCheck, h.resolve_left (Option.some_ne_none p), if_true]

/-- With a last sequence and no RESTART the step forward modulo 2^16 decides. -/
theorem seqCheck_of_last {p : W16} (q : Nat) {d : Nat} (hd : d = (((q : Int) - p.toNat) % 65536).toNat) :
    seqCheck (some p) false q = if 1 ≤ d ∧ d ≤ 32767 then (true, d - 1) else (false, 0) := by
  have hp : p.toNat < 65536 := p.isLt
  have : (q + 65536 - p.toNat) % 65536 = d := by omega
  simp only [seqCheck, this, Bool.false_eq_true, if_false, Bool.and_eq_true, decide_eq_true_eq]

section
variable {x : Lane} {e : Fin 512} {c : Bytes} {o : Nat} (h : pduForm (x.connRec e) c o = none)
include h

/-- A sequence that passes is never counted under SEQUENCE, and LOST takes what step 4 found. -/
theorem Lane.pduCheck_of_order {n : Nat} (hq : x.pduOrder e c o = (true, n)) (t : Int) :
    (x.pduCheck e c o t).1 ≠ .discard 2 ∧ (x.pduCheck e c o t).2 = n := by
  rw [Lane.pduCheck_of_in_order h (by rw [hq]), hq]
  refine ⟨?_, rfl⟩
  dsimp only
  split <;> simp

end

/-- An endpoint that CONN_OPEN opens has no last sequence. -/
theorem Lane.openConn_seq {x : Lane} {e : Fin 512} (hst : (x.ep e).st = .closed ∨ (x.ep e).st = .failed)
    (hok : (x.openConn e).2 = stsOk) : ((x.openConn e).1.ep e).seq = none := by
  by_cases hr : connRole (x.connRec e) = 0
  · rw [Lane.openConn_of_unused hr] at hok
    exact absurd hok (show stsState ≠ stsOk by decide)
  · rw [Lane.openConn_of_shut hr hst] at hok ⊢
    split at hok
    · exact absurd hok (show stsVersion ≠ stsOk by decide)
    · next hb => rw [if_neg hb, Lane.onEp_ep_self]; rfl

/-- The first PDU of a container for an endpoint: LOST first, then the verdict. -/
theorem Lane.pduOffer_of_first {x : Lane} {slot : Nat} {c : Bytes} {o : Nat} {e : Fin 512}
    (he : x.consumerOf slot (fieldAt c o 2) = some e) {seen : List (Fin 512)} (hs : e ∉ seen) (t : Int) :
    x.pduOffer slot c t seen o =
      let z := x.onEp e fun q => q.count 3 (x.pduCheck e c o t).2
      match (x.pduCheck e c o t).1 with
      | .discard k => (z.onEp e fun q => { q.count k 1 with okRun := 0 }, e :: seen)
      | .accept => ((z.pduAccept e c o).judgeOffers e, e :: seen) := by
  unfold Lane.pduOffer
  rw [he]
  exact if_neg (mt List.contains_iff_mem.mp hs)

/-- Settles O10: the two branches of the sequence check, CONN_OPEN's endpoint, and the reader's branch for a first PDU. -/
theorem sequenceCheck : Obligations.SequenceCheck := by
  refine ⟨?_, ?_, ?_⟩
  · intro x e c o t hf q restart v
    refine ⟨fun hfree => Lane.pduCheck_of_order hf (seqCheck_of_free hfree _) t, fun p hp hr => ?_⟩
    have horder := (congrArg₂ (seqCheck · · q) hp hr).trans (seqCheck_of_last q rfl)
    exact ⟨fun hd => Lane.pduCheck_of_order hf (horder.trans (if_pos hd)) t,
      fun hd => Lane.pduCheck_of_out_of_order hf (congrArg Prod.fst (horder.trans (if_neg fun hp' => by omega))) t⟩
  · rintro x y e rfl hst hok
    exact Lane.openConn_seq hst hok
  · intro x slot c t seen o e he hs
    exact Lane.pduOffer_of_first he hs t

end Sys2Proof.Machine
end

section
/-! A Green's slot ends, cycle ends, STATUS frames and links (R410 to R415, R430, R433, R436, R440, R441). -/

namespace Sys2Proof.Machine

section
variable {x : Green}

theorem Green.truncate_of_arriving (h : x.on = true) {p : Fin 19} (hp : p ∈ x.arriving) : x.truncate p =
    (({ x with arriving := x.arriving.filter fun q => q ≠ p,
               egress := x.egress.map fun (b : Nat × CttFrame) => (b.1, { b.2 with fcsOk := false }) }).onPort p fun q =>
      q.count 3).violate p :=
  if_neg (by simp [h, hp])

theorem Green.truncate_of_not (p : Fin 19) (h : x.on = false ∨ p ∉ x.arriving) : x.truncate p = x :=
  if_pos (by simpa using h)

theorem Green.sendStatus_of_on (h : x.on = true) (g : GreenId) : x.sendStatus g = { x with
    egress := [(16, x.statusFrame g), (17, x.statusFrame g), (18, x.statusFrame g)], statusPort := (x.statusPort + 1) % 16 } :=
  if_neg (by simp [h])

theorem Green.sendStatus_of_off (h : x.on = false) (g : GreenId) : x.sendStatus g = x := if_pos (by simp [h])

/-- What a link change makes of a port (R411, R414, R415). -/
def GPort.relink (q : GPort) : LinkChange → GPort
  | .down => { (if q.up = true then q.count 6 else q) with st := .down, viols := [], clean := 0 }
  | .training => if q.st = .down then { q with st := .training } else q
  | .up => { q with st := if q.shut = true then .closed else .opened }

theorem Green.onPort_congr (x : Green) (p : Fin 19) {f k : GPort → GPort} (h : f (x.port p) = k (x.port p)) :
    x.onPort p f = x.onPort p k := by
  have h' : f (vget x.ports p) = k (vget x.ports p) := h
  simp only [Green.onPort, vmod, h']

theorem Green.linkChange_of_on (h : x.on = true) (p : Fin 16) (c : LinkChange) :
    x.linkChange p c = x.onPort (fin p.val) fun _ => (x.port (fin p.val)).relink c := by
  refine (if_neg (by simp [h])).trans (Green.onPort_congr x _ ?_)
  cases c <;> rfl

theorem Green.linkChange_of_off (h : x.on = false) (p : Fin 16) (c : LinkChange) : x.linkChange p c = x := if_pos (by simp [h])

theorem Green.syncLoss_of_quiet (h : x.on = true) (hs : x.synced = true) (hq : 8 ≤ x.quiet) : x.syncLoss = { x with
    synced := false, block := none, lastFwd := [], follow := none, coldNow := false, quiet := 0, arriving := [] } :=
  if_pos (by simp [h, hs, hq])

theorem Green.syncLoss_of_not (h : x.on = false ∨ x.synced = false ∨ x.quiet < 8) : x.syncLoss = x :=
  if_neg (by rcases h with h | h | h <;> simp [h])

/-! ### The end of a cycle (R411, R430, R433, R436, R441) -/

theorem Green.cycleEnd_of_idle (h : x.on = false ∨ x.synced = false) : x.cycleEnd = x := if_pos (by simpa using h)

/-- The correction of the time at a cycle's end changes the time alone. -/
theorem Green.correct_eq (x : Green) : ∃ t u v w, x.correct = { x with refT := t, refG := u, slew := v, rate := w } := by
  unfold Green.correct
  dsimp only
  split
  · exact ⟨_, _, _, _, rfl⟩
  · split <;> exact ⟨_, _, _, _, rfl⟩

theorem Green.cycleEnd_of_synced (h : x.on = true) (hs : x.synced = true) : x.cycleEnd = { x.correct with
    cycleAt := x.cycleAt + x.cycleNs, cycle := (x.cycle + 1) % 64, cycles := x.cycles + 1
    ports := x.ports.map fun q => q.cycleEnd (x.cycles + 1) x.violCycles x.reopenCycles
    quiet := if x.follow = none ∧ x.coldNow = false then x.quiet + 1 else 0
    follow := none, coldNow := false, arriving := [] } := by
  have hquiet (n m : Nat) : (if (x.follow.isSome || x.coldNow) = true then n else m) =
      if x.follow = none ∧ x.coldNow = false then m else n := by
    rw [← ite_not]
    exact if_congr (by simp) rfl rfl
  rw [← hquiet]
  obtain ⟨t, u, v, w, hc⟩ := x.correct_eq
  refine (if_neg (by simp [h, hs])).trans ?_
  rw [hc]
  rfl

end

/-- A port at the end of a cycle. -/
theorem GPort.cycleEnd_eq (q : GPort) (n span reopen : Nat) : q.cycleEnd n span reopen =
    let clean := if q.st = .closed ∧ q.hit = true ∧ q.miss = false then q.clean + 1 else 0
    let back := q.st = .closed ∧ reopen ≤ clean
    { q with
      st := if back then .opened else q.st, shut := q.shut && !decide back, clean := if back then 0 else clean
      hit := false, miss := false, devPrev := q.devNow, devNow := none
      viols := q.viols.filter fun v => n < v + span
      delays := (q.delays.map fun d => (d.1 + 1, d.2)).filter fun d => decide (d.1 < 8) } := by
  simp only [GPort.cycleEnd, recentViols, recentDelays, Bool.and_eq_true, Bool.not_eq_true', and_assoc, decide_eq_true_eq,
    Bool.decide_and]

/-- Settles O54: each row in each case of the Green's state; the end of a cycle is the correction of the time and then the end of
the cycle of each port. -/
theorem greenCycleAndLinkRows : Obligations.GreenCycleAndLinkRows := by
  rintro s g x rfl
  refine ⟨fun p => ⟨fun h hp => ?_, fun h => ?_⟩, ?_, fun h => ?_, fun h => ?_, fun h => ⟨?_, fun p c => ?_⟩, fun p h => ?_, ?_,
    fun h hs hq => ?_, fun h => ?_⟩
  · exact State.turns_onGreen rfl (Green.truncate_of_arriving h hp)
  · exact State.turns_onGreen rfl (Green.truncate_of_not p h)
  · intro h hs fin' t c
    have hc : (s.green g).correct = c := by
      simp only [Green.correct, clampPpm, Bool.or_eq_true, decide_eq_true_eq, c]
      rfl
    refine State.turns_onGreen rfl ((Green.cycleEnd_of_synced h hs).trans ?_)
    rw [hc]
    simp only [GPort.cycleEnd_eq]
  · exact State.turns_onGreen rfl (Green.cycleEnd_of_idle h)
  · exact State.turns_onGreen rfl (Green.sendStatus_of_on h g)
  · exact State.turns_onGreen rfl (Green.sendStatus_of_off h g)
  · exact State.turns_onGreen rfl (Green.linkChange_of_off h p c)
  · exact ⟨State.turns_onGreen rfl (Green.linkChange_of_on h p .down), State.turns_onGreen rfl (Green.linkChange_of_on h p .training),
      State.turns_onGreen rfl (Green.linkChange_of_on h p .up)⟩
  · exact State.turns_onGreen rfl rfl
  · exact State.turns_onGreen rfl (Green.syncLoss_of_quiet h hs hq)
  · exact State.turns_onGreen rfl (Green.syncLoss_of_not h)

end Sys2Proof.Machine
end

section
/-! A frame that starts at a port of a Green (R409 to R411, R421, R422, R430, R432, R436, R440, R441, R473, R474). -/

namespace Sys2Proof.Machine

/-! ### Changes of ports -/

theorem vmod_vmod {α : Type} {n : Nat} (v : Vector α n) (i : Fin n) (f k : α → α) :
    vmod (vmod v i f) i k = vmod v i fun a => k (f a) := by
  simp [vmod, vset, vget]

theorem Green.onPort_onPort (x : Green) (p : Fin 19) (f k : GPort → GPort) :
    (x.onPort p f).onPort p k = x.onPort p fun q => k (f q) := by
  simp only [Green.onPort, vmod_vmod]

/-- What the counting and the measuring of a frame that starts at port p leave: all but the ports, and the state of port p. -/
def Green.Notes (p : Fin 19) (x y : Green) : Prop := ∃ ports, y = { x with ports := ports } ∧ (vget ports p).st = (x.port p).st

theorem Green.Notes.refl (p : Fin 19) (x : Green) : x.Notes p x := ⟨x.ports, rfl, rfl⟩

theorem Green.Notes.trans {p : Fin 19} {x y z : Green} (h : x.Notes p y) (k : y.Notes p z) : x.Notes p z := by
  obtain ⟨u, rfl, hu⟩ := h
  obtain ⟨v, rfl, hv⟩ := k
  exact ⟨v, rfl, hv.trans hu⟩

theorem Green.notes_onPort (x : Green) (p : Fin 19) {f : GPort → GPort} (h : ∀ q, (f q).st = q.st) : x.Notes p (x.onPort p f) :=
  ⟨_, rfl, by rw [vget_vmod_self, h]; rfl⟩

/-! ### A trunk port's measurement (R432, R474) -/

theorem Green.measure_eq (x : Green) (g : GreenId) (p : Fin 19) (f : CttFrame) (u : Rat) : x.measure g p f u =
    if x.trunk g p = true ∧ f.kind = 4 ∧ f.fcsOk = true ∧ fieldAt f.payload 0x10 8 ≠ 0 ∧ fieldAt f.payload 0x18 4 ≠ 0x80000000 then
      x.onPort p fun q => { q with
        delays := (0, (u - fieldAt f.payload 0x10 8 + toSigned 32 (fieldAt f.payload 0x18 4)) / 2) :: q.delays }
    else x := by
  by_cases hd : fieldAt f.payload 0x18 4 = 0x80000000
  · have hn : syncDev f.payload = none := if_pos hd
    simp [Green.measure, hn, hd]
  · have hs : syncDev f.payload = some (toSigned 32 (fieldAt f.payload 0x18 4)) := if_neg hd
    simp only [Green.measure, hs, Bool.and_eq_true, decide_eq_true_eq, and_assoc]
    exact if_congr (by simp [hd, syncEgress]) rfl rfl

theorem Green.notes_measure (x : Green) (g : GreenId) (p : Fin 19) (f : CttFrame) (u : Rat) : x.Notes p (x.measure g p f u) := by
  rw [Green.measure_eq]
  split
  · exact x.notes_onPort p fun _ => rfl
  · exact .refl p x

/-! ### The cases of a frame's start (R409, R440) -/

/-- The FCS and RS-FEC counters of the port after a frame's start (R415). -/
def Green.counted (x : Green) (p : Fin 19) (f : CttFrame) : Green :=
  let z := if f.fcsOk = true then x else x.onPort p fun q => q.count 4
  if p.val < 16 then z.onPort p fun q => q.countFec f.fec else z

theorem Green.notes_counted (x : Green) (p : Fin 19) (f : CttFrame) : x.Notes p (x.counted p f) := by
  have h : x.Notes p (if f.fcsOk = true then x else x.onPort p fun q => q.count 4) := by
    split
    · exact .refl p x
    · exact x.notes_onPort p fun _ => rfl
  unfold Green.counted
  dsimp only
  split
  · exact h.trans (Green.notes_onPort _ p fun _ => rfl)
  · exact h

/-- The Green when it judges a frame: counted and, at a trunk port, measured. -/
def Green.heard (x : Green) (g : GreenId) (p : Fin 19) (f : CttFrame) (t : Int) : Green := (x.counted p f).measure g p f (x.timeAt t)

theorem Green.notes_heard (x : Green) (g : GreenId) (p : Fin 19) (f : CttFrame) (t : Int) : x.Notes p (x.heard g p f t) :=
  (x.notes_counted p f).trans (Green.notes_measure ..)

/-- A frame that another one, begun within 8 ns, contests (R440). -/
def Green.Rival (x : Green) (p : Fin 19) (f : CttFrame) (t : Int) (a : Arbitration) : Prop :=
  x.arb = some a ∧ p ≠ a.port ∧ (t - a.start).natAbs ≤ 8 ∧ (x.port p).st ≠ .closed ∧ x.coldSlot p f ≠ none

theorem Green.contested_iff (x : Green) (p : Fin 19) (f : CttFrame) (t : Int) : x.contested p f t = true ↔ ∃ a, x.Rival p f t a := by
  cases h : x.arb with
  | none => simp [Green.contested, Green.Rival, h]
  | some a => simp [Green.contested, Green.Rival, h, and_assoc, Option.isSome_iff_ne_none]

theorem Green.Notes.rival_iff {x y : Green} {p : Fin 19} (h : x.Notes p y) (f : CttFrame) (t : Int) (a : Arbitration) :
    y.Rival p f t a ↔ x.Rival p f t a := by
  obtain ⟨ports, rfl, hst⟩ := h
  have hst' : (({ x with ports := ports } : Green).port p).st = (x.port p).st := hst
  unfold Green.Rival
  rw [hst']
  exact Iff.rfl

theorem Green.Notes.fields {x y : Green} {p : Fin 19} (h : x.Notes p y) :
    y.arb = x.arb ∧ y.synced = x.synced ∧ (y.port p).st = (x.port p).st ∧ ∀ t, y.timeAt t = x.timeAt t := by
  obtain ⟨ports, rfl, hst⟩ := h
  exact ⟨rfl, rfl, hst, fun _ => rfl⟩

theorem GPort.up_iff (q : GPort) : q.up = true ↔ q.st = .opened ∨ q.st = .closed := by simp [GPort.up]

theorem Green.on_iff (x : Green) : x.on = true ↔ x.powered = true ∧ x.clockOk = true ∧ x.testPin = false ∧ x.hot = false := by
  simp [Green.on, and_assoc]

section
variable {x : Green} {g : GreenId} {p : Fin 19} {f : CttFrame} {t : Int}

theorem Green.ingress_of_off (h : ¬x.on = true ∨ ¬(x.port p).up = true) : x.ingress g p f t = x := if_pos (by simpa using h)

/-- The cases of a frame's start at a port that takes it. -/
theorem Green.ingress_of_up (hx : x.on = true) (hp : (x.port p).up = true) : x.ingress g p f t =
    if 16 ≤ p.val ∧ f.kind = 5 then (x.counted p f).schedule g p f t
    else if (x.heard g p f t).contested p f t = true then (x.heard g p f t).arbitrate g p f t
    else if x.synced = true then (x.heard g p f t).slotIngress g p f (x.timeAt t)
    else (x.heard g p f t).coldIngress g p f t := by
  obtain ⟨-, -, -, htime⟩ := (x.notes_counted p f).fields
  obtain ⟨-, hsync, -, hnow⟩ := (x.notes_heard g p f t).fields
  refine (if_neg (by simp [hx, hp])).trans ?_
  change (if (16 ≤ p.val && f.kind = 5) = true then (x.counted p f).schedule g p f t
    else
      let w := (x.counted p f).measure g p f ((x.counted p f).timeAt t)
      if w.contested p f t = true then w.arbitrate g p f t
      else if w.synced = true then w.slotIngress g p f (w.timeAt t) else w.coldIngress g p f t) = _
  rw [htime]
  change (if (16 ≤ p.val && f.kind = 5) = true then (x.counted p f).schedule g p f t
    else if (x.heard g p f t).contested p f t = true then (x.heard g p f t).arbitrate g p f t
      else if (x.heard g p f t).synced = true then (x.heard g p f t).slotIngress g p f ((x.heard g p f t).timeAt t)
      else (x.heard g p f t).coldIngress g p f t) = _
  rw [hnow, hsync]
  exact if_congr (by simp) rfl rfl

/-! ### Arbitration, slots and the unsynchronised Green -/

theorem Green.arbitrate_of_lower {a : Arbitration} (ha : x.arb = some a) (h : p < a.port) :
    x.arbitrate g p f t = (x.yield a).coldIngress g p f t := by
  simp only [Green.arbitrate, ha, h, if_true]

theorem Green.arbitrate_of_higher {a : Arbitration} (ha : x.arb = some a) (h : a.port < p) :
    x.arbitrate g p f t = x.onPort p fun q => q.count 2 := by
  simp only [Green.arbitrate, ha, not_lt_of_gt h, if_false]

theorem Green.slotIngress_of_closed (h : (x.port p).st = .closed) (u : Rat) :
    x.slotIngress g p f u = match x.judge g p (u - x.cycleAt) with
      | .inside _ => x.onPort p fun q => { q.count 2 with hit := true }
      | _ => x.onPort p fun q => { q.count 2 with miss := true } := by
  refine (if_pos h).trans ?_
  rw [Green.onPort_onPort]
  cases x.judge g p (u - x.cycleAt) <;> rfl

theorem Green.slotIngress_of_closed_outside (h : (x.port p).st = .closed) {u : Rat} (hn : ∀ e, x.judge g p (u - x.cycleAt) ≠ .inside e) :
    x.slotIngress g p f u = x.onPort p fun q => { q.count 2 with miss := true } := by
  rw [Green.slotIngress_of_closed h]
  split
  next e he => exact absurd he (hn e)
  next => rfl

theorem Green.slotIngress_of_open (h : (x.port p).st = .opened) (u : Rat) :
    x.slotIngress g p f u = match x.judge g p (u - x.cycleAt) with
      | .inside e => x.forward g p f u e
      | .outside => (x.onPort p fun q => { q with miss := true }).violate p
      | .stranger => (x.onPort p fun q => { q.count 2 with miss := true }).violate p :=
  if_neg (by simp [h])

theorem Green.coldIngress_of_closed (h : (x.port p).st = .closed) : x.coldIngress g p f t = x.onPort p fun q => q.count 2 := if_pos h

theorem Green.coldIngress_of_open (h : (x.port p).st = .opened) : x.coldIngress g p f t = match x.coldSlot p f with
    | none => x
    | some e => if x.block = none ∨ x.block = some p then x.coldForward g p f t e else x.onPort p fun q => q.count 2 := by
  refine (if_neg (by simp [h])).trans ?_
  cases x.coldSlot p f with
  | none => rfl
  | some e =>
    cases hb : x.block with
    | none => simp
    | some q => simp

end

/-! ### Violations (R411) -/

theorem Green.violate_eq (x : Green) (p : Fin 19) :
    let vs := x.cycles :: (x.port p).viols.filter fun k => x.cycles < k + fieldAt x.section8 6 1
    x.violate p = x.onPort p fun q =>
      if (x.port p).st = .opened ∧ fieldAt x.section8 5 1 ≤ vs.length then
        { (q.count 1).count 5 with viols := vs, st := .closed, shut := true, clean := 0 }
      else { q.count 1 with viols := vs } := by
  intro vs
  refine Green.onPort_congr x p ?_
  refine if_congr ?_ rfl rfl
  rw [Bool.and_eq_true, decide_eq_true_eq, decide_eq_true_eq]
  exact Iff.rfl

/-! ### Egress (R409, R423, R430) -/

theorem Green.copyFor_of_other (x : Green) (g : GreenId) {f : CttFrame} (h : f.kind ≠ 4) (u : Rat) (n : Nat) (q : Fin 19) :
    x.copyFor g f u n q = { f with fec := 0 } := if_pos h

/-- The SYNC copy of a synchronised Green, stamped (R430). -/
theorem Green.copyFor_of_synced {x : Green} (g : GreenId) {f : CttFrame} (h : f.kind = 4) (hs : x.synced = true) (u : Rat) (n : Nat)
    (q : Fin 19) : x.copyFor g f u n q = { f with
      fec := 0
      payload := syncStamp f.payload ((u + ((400 + Config.forwardNs g n % 121 : Nat) : Rat)).floor % (2 ^ 64 : Int)).toNat ((x.port q).devPrev.map roundEven) } :=
  (if_neg (not_not_intro h)).trans (if_pos hs)

theorem Green.copyFor_of_unsynced {x : Green} (g : GreenId) {f : CttFrame} (h : f.kind = 4) (hs : x.synced = false) (u : Rat) (n : Nat)
    (q : Fin 19) : x.copyFor g f u n q = { f with fec := 0, payload := syncStamp f.payload 0 none } :=
  (if_neg (not_not_intro h)).trans (if_neg (by simp [hs]))

theorem Green.send_eq (y : Green) (g : GreenId) (p : Fin 19) (f : CttFrame) (u : Rat) :
    let qs := (idxs 19).filter fun q => q ≠ p && (y.port q).up
    let copy (n : Nat) (q : Fin 19) : CttFrame :=
      if f.kind = 4 then
        let at' : Nat := if y.synced = true then ((u + ((400 + Config.forwardNs g n % 121 : Nat) : Rat)).floor % (2 ^ 64 : Int)).toNat else 0
        let dev : Nat := match (if y.synced = true then (y.port q).devPrev else none) with
          | some d => ofSigned 32 (roundEven d)
          | none => 0x80000000
        { f with fec := 0, payload := putAt (putAt (slice f.payload 0 (max f.payload.length 32)) 0x10 (leBytes 8 at')) 0x18 (leBytes 4 dev) }
      else { f with fec := 0 }
    y.send g p f u = { y with
      egress := (qs.zip (List.range qs.length)).map fun c => (c.1.val, copy (y.free + c.2) c.1), free := y.free + qs.length } := by
  intro qs copy
  have hcopy (n : Nat) (q : Fin 19) : y.copyFor g f u n q = copy n q := by
    by_cases hk : f.kind = 4
    · cases hs : y.synced
      · rw [Green.copyFor_of_unsynced g hk hs]
        simp only [copy, hk, hs, if_true, Bool.false_eq_true, if_false]
        rfl
      · rw [Green.copyFor_of_synced g hk hs]
        simp only [copy, hk, hs, if_true]
        cases (y.port q).devPrev <;> rfl
    · rw [Green.copyFor_of_other y g hk]
      exact (if_neg hk).symm
  simp only [Green.send, hcopy]
  rfl

/-! ### Forwarding in a slot (R409, R410, R430, R433, R436, R441, R474) -/

theorem Green.heed_eq (b : Green) (g : GreenId) (p : Fin 19) (f : CttFrame) (u : Rat) :
    let off : Rat := if b.trunk g p = true then u - fieldAt f.payload 0x10 8 - meanDelay (b.port p).delays
      else u - fieldAt f.payload 8 8 - syncDelay f.payload
    let lower : Bool := match b.follow with
      | none => true
      | some k => decide (fieldAt f.payload 0 1 < k.1)
    b.heed g p f u =
      if f.fcsOk = true ∧ f.kind = 3 then { b with coldNow := true }
      else if f.fcsOk = true ∧ f.kind = 4 ∧ syncMaster f.payload = true ∧ lower = true then { b with follow := some (fieldAt f.payload 0 1, off) }
      else b := by
  intro off lower
  by_cases hf : f.fcsOk = true
  · by_cases h3 : f.kind = 3
    · simp [Green.heed, hf, h3]
    · have hrow : b.heed g p f u = if (f.kind = 4 && syncMaster f.payload) = true then
          (if lower = true then { b with follow := some (fieldAt f.payload 0 1, off) } else b) else b :=
        (if_neg (by simp [hf])).trans (if_neg h3)
      rw [hrow, ← ite_and, if_neg (show ¬(f.fcsOk = true ∧ f.kind = 3) from fun h => h3 h.2)]
      exact if_congr (by simp [hf, and_assoc]) rfl rfl
  · simp [Green.heed, hf]

theorem Green.forward_eq (y : Green) (g : GreenId) (p : Fin 19) (f : CttFrame) (u : Rat) (e : SlotEntry) :
    let o := u - y.cycleAt
    let a := y.onPort p fun q => { q.count 0 with
      hit := true, devNow := match q.devNow with | some d => some d | none => some (o - e.startNs) }
    let size := 32 + max f.payload.length 32 + 4 * (if f.vlan = true then 1 else 0)
    let late := (e.startNs + e.lengthNs : Rat) < o + 8 * size
    let b := ({ a with arriving := if late then p :: a.arriving else a.arriving }).send g p f u
    y.forward g p f u e = b.heed g p f u := by
  intro o a size late b
  simp only [Green.forward, frameBytes, b2n]
  rfl

/-! ### Forwarding while unsynchronised (R440, R441, R474) -/

/-- What an unsynchronised Green holds once it forwards a frame: the copies sent, the arbitration to come, the slot blocked and the
forwarding noted. -/
def Green.coldSent (y : Green) (g : GreenId) (p : Fin 19) (f : CttFrame) (t : Int) (e : SlotEntry) : Green :=
  let a : Arbitration := {
    port := p, start := t, was := y.port p, refT := y.refT, refG := y.refG, slew := y.slew, cycle := y.cycle, cycleAt := y.cycleAt,
    lastFwd := y.lastFwd, follow := y.follow, coldNow := y.coldNow, quiet := y.quiet }
  let b := ({ y.send g p f 0 with arb := some a }).onPort p fun q => q.count 0
  { b with block := some p, lastFwd := (p, e.startNs, t) ::
    y.lastFwd.filter fun k => decide (t - k.2.2 ≤ 2 * (y.cycleNs : Int)) && !(decide (k.1 = p) && decide (k.2.1 = e.startNs)) }

/-- A Green that aligns its time and its cycle to a good frame (R440, R474). -/
def Green.aligned (z : Green) (g : GreenId) (p : Fin 19) (f : CttFrame) (t : Int) (e : SlotEntry) : Green :=
  let now := z.alignTo g p f
  let start : Rat := (fieldAt f.payload 8 8 : Rat) - e.startNs
  ({ z with
    refT := t, refG := now, slew := 0, cycle := f.cycle.toNat % 64, cycleAt := start
    coldNow := z.coldNow || decide (f.kind = 3)
    follow := if f.kind = 3 then z.follow else some (fieldAt f.payload 0 1, 0) }).onPort p fun q => { q with devNow := some (now - start - e.startNs) }

section
variable {y : Green} {p : Fin 19} {f : CttFrame} {t : Int} {e : SlotEntry}

theorem Green.coldForward_of_bad (g : GreenId) (h : f.fcsOk = false) : y.coldForward g p f t e = y.coldSent g p f t e :=
  if_pos (by simp [h])

/-- The Green has forwarded a frame from port p one cycle before (R441). -/
def Green.Paired (y : Green) (p : Fin 19) (t : Int) (e : SlotEntry) : Prop :=
  ∃ k ∈ y.lastFwd, k.1 = p ∧ (t - k.2.2 - y.cycleNs).natAbs ≤ e.acceptNs

theorem Green.coldSent_aligned (g : GreenId) : (y.coldSent g p f t e).aligned g p f t e =
    let z := y.coldSent g p f t e
    let x := ({ z with
      refT := t, refG := z.alignTo g p f, slew := 0, cycle := f.cycle.toNat % 64
      cycleAt := (fieldAt f.payload 8 8 : Rat) - e.startNs }).onPort p fun q => { q with
        devNow := some (z.alignTo g p f - ((fieldAt f.payload 8 8 : Rat) - e.startNs) - e.startNs) }
    if f.kind = 3 then { x with coldNow := true } else { x with follow := some (syncRank f.payload, 0) } := by
  by_cases hk : f.kind = 3
  · simp [Green.aligned, hk, Green.onPort]
  · simp only [Green.aligned, hk, Green.onPort, decide_false, Bool.or_false, if_false]
    rfl

theorem Green.paired_iff : (y.lastFwd.any fun k => k.1 = p && (t - k.2.2 - y.cycleNs).natAbs ≤ e.acceptNs) = true ↔ y.Paired p t e := by
  simp only [List.any_eq_true, Bool.and_eq_true, decide_eq_true_eq]
  exact Iff.rfl

theorem Green.coldForward_of_unpaired (g : GreenId) (h : f.fcsOk = true) (hn : ¬y.Paired p t e) :
    y.coldForward g p f t e = (y.coldSent g p f t e).aligned g p f t e := by
  rw [Green.coldSent_aligned]
  exact (if_neg (by simp [h])).trans (if_neg (mt Green.paired_iff.mp hn))

theorem Green.coldForward_of_paired (g : GreenId) (h : f.fcsOk = true) (hp : y.Paired p t e) :
    y.coldForward g p f t e = ((y.coldSent g p f t e).aligned g p f t e).synchronise p := by
  rw [Green.coldSent_aligned]
  exact (if_neg (by simp [h])).trans (if_pos (Green.paired_iff.mpr hp))

end

/-! ### Downloads (R420 to R422, R471, R472) -/

section
variable {y : Green} (g : GreenId) (p : Fin 19) {f : CttFrame} (t : Int)

theorem Green.schedule_of_none (h : f.fcsOk = false ∨ f.sched = none) : y.schedule g p f t = y := by
  unfold Green.schedule
  split
  next hf hc => exact (h.elim (fun h => by simp [h] at hf) fun h => by simp [h] at hc)
  next => rfl

variable {c : SchedChunk} (hf : f.fcsOk = true) (hc : f.sched = some c)
include hf hc

theorem Green.schedule_of_part (hp : twoCopies (keepChunk y.chunks p.val t c) p.val c = none) :
    y.schedule g p f t = { y with chunks := keepChunk y.chunks p.val t c } := by
  simp only [Green.schedule, hf, hc, hp]

theorem Green.schedule_of_copies {parts : List Bytes} (hp : twoCopies (keepChunk y.chunks p.val t c) p.val c = some parts) :
    y.schedule g p f t = Green.install { y with chunks := keepChunk y.chunks p.val t c } g c parts := by
  simp only [Green.schedule, hf, hc, hp]

end

section
variable (z : Green) (g : GreenId) {c : SchedChunk} (parts : List Bytes)

theorem Green.install_of_cascade (h : c.cascade = true) : z.install g c parts = { z with cascade := some (parts.headD []) }.setRoles g :=
  if_pos h

theorem Green.install_of_stored (h : c.cascade = false) (hs : z.sched ≠ none) (hd : z.dlCrc = c.dlCrc) : z.install g c parts = z :=
  (if_neg (by simp [h])).trans (if_pos (by simp [Option.isSome_iff_ne_none, hs, hd]))

theorem Green.install_of_new (h : c.cascade = false) (hs : z.sched = none ∨ z.dlCrc ≠ c.dlCrc) : z.install g c parts = { z with
    sched := some ({ rtype := 9, inst := 0, parts := parts } : Rec).entries, section8 := slice c.netSection 0 8, dlCrc := c.dlCrc,
    chunks := z.chunks.filter (fun d => d.2.2.cascade), synced := false, block := none, lastFwd := [], follow := none,
    coldNow := false, quiet := 0, arriving := [] } :=
  (if_neg (by simp [h])).trans (if_neg (by rcases hs with hs | hs <;> simp [hs]))

end

/-- Settles O53: the row in each case of the Green, its port and the frame; the operations it makes, each by its own lemma. -/
theorem greenFrameIngressRow : Obligations.GreenFrameIngressRow := by
  refine ⟨?_, ?_, ?_, ?_, ?_, ?_, ?_⟩
  · intro s g x p f t hx c works open' shut z0 z rival sched now w v
    have turn {y : Green} (e : x.ingress g p f t = y) : s.TurnsGreen c g y := State.turns_onGreen rfl (hx ▸ e)
    have hworks : x.on = true ↔ works := x.on_iff
    have hup : (x.port p).up = true ↔ open' ∨ shut := (x.port p).up_iff
    have hw : x.Notes p w := x.notes_heard g p f t
    obtain ⟨harb, hsync, hst, -⟩ := hw.fields
    have hv : w.judge g p (now - w.cycleAt) = v := rfl
    have hcontest : w.contested p f t = true ↔ ∃ a, rival a :=
      (w.contested_iff p f t).trans (exists_congr fun a => hw.rival_iff f t a)
    refine ⟨fun hon hp => ?_, fun h => turn (Green.ingress_of_off ?_)⟩
    · have hrow : x.ingress g p f t = if sched then z.schedule g p f t
          else if w.contested p f t = true then w.arbitrate g p f t
          else if x.synced = true then w.slotIngress g p f now else w.coldIngress g p f t :=
        Green.ingress_of_up (hworks.mpr hon) (hup.mpr hp)
      refine ⟨fun h => turn (hrow.trans (if_pos h)), fun h a ha => ?_, fun h hn hs => ?_, fun h hn hs => ?_⟩
      · have harbit : x.ingress g p f t = w.arbitrate g p f t :=
          hrow.trans ((if_neg h).trans (if_pos (hcontest.mpr ⟨a, ha⟩)))
        have ha' : w.arb = some a := harb.trans ha.1
        exact ⟨fun hl => turn (harbit.trans (Green.arbitrate_of_lower ha' hl)),
          fun hl => turn (harbit.trans (Green.arbitrate_of_higher ha' hl))⟩
      · have hslot : x.ingress g p f t = w.slotIngress g p f now :=
          hrow.trans ((if_neg h).trans ((if_neg (mt hcontest.mp (not_exists.mpr hn))).trans (if_pos hs)))
        refine ⟨fun ho => ?_, fun hc => ?_⟩
        · have hopen := hslot.trans (Green.slotIngress_of_open (hst.trans ho) now)
          rw [hv] at hopen
          exact ⟨fun e he => turn (hopen.trans (by rw [he])), fun he => turn (hopen.trans (by rw [he])),
            fun he => turn (hopen.trans (by rw [he]))⟩
        · have hshut := hslot.trans (Green.slotIngress_of_closed (hst.trans hc) now)
          rw [hv] at hshut
          refine ⟨fun e he => turn (hshut.trans (by rw [he])), fun he => turn (hslot.trans ?_)⟩
          exact Green.slotIngress_of_closed_outside (hst.trans hc) he
      · have hcold : x.ingress g p f t = w.coldIngress g p f t :=
          hrow.trans ((if_neg h).trans ((if_neg (mt hcontest.mp (not_exists.mpr hn))).trans (if_neg (by simp [hs]))))
        refine ⟨fun hc => turn (hcold.trans (Green.coldIngress_of_closed (hst.trans hc))), fun ho he => ?_, fun ho e he => ?_⟩
        · exact turn (hcold.trans ((Green.coldIngress_of_open (hst.trans ho)).trans (by rw [he])))
        · have hopen := hcold.trans ((Green.coldIngress_of_open (hst.trans ho)).trans (by rw [he]))
          refine ⟨fun hb => turn (hopen.trans (if_pos hb)), fun q hq hne => turn (hopen.trans (if_neg ?_))⟩
          simp [hq, hne]
    · rw [hworks, hup, not_or]
      exact h
  · intro y g p f u
    exact y.measure_eq g p f u
  · intro y g p f u
    exact y.send_eq g p f u
  · intro y g p f u e
    exact (y.forward_eq g p f u e).trans (Green.heed_eq ..)
  · intro y p
    exact y.violate_eq p
  · intro y g p f t e a pairs b z base now start k
    have hz : y.coldSent g p f t e = z := rfl
    have hk : z.aligned g p f t e = k := by
      have hnow : z.alignTo g p f = now := if_congr (by simp [and_assoc]) rfl rfl
      simp only [Green.aligned, hnow]
      rfl
    have hpairs : pairs = y.Paired p t e := rfl
    clear_value k pairs
    refine ⟨fun h => hz ▸ Green.coldForward_of_bad g h, fun h hn => ?_, fun h hp => ?_⟩
    · rw [Green.coldForward_of_unpaired g h (hpairs ▸ hn), hz, hk]
    · rw [Green.coldForward_of_paired g h (hpairs ▸ hp), hz, hk]
      rfl
  · intro y g p f t
    refine ⟨fun h => Green.schedule_of_none g p t h, fun c hf hc => ?_⟩
    intro z
    have hz : { y with chunks := keepChunk y.chunks p.val t c } = z := rfl
    refine ⟨fun hn => hz ▸ Green.schedule_of_part g p t hf hc hn, fun parts hp => ?_⟩
    have hrow : y.schedule g p f t = z.install g c parts := hz ▸ Green.schedule_of_copies g p t hf hc hp
    rw [hrow]
    exact ⟨fun h => Green.install_of_cascade z g parts h, fun h hs hd => Green.install_of_stored z g parts h hs hd,
      fun h hs => Green.install_of_new z g parts h hs⟩

end Sys2Proof.Machine
end

section
/-! Triggers, TLB walks and the map of stream addresses (R478, R481, R482, R486). -/

namespace Sys2Proof.Machine

theorem Lane.onStream_congr (x : Lane) (c : Fin 16) {f k : StreamCh → StreamCh} (h : f (x.chan c) = k (x.chan c)) :
    x.onStream c f = x.onStream c k := by
  have h' : f (vget x.str.chans c) = k (vget x.str.chans c) := h
  simp only [Lane.onStream, vmod, h']

theorem vmod_of_fixed {α : Type} {n : Nat} {v : Vector α n} {i : Fin n} {f : α → α} (h : f (vget v i) = vget v i) : vmod v i f = v := by
  rw [vmod, h]
  exact Vector.set_getElem_self _

theorem Lane.onStream_of_fixed {x : Lane} {c : Fin 16} {f : StreamCh → StreamCh} (h : f (x.chan c) = x.chan c) : x.onStream c f = x := by
  rw [Lane.onStream, vmod_of_fixed h]

/-! ### Triggers and walks (R478, R486) -/

section
variable {x : Lane} {c : Fin 16}

/-- The event is the trigger that the channel waits for. -/
def Lane.OwnTrigger (x : Lane) (c : Fin 16) (ev : Byte) : Prop :=
  streamWait (x.streamRec c) = true ∧ streamTrigger (x.streamRec c) = ev.toNat ∧ x.inSlice 6 = false

theorem Lane.streamTriggered_of_other {ev : Byte} (h : ¬x.OwnTrigger c ev) : x.streamTriggered c ev = x :=
  if_pos (by simpa [Lane.OwnTrigger, or_iff_not_imp_left] using h)

section
variable {ev : Byte} (h : x.OwnTrigger c ev)
include h

theorem Lane.streamTriggered_of_own : x.streamTriggered c ev = x.onStream c fun q => match q.st with
    | .waiting => { q with st := .running }
    | .running => { q with pendTrig := true }
    | _ => q := by
  obtain ⟨hwait, hev, hslice⟩ := h
  exact if_neg (by simp [hwait, hev, hslice])

theorem Lane.streamTriggered_of_waiting (hs : (x.chan c).st = .waiting) :
    x.streamTriggered c ev = x.onStream c fun q => { q with st := .running } := by
  rw [Lane.streamTriggered_of_own h]
  exact Lane.onStream_congr x c (by simp only [hs])

theorem Lane.streamTriggered_of_running (hs : (x.chan c).st = .running) :
    x.streamTriggered c ev = x.onStream c fun q => { q with pendTrig := true } := by
  rw [Lane.streamTriggered_of_own h]
  exact Lane.onStream_congr x c (by simp only [hs])

theorem Lane.streamTriggered_of_resting (hw : (x.chan c).st ≠ .waiting) (hr : (x.chan c).st ≠ .running) :
    x.streamTriggered c ev = x := by
  rw [Lane.streamTriggered_of_own h]
  refine Lane.onStream_of_fixed ?_
  split
  next hst => exact absurd hst hw
  next hst => exact absurd hst hr
  next => rfl

end

theorem Lane.walkDone_of_none (h : (x.chan c).walking = none ∨ x.inSlice 6 = true) : x.walkDone c = x := by
  have hw : (if x.inSlice 6 = true then none else (x.chan c).walking) = none := by
    rcases h with h | h <;> simp [h]
  simp only [Lane.walkDone, hw]

theorem Lane.walkDone_of_walk {a : Nat} (h : (x.chan c).walking = some a) (hs : x.inSlice 6 = false) :
    let e := (c.val, Config.tlbPage a)
    let t := if x.str.tlb.length < 256 then x.str.tlb ++ [e] else x.str.tlb.set (Config.tlbVictim x.free % 256) e
    x.walkDone c = { x with
      free := x.free + 1, str := { x.str with tlb := t, chans := vmod x.str.chans c fun q => { q with walking := none } } } := by
  have hw : (if x.inSlice 6 = true then none else (x.chan c).walking) = some a := by simp [hs, h]
  simp only [Lane.walkDone, hw]
  rfl

end

/-! ### The map (R481, R482) -/

theorem streamPlace_of_outside {a : Nat} (h : ¬((0x10000000 ≤ a ∧ a < 0x11000000) ∨ (0x14000000 ≤ a ∧ a < 0x15000000) ∨
    (0x20000000 ≤ a ∧ a < 0x20010000) ∨ (0x30000000 ≤ a ∧ a < 0x30010000) ∨ (0x40000000 ≤ a ∧ a < 0x40100000) ∨
    (0x50000000 ≤ a ∧ a < 0x50100000))) : streamPlace a = .none := by
  simp only [not_or] at h
  obtain ⟨hcoef, hnode, hep, hgranary, htrace, hmemory⟩ := h
  rw [streamPlace, if_neg hcoef, if_neg hnode, if_neg hep, if_neg hgranary, if_neg htrace, if_neg hmemory]

theorem streamPlace_endpoint {a : Nat} (h : 0x20000000 ≤ a ∧ a < 0x20010000) :
    streamPlace a = .endpoint (fin ((a - 0x20000000) / 0x80)) (a % 0x80) := by
  rw [streamPlace, if_neg (by omega), if_neg (by omega), if_pos h]

theorem streamPlace_granary {a : Nat} (h : 0x30000000 ≤ a ∧ a < 0x30010000) : streamPlace a = .granary (a - 0x30000000) := by
  rw [streamPlace, if_neg (by omega), if_neg (by omega), if_neg (by omega), if_pos h]

theorem streamPlace_trace {a : Nat} (h : 0x40000000 ≤ a ∧ a < 0x40100000) : streamPlace a = .trace (a - 0x40000000) := by
  rw [streamPlace, if_neg (by omega), if_neg (by omega), if_neg (by omega), if_neg (by omega), if_pos h]

theorem streamPlace_memory {a : Nat} (h : 0x50000000 ≤ a ∧ a < 0x50100000) : streamPlace a = .memory (a - 0x50000000) := by
  rw [streamPlace, if_neg (by omega), if_neg (by omega), if_neg (by omega), if_neg (by omega), if_neg (by omega), if_pos h]

/-- A consumer's payload, like a closed endpoint's, is never written. -/
theorem Lane.writeFault_of_consumer {x : Lane} {a : Nat} {e : Fin 512} {off : Nat} (h : streamPlace a = .endpoint e off)
    (hr : connRole (x.connRec e) ≠ 1) : x.writeFault a ≠ none := by
  simp only [Lane.writeFault, h, hr, if_false]
  split <;> simp

theorem Lane.streamByte_memory {x : Lane} {k : Nat} (h : 0x50000000 ≤ k ∧ k < 0x50100000) (latch : Bytes) :
    x.streamByte latch k = memRead x.mem.stream (k - 0x50000000) := by
  simp only [Lane.streamByte, streamPlace_memory h]

theorem Lane.streamPut_memory (x : Lane) {a : Nat} (h : 0x50000000 ≤ a ∧ a < 0x50100000) (b : Byte) :
    x.streamPut a b = { x with mem := { x.mem with stream := memWrite x.mem.stream (a - 0x50000000) b } } := by
  simp only [Lane.streamPut, streamPlace_memory h]

/-- Settles O52: the branches of a trigger and of a walk, the window of the map that an address lies in, and the laws of the
memory. -/
theorem streamTriggersWalksAndMap : Obligations.StreamTriggersWalksAndMap := by
  refine ⟨?_, ?_⟩
  · intro s l x c ev hx h own
    have trigger {y : Lane} (e : x.streamTriggered c ev = y) : s.Turns (.streamTrigger l c ev) l y := State.turns_onLane rfl (hx ▸ e)
    have walk {y : Lane} (e : x.walkDone c = y) : s.Turns (.tlbWalkComplete l c) l y := State.turns_onLane rfl (hx ▸ e)
    refine ⟨fun ho hs => trigger (Lane.streamTriggered_of_waiting ho hs), fun ho hs => trigger (Lane.streamTriggered_of_running ho hs),
      fun hn => ?_, fun hn => walk (Lane.walkDone_of_none hn), fun a ha hs => ?_⟩
    · by_cases ho : own
      · obtain ⟨hw, hr⟩ := hn.resolve_left (not_not_intro ho)
        exact trigger (Lane.streamTriggered_of_resting ho hw hr)
      · exact trigger (Lane.streamTriggered_of_other ho)
    · intro e next
      have hdone := Lane.walkDone_of_walk ha hs
      refine ⟨fun hl => walk (hdone.trans ?_), fun hl => walk (hdone.trans ?_)⟩
      · simp only [if_pos hl]; rfl
      · simp only [if_neg (not_lt_of_ge hl)]; rfl
  · intro x a inside
    refine ⟨fun hn => ?_, fun hg => ?_, fun ht => ?_, fun he hr => ?_, fun hm => ?_⟩
    · simp only [Lane.readFault, Lane.writeFault, streamPlace_of_outside hn, and_self]
    · simp only [Lane.readFault, Lane.writeFault, streamPlace_granary hg, and_self]
    · simp only [Lane.readFault, Lane.writeFault, streamPlace_trace ht, and_self]
    · exact Lane.writeFault_of_consumer (streamPlace_endpoint he) hr
    · refine ⟨by simp only [Lane.readFault, streamPlace_memory hm], by simp only [Lane.writeFault, streamPlace_memory hm],
        fun b latch hok => ?_⟩
      rw [Lane.streamPut_memory x hm]
      refine ⟨(Lane.streamByte_memory hm latch).trans (memRead_memWrite_self _ _ b hok), fun k hk hne => ?_⟩
      rw [Lane.streamByte_memory hk, Lane.streamByte_memory hk]
      exact memRead_memWrite_ne _ b (by omega) hok

end Sys2Proof.Machine
end

section
/-! Contact samples, test pulses and the timers of an input pair (R462 to R469). -/

namespace Sys2Proof.Machine

theorem Lane.onPair_congr (x : Lane) (k : Fin 16) {f g : Pair → Pair} (h : f (x.pair k) = g (x.pair k)) : x.onPair k f = x.onPair k g := by
  have h' : f (vget x.inp.pairs k) = g (vget x.inp.pairs k) := h
  simp only [Lane.onPair, vmod, h']

/-! ### When the rows act (R462, R463, R465, R467) -/

theorem Lane.inputsRun_iff (x : Lane) :
    x.inputsRun = true ↔ x.awake = true ∧ x.sys.parked = false ∧ x.clockOn 1 = true ∧ x.inSlice 7 = false := by
  simp [Lane.inputsRun, and_assoc]

theorem Lane.pulseDue_iff (x : Lane) (t : Fin 4) (ns : Nat) :
    x.pulseDue t ns = true ↔ x.tm.loc.toNat % 16000000 = 4000000 * t.val + ns := decide_eq_true_iff

theorem Lane.sampleInputs_eq (x : Lane) (c1 c2 : BitVec 16) : x.sampleInputs c1 c2 =
    if x.inputsRun = true ∧ x.inp.low = none ∧ x.inp.exclTo ≤ x.tm.loc.toNat ∧ x.tm.loc.toNat % 10000 = 0 then
      each (idxs 16) (fun k y => y.pairSample k (bit c1 k.val) (bit c2 k.val)) x
    else x := by
  rw [Lane.sampleInputs, ← ite_not]
  refine if_congr ?_ rfl rfl
  simp only [Lane.inputsExcluded, Bool.or_eq_true, Bool.not_eq_true', decide_eq_true_eq, Option.isSome_iff_ne_none, not_or,
    Bool.not_eq_false, ne_eq, not_not, not_lt]
  tauto

theorem Lane.pulseStart_eq (x : Lane) (t : Fin 4) : x.pulseStart t =
    if (x.inputsRun = true ∧ x.inp.pulsing = true ∧ x.inp.low = none) ∧ x.tm.loc.toNat % 16000000 = 4000000 * t.val + 0 then
      { x with inp := { x.inp with low := some t } }
    else x :=
  if_congr (by simp only [Bool.and_eq_true, Option.isNone_iff_eq_none, Lane.pulseDue_iff, and_assoc]) rfl rfl

theorem Lane.pulseCheck_eq (x : Lane) (t : Fin 4) (c1 c2 : BitVec 16) : x.pulseCheck t c1 c2 =
    if (x.inputsRun = true ∧ x.inp.pulsing = true ∧ x.inp.low = some t) ∧ x.tm.loc.toNat % 16000000 = 4000000 * t.val + 200000 then
      each (idxs 16) (fun k y => y.pairTest k t (bit c1 k.val) (bit c2 k.val)) x
    else x :=
  if_congr (by simp only [Bool.and_eq_true, decide_eq_true_eq, Lane.pulseDue_iff]; tauto) rfl rfl

theorem Lane.pulseEnd_eq (x : Lane) (t : Fin 4) : x.pulseEnd t =
    if (x.inputsRun = true ∧ x.inp.pulsing = true ∧ x.inp.low = some t) ∧ x.tm.loc.toNat % 16000000 = 4000000 * t.val + 300000 then
      { x with inp := { x.inp with low := none, exclTo := x.tm.loc.toNat + 100000 } }
    else x :=
  if_congr (by simp only [Bool.and_eq_true, decide_eq_true_eq, Lane.pulseDue_iff]; tauto) rfl rfl

theorem Lane.pairDiscrepancy_eq (x : Lane) (k : Fin 16) : x.pairDiscrepancy k =
    if (x.inputsRun = true ∧ pairMode (x.pairRec k) ≠ 0) ∧ (x.pair k).discr = true then x.pairCause k 3 else x :=
  if_congr (by simp) rfl rfl

theorem Lane.pairRestart_eq (x : Lane) (k : Fin 16) : x.pairRestart k =
    if (x.inputsRun = true ∧ pairMode (x.pairRec k) ≠ 0) ∧ (x.pair k).restart = true then
      (x.onPair k fun p => { p with restartDone := true }).pairLeave k
    else x :=
  if_congr (by simp) rfl rfl

/-! ### The value word and its event (R468) -/

theorem Pair.word_eq (p : Pair) :
    p.word = 4 * p.cause + (if p.forced = true then 2 else 0) + (if p.value = true then 1 else 0) := by
  cases hf : p.forced <;> cases hv : p.value <;> simp [Pair.word, b2n, hf, hv]

theorem Pair.agreed_eq (p : Pair) (mode : Nat) :
    p.agreed mode = if (mode = 1 ∧ p.f1 = p.f2) ∨ (mode ≠ 1 ∧ p.f1 ≠ p.f2) then some p.f1 else none := by
  by_cases h : mode = 1 <;> simp [Pair.agreed, h]

theorem Lane.onPair_pairWord (x : Lane) (k : Fin 16) (q : Pair) (was : Nat) :
    (x.onPair k fun _ => q).pairWord k was =
      if q.word = was then x.onPair k fun _ => q else (x.onPair k fun _ => q).event (112 + k.val) q.word := by
  rw [Lane.pairWord, Lane.onPair_pair_self]

/-- The pair once cause `c` stands (R467, R468). -/
def Lane.causedPair (x : Lane) (k : Fin 16) (c : Nat) : Pair := { x.pair k with
  cause := if (x.pair k).causeAt = some x.tm.loc then min (x.pair k).cause c else c, causeAt := some x.tm.loc
  forced := true, value := decide (safeValue (x.pairRec k) = 1), cleared := false, restartDone := false
  restart := ((x.pair k).agreed (pairMode (x.pairRec k))).isSome, discr := (x.pair k).discr && decide (c ≠ 3) }

theorem Lane.pairCause_eq (x : Lane) (k : Fin 16) (c : Nat) :
    x.pairCause k c = (if (x.causedPair k c).word = (x.pair k).word then x.onPair k fun _ => x.causedPair k c
      else (x.onPair k fun _ => x.causedPair k c).event (112 + k.val) (x.causedPair k c).word).fault 112 0xFF 0 k.val 0 := by
  rw [← Lane.onPair_pairWord]
  have h : (x.onPair k fun p => { p with
      cause := p.keptCause c x.tm.loc, causeAt := some x.tm.loc, forced := true, value := safeValue (x.pairRec k) = 1, cleared := false,
      restartDone := false, restart := (p.agreed (pairMode (x.pairRec k))).isSome, discr := p.discr && c ≠ 3 }) =
    x.onPair k fun _ => x.causedPair k c := Lane.onPair_congr x k rfl
  rw [← h]
  rfl

/-! ### Leaving the forced state (R467, R469) -/

theorem ofNat_and_not_eq_zero_iff (a b : Bool) (t : BitVec 2) :
    BitVec.ofNat 2 (b2n a + 2 * b2n b) &&& ~~~t = 0 ↔ (a = true → bit t 0 = true) ∧ (b = true → bit t 1 = true) := by
  revert a b t; decide

/-- The conditions of R467 under which a consistent pair leaves its forced state. -/
def Pair.MayLeave (p : Pair) (r : Bytes) : Prop :=
  p.forced = true ∧ p.restartDone = true ∧ (natBit (pairFlags r) 0 = true → p.cleared = true) ∧
    (tp1 r < 4 → bit p.tested 0 = true) ∧ (tp2 r < 4 → bit p.tested 1 = true)

theorem Pair.mayLeave_iff (p : Pair) (r : Bytes) :
    (p.forced && p.restartDone && (p.cleared || !faultLatch r) && pulsedContacts r &&& ~~~p.tested = 0) = true ↔ p.MayLeave r := by
  have htested : pulsedContacts r &&& ~~~p.tested = 0 ↔ (tp1 r < 4 → bit p.tested 0 = true) ∧ (tp2 r < 4 → bit p.tested 1 = true) := by
    have h := ofNat_and_not_eq_zero_iff (decide (tp1 r < 4)) (decide (tp2 r < 4)) p.tested
    rw [decide_eq_true_eq, decide_eq_true_eq] at h
    exact h
  have hlatch : (p.cleared || !faultLatch r) = true ↔ (natBit (pairFlags r) 0 = true → p.cleared = true) := by
    cases h : natBit (pairFlags r) 0 <;> simp [faultLatch, h]
  simp only [Bool.and_eq_true, decide_eq_true_eq, hlatch, htested, Pair.MayLeave, and_assoc]

section
variable {x : Lane} {k : Fin 16}

theorem Lane.pairLeave_of_may {v : Bool} (ha : (x.pair k).agreed (pairMode (x.pairRec k)) = some v)
    (hm : (x.pair k).MayLeave (x.pairRec k)) :
    let q : Pair := { x.pair k with cause := 0, forced := false, value := v }
    x.pairLeave k = if q.word = (x.pair k).word then x.onPair k fun _ => q else (x.onPair k fun _ => q).event (112 + k.val) q.word := by
  intro q
  rw [← Lane.onPair_pairWord]
  have h : (x.onPair k fun p => { p with cause := 0, forced := false, value := v }) = x.onPair k fun _ => q := Lane.onPair_congr x k rfl
  simp only [Lane.pairLeave, ha]
  rw [if_pos ((Pair.mayLeave_iff ..).mpr hm), h]

theorem Lane.pairLeave_of_not (h : (x.pair k).agreed (pairMode (x.pairRec k)) = none ∨ ¬(x.pair k).MayLeave (x.pairRec k)) :
    x.pairLeave k = x := by
  unfold Lane.pairLeave
  dsimp only
  split
  next => rfl
  next v hv => exact if_neg (mt (Pair.mayLeave_iff ..).mp (h.resolve_left (by simp [hv])))

/-! ### A test pulse (R463, R467) -/

theorem contactCause_eq (last now : Bool) (out t : Nat) : contactCause last (decide (out = t)) now =
    if last = true ∧ out = t ∧ now = true then 1 else if last = true ∧ out ≠ t ∧ now = false then 2 else 0 := by
  by_cases h : out = t <;> cases last <;> cases now <;> simp [contactCause, h]

theorem contactCause_le (last fed now : Bool) : contactCause last fed now ≤ 2 := by
  revert last fed now; decide

theorem Lane.pairTest_of_unused (h : pairMode (x.pairRec k) = 0) (t : Fin 4) (c1 c2 : Bool) : x.pairTest k t c1 c2 = x := if_pos h

/-- The contacts that pass the test count as tested; the higher cause of the two stands. -/
theorem Lane.pairTest_of_used (h : pairMode (x.pairRec k) ≠ 0) {t : Fin 4} {c1 c2 : Bool} {a b : Nat}
    (ha : contactCause (x.pair k).r1 (decide (tp1 (x.pairRec k) = t.val)) c1 = a)
    (hb : contactCause (x.pair k).r2 (decide (tp2 (x.pairRec k) = t.val)) c2 = b) :
    let passed : Nat := (if (x.pair k).r1 = true ∧ a = 0 then 1 else 0) + if (x.pair k).r2 = true ∧ b = 0 then 2 else 0
    let z := x.onPair k fun q => { q with tested := q.tested ||| BitVec.ofNat 2 passed }
    x.pairTest k t c1 c2 = if higherCause a b = 0 then z else z.pairCause k (higherCause a b) := by
  subst ha hb
  intro passed z
  have hz : z = x.onPair k fun p => { p with
      tested := p.tested ||| BitVec.ofNat 2 (b2n (p.r1 && decide (contactCause (x.pair k).r1 (decide (tp1 (x.pairRec k) = t.val)) c1 = 0)) +
        2 * b2n (p.r2 && decide (contactCause (x.pair k).r2 (decide (tp2 (x.pairRec k) = t.val)) c2 = 0))) } :=
    Lane.onPair_congr x k (by simp only [b2n, Bool.and_eq_true, decide_eq_true_eq, passed, mul_ite, Nat.mul_one, Nat.mul_zero])
  rw [hz]
  exact if_neg h

theorem higherCause_of_one {a b : Nat} (h : a = 1 ∨ b = 1) : higherCause a b = 1 := by
  unfold higherCause
  split_ifs <;> omega

theorem higherCause_of_two {a b : Nat} (ha : a ≠ 1) (hb : b ≠ 1) (ha2 : a ≤ 2) (hb2 : b ≤ 2) (h : a = 2 ∨ b = 2) :
    higherCause a b = 2 := by
  unfold higherCause
  split_ifs <;> omega

end

/-! ### Sampling (R462, R465, R466) -/

theorem filterStep_eq (n : Nat) (f : Bool) (cnt : Nat) (raw : Bool) : filterStep n f cnt raw =
    let step : Bool × Nat := if raw = f then (f, 0) else if n ≤ cnt + 1 then (raw, 0) else (f, cnt + 1)
    (step.1, step.2, decide (raw = f ∧ cnt ≠ 0)) := by
  by_cases h : raw = f
  · simp [filterStep, h]
  · by_cases hn : n ≤ cnt + 1 <;> simp [filterStep, h, hn]

/-- A change of a contact that goes back before its filter time has passed (R466). -/
theorem rejectedNow_iff (p : Pair) (r : Bytes) (c1 c2 : Bool) :
    rejectedNow p r c1 c2 = true ↔ (c1 = p.f1 ∧ p.n1 ≠ 0) ∨ (c2 = p.f2 ∧ p.n2 ≠ 0) := by
  simp only [rejectedNow, filterStep_eq, Bool.or_eq_true, decide_eq_true_eq]

theorem Pair.sample_eq (p : Pair) (r : Bytes) (now : Nat) (c1 c2 : Bool) :
    let n := filterUs r / 10
    let step (f : Bool) (cnt : Nat) (raw : Bool) : Bool × Nat :=
      if raw = f then (f, 0) else if n ≤ cnt + 1 then (raw, 0) else (f, cnt + 1)
    p.sample r now c1 c2 = { p with
      f1 := (step p.f1 p.n1 c1).1, f2 := (step p.f2 p.n2 c2).1, r1 := c1, r2 := c2
      n1 := (step p.f1 p.n1 c1).2, n2 := (step p.f2 p.n2 c2).2
      rejects := (List.replicate ((if c1 = p.f1 ∧ p.n1 ≠ 0 then 1 else 0) + if c2 = p.f2 ∧ p.n2 ≠ 0 then 1 else 0) now ++ p.rejects).filter
        fun t => now ≤ t + 1000000 * chatterWindowMs r } := by
  simp only [Pair.sample, filterStep_eq, recentRejects, b2n, decide_eq_true_eq]

theorem Lane.pairSample_of_unused {x : Lane} {k : Fin 16} (h : pairMode (x.pairRec k) = 0) (c1 c2 : Bool) : x.pairSample k c1 c2 = x :=
  if_pos h

theorem Lane.pairSample_of_chatter {x : Lane} {k : Fin 16} (h : pairMode (x.pairRec k) ≠ 0) {c1 c2 : Bool}
    (hr : rejectedNow (x.pair k) (x.pairRec k) c1 c2 = true)
    (hc : chatterCount (x.pairRec k) ≤ ((x.pair k).sample (x.pairRec k) x.tm.loc.toNat c1 c2).rejects.length) :
    x.pairSample k c1 c2 = (x.onPair k fun _ => { ((x.pair k).sample (x.pairRec k) x.tm.loc.toNat c1 c2).settle (x.pairRec k)
      ((x.pair k).agreed (pairMode (x.pairRec k))) true with value := (x.pair k).value }).pairCause k 4 :=
  (if_neg h).trans (if_pos (by simp [hr, hc]))

theorem Lane.pairSample_of_quiet {x : Lane} {k : Fin 16} (h : pairMode (x.pairRec k) ≠ 0) {c1 c2 : Bool}
    (hc : ¬(rejectedNow (x.pair k) (x.pairRec k) c1 c2 = true ∧
      chatterCount (x.pairRec k) ≤ ((x.pair k).sample (x.pairRec k) x.tm.loc.toNat c1 c2).rejects.length)) :
    x.pairSample k c1 c2 = ((x.onPair k fun _ => ((x.pair k).sample (x.pairRec k) x.tm.loc.toNat c1 c2).settle (x.pairRec k)
      ((x.pair k).agreed (pairMode (x.pairRec k))) (rejectedNow (x.pair k) (x.pairRec k) c1 c2)).pairWord k (x.pair k).word).pairLeave k :=
  (if_neg h).trans (if_neg (by simpa using hc))

/-- Settles O50: each row by the condition under which it acts; a pair's sample, test, cause and leaving by the lemmas about them. -/
theorem inputAndTestPulseRows : Obligations.InputAndTestPulseRows := by
  refine ⟨?_, fun x k c => ?_, fun p mode => ⟨p.word_eq, p.agreed_eq mode⟩, ?_, ?_, ?_⟩
  · intro s l x hx works clear due
    have hworks : works = (x.inputsRun = true) := propext x.inputsRun_iff.symm
    have turn {c : Instr} {f : Lane → Lane} {y : Lane} (h : exec c s = .next (s.onLane l f)) (e : f x = y) : s.Turns c l y :=
      State.turns_onLane h (hx ▸ e)
    simp only [hworks]
    refine ⟨fun c1 c2 => ⟨fun h => turn rfl ((x.sampleInputs_eq c1 c2).trans (if_pos h)),
      fun h => turn rfl ((x.sampleInputs_eq c1 c2).trans (if_neg h))⟩, fun t => ?_, fun k => ?_⟩
    · exact ⟨fun h => turn rfl ((x.pulseStart_eq t).trans (if_pos h)), fun h => turn rfl ((x.pulseStart_eq t).trans (if_neg h)),
        fun c1 c2 => ⟨fun h => turn rfl ((x.pulseCheck_eq t c1 c2).trans (if_pos h)),
          fun h => turn rfl ((x.pulseCheck_eq t c1 c2).trans (if_neg h))⟩,
        fun h => turn rfl ((x.pulseEnd_eq t).trans (if_pos h)), fun h => turn rfl ((x.pulseEnd_eq t).trans (if_neg h))⟩
    · exact ⟨fun h => turn rfl ((x.pairDiscrepancy_eq k).trans (if_pos h)),
        fun h => turn rfl ((x.pairDiscrepancy_eq k).trans (if_neg h)),
        fun h => turn rfl ((x.pairRestart_eq k).trans (if_pos h)), fun h => turn rfl ((x.pairRestart_eq k).trans (if_neg h))⟩
  · exact x.pairCause_eq k c
  · intro x k c1 c2 r p n now step rej1 rej2 q was w chatters z
    have hq : p.sample r now c1 c2 = q := p.sample_eq r now c1 c2
    have hrej : rejectedNow p r c1 c2 = decide (rej1 ∨ rej2) := by
      rw [Bool.eq_iff_iff, decide_eq_true_iff]
      exact rejectedNow_iff p r c1 c2
    have hw : (p.sample r now c1 c2).settle r (p.agreed (pairMode r)) (rejectedNow p r c1 c2) = w := by
      rw [hq, hrej]
      rfl
    refine ⟨fun h => Lane.pairSample_of_unused h c1 c2, fun h hc => ?_, fun h hc => ?_⟩
    · have hr : rejectedNow p r c1 c2 = true := (rejectedNow_iff p r c1 c2).mpr hc.1
      rw [hr] at hw
      exact hw ▸ Lane.pairSample_of_chatter h hr (hq ▸ hc.2)
    · have hquiet := Lane.pairSample_of_quiet h (c1 := c1) (c2 := c2) (mt (fun hb => ⟨(rejectedNow_iff p r c1 c2).mp hb.1, hq ▸ hb.2⟩) hc)
      rw [hquiet, ← Lane.onPair_pairWord, ← hw]
  · intro x k t c1 c2 r p cause a b passed z
    have ha : contactCause p.r1 (decide (tp1 r = t.val)) c1 = a := contactCause_eq ..
    have hb : contactCause p.r2 (decide (tp2 r = t.val)) c2 = b := contactCause_eq ..
    refine ⟨fun h => Lane.pairTest_of_unused h t c1 c2, fun h => ?_⟩
    have htest : x.pairTest k t c1 c2 = if higherCause a b = 0 then z else z.pairCause k (higherCause a b) :=
      Lane.pairTest_of_used h ha hb
    refine ⟨fun ha0 hb0 => htest.trans (if_pos ?_), fun h1 => ?_, fun ha1 hb1 h2 => ?_⟩
    · rw [ha0, hb0]
      rfl
    · rw [htest, higherCause_of_one h1]
      rfl
    · rw [htest, higherCause_of_two ha1 hb1 (ha ▸ contactCause_le ..) (hb ▸ contactCause_le ..) h2]
      rfl
  · intro x k r p may
    exact ⟨fun v hv hm => Lane.pairLeave_of_may hv hm, fun h => Lane.pairLeave_of_not h⟩

end Sys2Proof.Machine
end

section
/-! The seal of a self-test run (R393 to R398, R506). -/

namespace Sys2Proof.Machine

/-! ### The CRC of a run of bytes fits its four bytes (R7) -/

theorem crcBit_lt {c : Nat} (h : c < 2 ^ 32) : crcBit c < 2 ^ 32 := by
  unfold crcBit
  split
  · exact Nat.xor_lt_two_pow (by omega) (by decide)
  · omega

theorem crcByte_lt {c : Nat} (h : c < 2 ^ 32) (b : Byte) : crcByte c b < 2 ^ 32 := by
  have hb : b.toNat < 2 ^ 32 := lt_trans b.isLt (by decide)
  exact crcBit_lt (crcBit_lt (crcBit_lt (crcBit_lt (crcBit_lt (crcBit_lt (crcBit_lt (crcBit_lt (Nat.xor_lt_two_pow h hb))))))))

theorem foldl_crcByte_lt (bs : Bytes) : ∀ c, c < 2 ^ 32 → bs.foldl crcByte c < 2 ^ 32 := by
  induction bs with
  | nil => exact fun c h => h
  | cons b bs ih => exact fun c h => ih _ (crcByte_lt h b)

theorem crc32c_lt (bs : Bytes) : crc32c bs < 2 ^ 32 := Nat.xor_lt_two_pow (foldl_crcByte_lt bs _ (by decide)) (by decide)

/-! ### The seal's bytes (R394, R395) -/

/-- A seal up to its use byte. -/
def sealHead (cycles : Nat) (st : Seal) (passed untested carried : Nat) : Bytes :=
  leBytes 4 0x5345414C ++ leBytes 4 cycles ++ leBytes 1 (sealCode st) ++ [0, 0, 0] ++ leBytes 4 passed ++ leBytes 4 untested ++
    leBytes 4 carried

section
variable (cycles : Nat) (st : Seal) (passed untested carried : Nat)

theorem sealHead_length : (sealHead cycles st passed untested carried).length = 24 := rfl

/-- A seal with its use byte `u`. -/
theorem sealState_of_use (u : Byte) (crc : Nat) :
    sealStateOf (some (sealHead cycles st passed untested carried ++ [u, 0, 0, 0] ++ leBytes 4 crc)) =
      if u.toNat ≠ 0xFF ∨ crc % 2 ^ 32 ≠ crc32c (sealHead cycles st passed untested carried) then .none else st := by
  have hlen : (sealHead cycles st passed untested carried ++ [u, 0, 0, 0] ++ leBytes 4 crc).length = 32 := rfl
  have hmagic : slice (sealHead cycles st passed untested carried ++ [u, 0, 0, 0] ++ leBytes 4 crc) 0 4 = leBytes 4 0x5345414C := rfl
  have huse : slice (sealHead cycles st passed untested carried ++ [u, 0, 0, 0] ++ leBytes 4 crc) 0x18 1 = [u] := rfl
  have hcrc : slice (sealHead cycles st passed untested carried ++ [u, 0, 0, 0] ++ leBytes 4 crc) 0x1C 4 = leBytes 4 crc := rfl
  have hhead : (sealHead cycles st passed untested carried ++ [u, 0, 0, 0] ++ leBytes 4 crc).take 0x18 =
    sealHead cycles st passed untested carried := rfl
  have hstate : slice (sealHead cycles st passed untested carried ++ [u, 0, 0, 0] ++ leBytes 4 crc) 8 1 = leBytes 1 (sealCode st) := rfl
  simp only [sealStateOf, fieldAt, hlen, hmagic, huse, hcrc, hhead, hstate, ofLe_leBytes]
  refine if_congr (by simp [ofLe]) rfl ?_
  cases st <;> rfl

theorem sealRecord_eq : sealRecord cycles st passed untested carried = sealHead cycles st passed untested carried ++ [0xFF, 0, 0, 0] ++
    leBytes 4 (crc32c (sealHead cycles st passed untested carried)) := by
  simp only [sealRecord, sealHead, List.append_assoc]

theorem sealRecord_length : (sealRecord cycles st passed untested carried).length = 32 := rfl

/-- A seal reads back in the state that it was written in. -/
theorem sealStateOf_sealRecord : sealStateOf (some (sealRecord cycles st passed untested carried)) = st := by
  rw [sealRecord_eq, sealState_of_use]
  exact if_neg (by simpa using crc32c_lt _)

/-- A seal that a start has consumed reads as none. -/
theorem sealStateOf_consumed : sealStateOf (some (putAt (sealRecord cycles st passed untested carried) 0x18 [0])) = .none := by
  have h : putAt (sealRecord cycles st passed untested carried) 0x18 [0] = sealHead cycles st passed untested carried ++ [0, 0, 0, 0] ++
    leBytes 4 (crc32c (sealHead cycles st passed untested carried)) := rfl
  rw [h, sealState_of_use]
  exact if_pos (.inl (by decide))

end

/-! ### The row (R394 to R398, R506) -/

theorem TestRun.ended_iff (q : TestRun) : q.ended = true ↔ q.now = none ∧ (q.todo = [] ∨ q.wake = true) := by
  simp [TestRun.ended]

/-- The lane with the seal of run `q` in its flash. -/
def Lane.sealed (x : Lane) (q : TestRun) : Lane := { x with
  fl := { x.fl with sealRec := some (x.runSeal q) }, tst := { x.tst with tested := x.tst.tested || decide (q.kind = RunKind.startup) } }

theorem Lane.writeSeal_of_ended {x : Lane} {q : TestRun} (ha : x.awake = true) (hr : x.tst.run = some q) (he : q.ended = true) :
    x.writeSeal = if q.kind = .shutdown ∧ q.wake = false then (x.sealed q).park else (x.sealed q).leaveReset := by
  unfold Lane.writeSeal
  rw [hr]
  refine (if_neg (by simp [ha, he])).trans ?_
  change (if (decide (q.kind = .shutdown) && !q.wake) = true then (x.sealed q).park else (x.sealed q).leaveReset) = _
  simp only [Bool.and_eq_true, decide_eq_true_eq, Bool.not_eq_true']

theorem Lane.writeSeal_of_not {x : Lane} (h : x.awake = false ∨ x.tst.run = none ∨ ∃ q, x.tst.run = some q ∧ q.ended ≠ true) :
    x.writeSeal = x := by
  unfold Lane.writeSeal
  split
  next => rfl
  next q hq =>
    refine if_pos ?_
    rcases h with h | h | ⟨r, hr, he⟩
    · simp [h]
    · simp [h] at hq
    · cases hq.symm.trans hr
      simp [he]

/-- Settles O48: the branches of the row, and the bytes of a seal read back. -/
theorem selfTestSeal : Obligations.SelfTestSeal := by
  refine ⟨fun s l x hx => ?_, fun cycles st passed untested carried => ?_⟩
  · have turn {y : Lane} (e : x.writeSeal = y) : s.Turns (.sealWrite l) l y := State.turns_onLane rfl (hx ▸ e)
    refine ⟨fun q ha hr hn he => ?_, fun h => turn (Lane.writeSeal_of_not ?_)⟩
    · intro untested carried st z
      have hrow : x.writeSeal = if q.kind = .shutdown ∧ q.wake = false then z.park else z.leaveReset :=
        Lane.writeSeal_of_ended ha hr (q.ended_iff.mpr ⟨hn, he⟩)
      exact ⟨fun hk hw => turn (hrow.trans (if_pos ⟨hk, hw⟩)), fun hk => turn (hrow.trans (if_neg hk))⟩
    · refine h.imp_right (Or.imp_right fun ⟨q, hq, hr⟩ => ⟨q, hq, mt q.ended_iff.mp fun ⟨hn, he⟩ => ?_⟩)
      rcases hr with hr | ⟨ht, hw⟩
      · exact hr hn
      · exact he.elim ht (by simp [hw])
  · exact ⟨sealRecord_length .., sealStateOf_sealRecord .., sealStateOf_consumed ..⟩

end Sys2Proof.Machine
end

section
/-! Commits in the Granary, takeovers and test rotations (R338, R349 to R354, R360, R399). -/

namespace Sys2Proof.Machine

/-! ### A commit completes (R349 to R352) -/

section
variable {x : Lane} {nn : AxisId}

theorem Lane.monitor_of_idle {b : Bytes} (h : monMode (x.axisRec nn) = 0 ∨ (x.axis nn).acc.valid = false ∨ x.tm.sync = .none) :
    x.monitor nn b = x :=
  if_pos (by simpa [or_assoc] using h)

theorem Lane.monitor_of_runs {b : Bytes} (hm : monMode (x.axisRec nn) ≠ 0) (hv : (x.axis nn).acc.valid = true) (hs : x.tm.sync ≠ .none) :
    x.monitor nn b = x.onAxis nn fun a => { a with
      red := { a.red with mismatch := if x.monBad nn b = true then a.red.mismatch + 1 else 0 } } :=
  if_neg (by simp [hm, hv, hs])

theorem Lane.commitDone_of_none (h : (x.axis nn).red.commit = none ∨ x.inSlice 8 = true) : x.commitDone nn = x := by
  have hc : (if x.inSlice 8 = true then none else (x.axis nn).red.commit) = none := by
    rcases h with h | h <;> simp [h]
  simp only [Lane.commitDone, hc]

/-- The lane with record `b` in slot `k` of the Granary, its commit ended (R350). -/
def Lane.committed (x : Lane) (nn : AxisId) (k : Nat) (b : Bytes) : Lane :=
  (({ x with mem := { x.mem with granary := memWriteN x.mem.granary (granaryAt nn k) b } }).onAxis nn fun a =>
    { a with red := { a.red with commit := none, torn := !ckptValid (peer0 (x.axisRec nn)) b } }).event 201 (x.dev nn)

theorem Lane.commitDone_of_commit {k : Nat} {b : Bytes} (h : (x.axis nn).red.commit = some (k, b)) (hs : x.inSlice 8 = false) :
    x.commitDone nn = if ckptValid (peer0 (x.axisRec nn)) b = true then
      ((x.committed nn k b).monitor nn b).takeoverCheck nn (ckptFinal b) else x.committed nn k b := by
  have hc : (if x.inSlice 8 = true then none else (x.axis nn).red.commit) = some (k, b) := by simp [hs, h]
  simp only [Lane.commitDone, hc]
  rfl

end

/-- Settles O42: a commit that completes writes its record; the monitor and the causes follow a valid one. -/
theorem checkpointCommit : Obligations.CheckpointCommit := by
  intro s l x nn hx u
  have turn {y : Lane} (e : x.commitDone nn = y) : s.Turns (.granaryCommitDone l nn) l y := State.turns_onLane rfl (hx ▸ e)
  refine ⟨fun h => turn (Lane.commitDone_of_none h), fun k b hc hs => ?_⟩
  intro ok z
  have hdone : x.commitDone nn = if ok = true then (z.monitor nn b).takeoverCheck nn (ckptFinal b) else z :=
    Lane.commitDone_of_commit hc hs
  refine ⟨fun ho => turn (hdone.trans (if_neg (by simp [ho]))), fun ho hm => turn (hdone.trans ((if_pos ho).trans ?_)),
    fun ho hm hv hsync => turn (hdone.trans ((if_pos ho).trans ?_))⟩
  · rw [Lane.monitor_of_idle hm]
  · rw [Lane.monitor_of_runs hm hv hsync]

/-! ### Waiting for RELEASED (R354) -/

section
variable {x : Lane} {nn : AxisId}

/-- A takeover under MISMATCH waits for RELEASED. -/
def Redun.Waits (u : Redun) : Prop := ∃ t : Takeover, u.takeover = some t ∧ t.cause = .mismatch ∧ t.released = false

theorem Lane.takeWaits_iff : x.takeWaits nn = true ↔ (x.axis nn).red.Waits := by
  unfold Lane.takeWaits Redun.Waits
  cases (x.axis nn).red.takeover <;> simp

theorem Lane.takeSend_eq (x : Lane) (nn : AxisId) : x.takeSend nn =
    if x.takeWaits nn = true then x.sendLink (axisLane (peer0 (x.axisRec nn))) 2 (.take (peer0 (x.axisRec nn))) else x := rfl

theorem Lane.takeTimeout_eq (x : Lane) (nn : AxisId) : x.takeTimeout nn =
    if x.takeWaits nn = true then (x.dropMember nn).fault 119 (x.dev nn) 0 0 0 else x := rfl

/-- A change of one axis leaves the lane's index. -/
theorem Lane.OneAxis.dev {y : Lane} (h : x.OneAxis nn y) (k : AxisId) : y.dev k = x.dev k := by
  obtain ⟨f, rfl⟩ := h
  rfl

theorem Lane.oneAxis_dropMember (x : Lane) (nn : AxisId) : x.OneAxis nn (x.dropMember nn) := by
  obtain ⟨acc, sup, e⟩ := (x.pwmOff nn).supIdle_eq nn
  unfold Lane.dropMember
  rw [e]
  exact (x.oneAxis_pwmOff nn).trans ((Lane.oneAxis_onAxis ..).trans ((Lane.oneAxis_onAxis ..).trans (Lane.oneAxis_driveGates ..)))

/-- A member that drops stands by, its takeover and its mismatches gone. -/
theorem Lane.dropMember_axis (x : Lane) (nn : AxisId) : ((x.dropMember nn).axis nn).role = .duplexStandby ∧
    ((x.dropMember nn).axis nn).red.takeover = none ∧ ((x.dropMember nn).axis nn).red.mismatch = 0 := by
  unfold Lane.dropMember
  obtain ⟨dead, drive, blank, e⟩ := Lane.driveGates_axis (((x.pwmOff nn).supIdle nn).onAxis nn fun a => { a with
    role := .duplexStandby, enabled := false, gate := { a.gate with cmd := 0 },
    pattern := .opened, red := { a.red with takeover := none, planned := .none, mismatch := 0 } }) nn
  dsimp only
  rw [e, Lane.onAxis_axis_self]
  exact ⟨rfl, rfl, rfl⟩

/-! ### Test rotations (R360, R399) -/

theorem Lane.standbyTest_of_not (t : StandbyResult)
    (h : ¬(x.sys.lstate = .active ∧ (x.axis nn).role = .duplexStandby ∧ (x.axis nn).red.takeover = none)) : x.standbyTest nn t = x :=
  if_pos (by
    simpa only [Bool.or_eq_true, decide_eq_true_eq, Option.isSome_iff_ne_none, not_and_or, or_assoc] using h)

theorem Lane.standbyTest_of_standby (t : StandbyResult)
    (h : x.sys.lstate = .active ∧ (x.axis nn).role = .duplexStandby ∧ (x.axis nn).red.takeover = none) :
    let r := x.axisRec nn
    let z := x.onAxis nn fun a => { a with red := { a.red with
      rotation := a.red.rotation + 1
      gateFail := if gateTest r = true then decide (t.gateFail ≠ 0) else a.red.gateFail
      cmpFail := if cmpTest r = true then decide (t.cmpFail ≠ 0) else a.red.cmpFail } }
    x.standbyTest nn t = if gateTest r = true then
      each (idxs 6) (fun sw y => if bit t.gateFail sw.val = true then y.readback nn sw (bit t.gateHigh sw.val) else y) z else z := by
  intro r z
  obtain ⟨hl, hr, ht⟩ := h
  have hz : ((x.onRed nn fun d => { d with rotation := d.rotation + 1 }).onRed nn fun d => { d with
      gateFail := if gateTest r = true then decide (t.gateFail ≠ 0) else d.gateFail
      cmpFail := if cmpTest r = true then decide (t.cmpFail ≠ 0) else d.cmpFail }) = z := Lane.onAxis_onAxis ..
  rw [← hz]
  exact if_neg (by simp [hl, hr, ht])

end

/-! ### A takeover (R338, R353) -/

/-- A takeover ends with the axis in its safe state, after an ABORT where it was planned. -/
def Lane.aborted (y : Lane) (nn : AxisId) (cause : TakeCause) : Lane :=
  if cause = .planned then y.sendLink (axisLane (peer0 (y.axisRec nn))) 2 (.abort (peer0 (y.axisRec nn))) else y

theorem Lane.takeoverFails_eq (y : Lane) (nn : AxisId) (cause : TakeCause) (report : Bool) :
    y.takeoverFails nn (decide (cause = .planned)) report =
      let w := (y.aborted nn cause).enterSafe nn
      if report = true then w.fault 119 (w.dev nn) 0 0 0 else w := by
  simp only [Lane.takeoverFails, Lane.aborted, decide_eq_true_eq]

/-- Step 5 of R353: the takeover goes on where the enable conditions are met. -/
def Lane.takeoverOn (y : Lane) (nn : AxisId) (cause : TakeCause) : Lane :=
  if y.canEnable nn = true then y.takeoverGo nn
  else let w := (y.aborted nn cause).enterSafe nn; w.fault 119 (w.dev nn) 0 0 0

theorem Lane.takeoverOn_eq (y : Lane) (nn : AxisId) (cause : TakeCause) :
    (if (!y.canEnable nn) = true then y.takeoverFails nn (decide (cause = .planned)) true else y.takeoverGo nn) = y.takeoverOn nn cause := by
  rw [Lane.takeoverFails_eq, Lane.takeoverOn, ← ite_not]
  exact if_congr (by simp) rfl rfl

/-- A takeover that has begun: event 198, a commit in progress stopped (R353 step 1). -/
def Lane.takeoverBegun (x : Lane) (nn : AxisId) (cause : TakeCause) : Lane :=
  let z := x.onRed nn fun d => { d with
    takeover := some { cause := cause, role := false, duty := false, released := false }, planned := .none }
  (z.event 198 (z.dev nn)).stopCommit nn

section
variable {x : Lane} {nn : AxisId} {cause : TakeCause}

theorem Lane.takeoverRun_of_record {b : Bytes} {k : Fin 64} {j : Nat} (h : (x.takeoverBegun nn cause).usableRecord nn = some (b, k, j)) :
    x.takeoverRun nn cause = (((x.takeoverBegun nn cause).onSlot k fun q => q.scatter j b).onAxis nn fun a =>
      { a with red := { a.red with ckptSeq := BitVec.ofNat 32 (ckptSeqOf b) } }).takeoverOn nn cause := by
  unfold Lane.takeoverRun
  dsimp only
  split
  next h' => cases h.symm.trans h'
  next h' =>
    cases h.symm.trans h'
    exact Lane.takeoverOn_eq ..

theorem Lane.takeoverRun_of_none (h : (x.takeoverBegun nn cause).usableRecord nn = none) :
    x.takeoverRun nn cause = if staleAction ((x.takeoverBegun nn cause).axisRec nn) = 1 then
        ((x.takeoverBegun nn cause).aborted nn cause).enterSafe nn
      else ((x.takeoverBegun nn cause).onAxis nn fun a => { a with red := { a.red with ckptSeq := 0 } }).takeoverOn nn cause := by
  unfold Lane.takeoverRun
  dsimp only
  split
  next h' => exact if_congr Iff.rfl ((Lane.takeoverFails_eq ..).trans (if_neg Bool.false_ne_true)) (Lane.takeoverOn_eq ..)
  next h' => cases h.symm.trans h'

end

/-- Settles O43: the rows by whether a takeover waits and whether a rotation is due; a takeover by its record and the enable
conditions. -/
theorem takeoverWaitAndRotations : Obligations.TakeoverWaitAndRotations := by
  refine ⟨?_, ?_⟩
  · intro s l x nn hx r u waits
    have turn {c : Instr} {f : Lane → Lane} {y : Lane} (h : exec c s = .next (s.onLane l f)) (e : f x = y) : s.Turns c l y :=
      State.turns_onLane h (hx ▸ e)
    have hwaits : x.takeWaits nn = true ↔ waits := Lane.takeWaits_iff
    refine ⟨fun h => turn rfl (if_pos (hwaits.mpr h)), fun h => turn rfl (if_neg (mt hwaits.mp h)), fun h => ?_,
      fun h => turn rfl (if_neg (mt hwaits.mp h)), fun t => ⟨fun h => turn rfl (Lane.standbyTest_of_standby t h),
      fun h => turn rfl (Lane.standbyTest_of_not t h)⟩⟩
    exact ⟨turn rfl (if_pos (hwaits.mpr h)), x.dropMember_axis nn⟩
  · intro x nn cause z0 z aborted goes
    refine ⟨fun b k j h => Lane.takeoverRun_of_record h, fun h hs => (Lane.takeoverRun_of_none h).trans (if_neg hs),
      fun h hs => (Lane.takeoverRun_of_none h).trans (if_pos hs), fun y => rfl⟩

end Sys2Proof.Machine
end

section
/-! Conversions, sensor supplies and encoder emulation (R281 to R287, R296, R311, R316). -/

namespace Sys2Proof.Machine

/-! ### Conversions (R283, R285) -/

section
variable {x : Lane} {a : Fin 6}

theorem Lane.adcNext_eq (x : Lane) (a : Fin 6) (mid : Bool) : x.adcNext a mid =
    if vget x.afe.forced a = true ∧ mid = false then
      { x with afe := { x.afe with now := vset x.afe.now a .forced, forced := vset x.afe.forced a false } }
    else
      { x with afe := { x.afe with
        now := vset x.afe.now a (if (vget x.afe.queues a).isEmpty then .background else .conv) } } := by
  have hforced : (vget x.afe.forced a && !mid) = true ↔ vget x.afe.forced a = true ∧ mid = false := by simp
  unfold Lane.adcNext
  dsimp only
  by_cases h : vget x.afe.forced a = true ∧ mid = false
  · rw [if_pos h, if_pos (hforced.mpr h), if_pos rfl]
  · have hbusy : (if (vget x.afe.queues a).isEmpty = true then AdcNow.background else .conv) ≠ .forced := by split <;> nofun
    rw [if_neg h, if_neg (mt hforced.mp h), if_neg hbusy]

theorem Lane.adcDone_of_stopped (h : x.afe.running = false ∨ x.afeOk = false) (raw : Int) : x.adcDone a raw = x :=
  if_pos (by simpa using h)

theorem Lane.adcDone_of_background (hr : x.afe.running = true) (hok : x.afeOk = true)
    (h : vget x.afe.now a ≠ .conv ∨ vget x.afe.queues a = []) (raw : Int) :
    x.adcDone a raw = (x.background a raw).adcNext a false := by
  unfold Lane.adcDone
  rw [if_neg (by simp [hr, hok])]
  split
  next c cs hnow hq => exact absurd h (by simp [hnow, hq])
  next => rfl

/-- The conversion after `c` in the queue is one of the same set (R285). -/
def sameSet (c : Conv) (cs : List Conv) : Bool :=
  match cs with
  | d :: _ => decide (d.nn = c.nn ∧ d.set = c.set ∧ d.heldAt = c.heldAt)
  | [] => false

theorem Lane.adcDone_of_conv {c : Conv} {cs : List Conv} (hr : x.afe.running = true) (hok : x.afeOk = true)
    (hnow : vget x.afe.now a = .conv) (hq : vget x.afe.queues a = c :: cs) (raw : Int) :
    x.adcDone a raw =
      (({ x with afe := { x.afe with queues := vset x.afe.queues a cs } }).convDone c raw).adcNext a (sameSet c cs) := by
  unfold Lane.adcDone
  rw [if_neg (by simp [hr, hok])]
  split
  next c' cs' hnow' hq' =>
    cases hq.symm.trans hq'
    cases cs with
    | nil => rfl
    | cons d ds => simp only [sameSet, Bool.decide_and, Bool.and_assoc]
  next hne => exact absurd hq (hne c cs hnow)

theorem Lane.forceDue_iff : x.forceDue a = true ↔ x.afe.running = true ∧
    vget x.afe.rotAt a + 1000 * auxPeriodUs x.laneRec ≤ x.tm.loc.toNat ∧
    ∀ t, vget x.afe.forceAt a = some t → t + 1000 * auxPeriodUs x.laneRec ≤ x.tm.loc.toNat := by
  unfold Lane.forceDue
  cases vget x.afe.forceAt a <;> simp [and_assoc]

/-! ### Encoder emulation (R316) -/

theorem Emul.rested_iff (u : Emul) (now : Nat) : u.rested now = true ↔ ∀ m, u.stepAt = some m → m + 100 ≤ now := by
  unfold Emul.rested
  cases u.stepAt <;> simp

theorem vmod_congr {α : Type} {n : Nat} {v : Vector α n} {i : Fin n} {f g : α → α} (h : f (vget v i) = g (vget v i)) :
    vmod v i f = vmod v i g := congrArg (vset v i) h

variable {e : Fin 2}

theorem Lane.emulStep_of_still (h : (vget x.emu e).running = false ∨ (x.axis (x.emulNn e)).acc.valid = false ∨ x.fbClock = false ∨
    (vget x.emu e).count = x.emulTarget e ∨ (vget x.emu e).rested x.tm.loc.toNat = false) : x.emulStep e = x :=
  if_pos (by simpa [or_assoc] using h)

theorem Lane.emulStep_of_steps (hr : (vget x.emu e).running = true) (hv : (x.axis (x.emulNn e)).acc.valid = true)
    (hc : x.fbClock = true) (hn : (vget x.emu e).count ≠ x.emulTarget e) (hm : (vget x.emu e).rested x.tm.loc.toNat = true)
    {k : Int} (hk : (if (vget x.emu e).count < x.emulTarget e then (vget x.emu e).count + 1 else (vget x.emu e).count - 1) = k) :
    x.emulStep e =
      { x with emu := vmod x.emu e fun u => { u with count := k, stepAt := some x.tm.loc.toNat }.levels (x.emulRec e) } := by
  have hmove : x.emulStep e = { x with emu := vmod x.emu e fun u =>
      { u with count := if u.count < x.emulTarget e then u.count + 1 else u.count - 1
               stepAt := some x.tm.loc.toNat }.levels (x.emulRec e) } :=
    if_neg (by simp [hr, hv, hc, hn, hm])
  exact hmove.trans (congrArg (fun v => { x with emu := v }) (vmod_congr (by simp only [hk])))

end

/-- Settles O39: a conversion by what its ADC has under way, a forced slot by whether it is due, a supply fault by the supply, an
emulation step by the side of the target. -/
theorem conversionAndSensorSupplyRows : Obligations.ConversionAndSensorSupplyRows := by
  refine ⟨fun s l x a hx => ?_, fun s l x hx => ?_⟩
  · intro next
    have turn {c : Instr} {f : Lane → Lane} {y : Lane} (h : exec c s = .next (s.onLane l f)) (e : f x = y) : s.Turns c l y :=
      State.turns_onLane h (hx ▸ e)
    have hnext (y : Lane) (mid : Bool) : y.adcNext a mid = next y mid := Lane.adcNext_eq y a mid
    refine ⟨fun hr hok raw => ⟨fun h => turn rfl ?_, fun c cs hnow hq => ?_⟩, ⟨fun h => turn rfl (if_pos (Lane.forceDue_iff.mpr h)),
      fun h => turn rfl (if_neg (mt Lane.forceDue_iff.mp h))⟩, fun h raw => turn rfl (Lane.adcDone_of_stopped h raw)⟩
    · exact (Lane.adcDone_of_background hr hok h raw).trans (hnext ..)
    · intro mid y k codes
      have hdone : x.adcDone a raw = next (y.convDone c raw) mid := (Lane.adcDone_of_conv hr hok hnow hq raw).trans (hnext ..)
      exact ⟨fun h => turn rfl (hdone.trans (congrArg (next · mid) (if_neg (Nat.not_le.mpr h)))),
        fun h => turn rfl (hdone.trans (congrArg (next · mid) (if_pos h)))⟩
  · have turn {c : Instr} {f : Lane → Lane} {y : Lane} (h : exec c s = .next (s.onLane l f)) (e : f x = y) : s.Turns c l y :=
      State.turns_onLane h (hx ▸ e)
    refine ⟨fun nn => ?_, fun e hr hv hc => ?_, fun e h => ?_⟩
    · intro set
      exact ⟨fun h => turn rfl (if_pos h), fun h => turn rfl (if_neg h), turn rfl rfl, turn rfl rfl⟩
    · intro n t now rested move
      have hrested : (vget x.emu e).rested now = true ↔ rested := Emul.rested_iff ..
      refine ⟨fun hm hlt => turn rfl (Lane.emulStep_of_steps hr hv hc (ne_of_lt hlt) (hrested.mpr hm) (if_pos hlt)),
        fun hm hlt => turn rfl (Lane.emulStep_of_steps hr hv hc (ne_of_gt hlt) (hrested.mpr hm) (if_neg (not_lt_of_gt hlt))),
        fun h => turn rfl (Lane.emulStep_of_still (.inr (.inr (.inr ?_))))⟩
      exact h.imp_right fun h => Bool.eq_false_iff.mpr (mt hrested.mp h)
    · exact turn rfl (Lane.emulStep_of_still (h.imp_right (Or.imp_right .inl)))

end Sys2Proof.Machine
end

section
/-! Position feedback: the input filters, the decoders and the words of a channel (R295 to R309). -/

namespace Sys2Proof.Machine

/-! ### The feedback channel changed -/

section
variable {x : Lane} {nn : AxisId}

theorem Lane.onFb_fb (x : Lane) (nn : AxisId) (f : Feedback → Feedback) : ((x.onFb nn f).axis nn).fb = f (x.axis nn).fb :=
  congrArg Axis.fb (x.onAxis_axis_self nn _)

theorem Lane.onFb_onFb (x : Lane) (nn : AxisId) (f g : Feedback → Feedback) : (x.onFb nn f).onFb nn g = x.onFb nn fun q => g (f q) :=
  x.onAxis_onAxis nn _ _

theorem Lane.onFb_congr (x : Lane) (nn : AxisId) {f g : Feedback → Feedback} (h : f (x.axis nn).fb = g (x.axis nn).fb) :
    x.onFb nn f = x.onFb nn g := x.onAxis_congr nn (congrArg (fun q => { x.axis nn with fb := q }) h)

@[simp] theorem Lane.onFb_fbClock (f : Feedback → Feedback) : (x.onFb nn f).fbClock = x.fbClock := rfl

theorem Lane.decodes_iff (p : Nat) :
    x.decodes nn p = true ↔ (x.axis nn).fb.running = true ∧ x.fbClock = true ∧ protocol (x.axisRec nn) = p := by
  simp [Lane.decodes, and_assoc]

/-- A change that leaves the channel running leaves what it decodes. -/
theorem Lane.onFb_decodes {f : Feedback → Feedback} (h : (f (x.axis nn).fb).running = (x.axis nn).fb.running) (p : Nat) :
    (x.onFb nn f).decodes nn p = x.decodes nn p := by
  have hrun : ((x.onFb nn f).axis nn).fb.running = (x.axis nn).fb.running := by rw [Lane.onFb_fb, h]
  unfold Lane.decodes
  rw [hrun]
  rfl

/-- A channel decodes one protocol. -/
theorem Lane.decodes_eq_false {p q : Nat} (h : x.decodes nn p = true) (hne : p ≠ q) : x.decodes nn q = false := by
  have hp := (Lane.decodes_iff p).mp h
  refine Bool.eq_false_iff.mpr fun hq => hne ?_
  exact hp.2.2.symm.trans ((Lane.decodes_iff q).mp hq).2.2

/-! ### The input filters (R295) -/

theorem Feedback.levels_eq_none {f : Feedback} (h : (vget f.ins 0).level = none ∨ (vget f.ins 1).level = none ∨ (vget f.ins 2).level = none) :
    f.levels = none := by
  unfold Feedback.levels
  split
  next ha hb hc => simp [ha, hb, hc] at h
  next => rfl

theorem Feedback.levels_eq_some {f : Feedback} {u v w : Bool} (hu : (vget f.ins 0).level = some u) (hv : (vget f.ins 1).level = some v)
    (hw : (vget f.ins 2).level = some w) : f.levels = some (u, v, w) := by
  simp only [Feedback.levels, hu, hv, hw]

theorem Lane.fbDecode_of_none (h : (x.axis nn).fb.levels = none) : x.fbDecode nn = x := by
  simp only [Lane.fbDecode, h]

theorem Lane.fbDecode_of_idle (h1 : x.decodes nn 1 = false) (h2 : x.decodes nn 2 = false) : x.fbDecode nn = x := by
  unfold Lane.fbDecode
  split
  next => rfl
  next => rw [h1, h2, if_neg Bool.false_ne_true, if_neg Bool.false_ne_true]

variable {u v w : Bool}

theorem Lane.fbDecode_of_encoder (hl : (x.axis nn).fb.levels = some (u, v, w)) (h : x.decodes nn 1 = true) :
    x.fbDecode nn = x.encoder nn u v w := by
  simp only [Lane.fbDecode, hl, h, if_true]

theorem Lane.fbDecode_of_hall (hl : (x.axis nn).fb.levels = some (u, v, w)) (h : x.decodes nn 2 = true) :
    x.fbDecode nn = x.hall nn (BitVec.ofNat 3 (b2n u + 2 * b2n v + 4 * b2n w)) := by
  have h1 : x.decodes nn 1 = false := Lane.decodes_eq_false h (by decide)
  simp only [Lane.fbDecode, hl, h1, h, if_true, Bool.false_eq_true, if_false]

/-- The pins of a channel at three levels. -/
def Feedback.pinned (f : Feedback) (a b c : Bool) (g : InFilter → InFilter) : Vector InFilter 3 :=
  Vector.ofFn fun k : Fin 3 => g { vget f.ins k with pin := if k = 0 then a else if k = 1 then b else c }

theorem Lane.fbInputs_of_sampled (a b c : Bool) (h : (x.axis nn).fb.sampled = true ∨ x.fbClock = false) :
    x.fbInputs nn a b c = x.onFb nn fun q => { q with ins := (x.axis nn).fb.pinned a b c fun i => i } := by
  have hpins : (x.onFb nn fun f => { f with ins := f.pinned a b c fun i => i }) =
      x.onFb nn fun q => { q with ins := (x.axis nn).fb.pinned a b c fun i => i } := x.onFb_congr nn rfl
  unfold Lane.fbInputs Lane.fbSample
  refine (if_pos ?_).trans hpins
  rw [Lane.onFb_fb]
  simpa using h

theorem Lane.fbInputs_of_unsampled (a b c : Bool) (hs : (x.axis nn).fb.sampled = false) (hc : x.fbClock = true) :
    x.fbInputs nn a b c = (x.onFb nn fun q => { q with
      sampled := true
      ins := (x.axis nn).fb.pinned a b c fun i => i.sample (filterCycles (x.axisRec nn)) }).fbDecode nn := by
  unfold Lane.fbInputs Lane.fbSample
  refine (if_neg ?_).trans (congrArg (Lane.fbDecode · nn) ?_)
  · rw [Lane.onFb_fb]
    simpa using And.intro hs hc
  · refine (Lane.onFb_onFb ..).trans (x.onFb_congr nn ?_)
    have hmap : ((x.axis nn).fb.pinned a b c fun i => i).map (fun i => i.sample (filterCycles (x.axisRec nn))) =
        (x.axis nn).fb.pinned a b c fun i => i.sample (filterCycles (x.axisRec nn)) := Vector.map_ofFn
    rw [← hmap]
    rfl

/-! ### Incremental encoders (R299 to R301) -/

theorem Lane.encoder_of_first (h : (x.axis nn).fb.first = false) : x.encoder nn u v w = x.abzFirst nn u v w := if_pos (by simp [h])

/-- The lane with the levels of A, B and Z taken. -/
def Lane.abz (x : Lane) (nn : AxisId) (u v w : Bool) : Lane := x.onFb nn fun q => { q with a := u, b := v, z := w }

theorem Lane.encoder_of_illegal (h : (x.axis nn).fb.first = true)
    (hq : quadStep (x.axisRec nn) (x.axis nn).fb.a (x.axis nn).fb.b u v = none) :
    x.encoder nn u v w = (x.abz nn u v w).fbError nn 5 := by
  unfold Lane.encoder
  rw [if_neg (by simp [h])]
  dsimp only
  split
  next => rfl
  next hd => cases hq.symm.trans hd

theorem Lane.onFb_tooFast {f : Feedback → Feedback} (hw : (f (x.axis nn).fb).window = (x.axis nn).fb.window)
    (hl : (f (x.axis nn).fb).lastAt = (x.axis nn).fb.lastAt) : (x.onFb nn f).tooFast nn = x.tooFast nn := by
  unfold Lane.tooFast
  dsimp only
  rw [Lane.onFb_fb, hw, hl]
  rfl

theorem Lane.encoder_of_step {d : Int} (h : (x.axis nn).fb.first = true)
    (hq : quadStep (x.axisRec nn) (x.axis nn).fb.a (x.axis nn).fb.b u v = some d) :
    x.encoder nn u v w = if d = 0 then x.abz nn u v w
      else if x.tooFast nn = true then
        (if (x.abz nn u v w).freeBelow 2 = 0 then (x.abz nn u v w).useFree else (x.abz nn u v w).useFree.abzStep nn d)
      else (x.abz nn u v w).abzStep nn d := by
  have hfast : (x.abz nn u v w).tooFast nn = x.tooFast nn := Lane.onFb_tooFast rfl rfl
  rw [← hfast]
  unfold Lane.encoder
  rw [if_neg (by simp [h])]
  dsimp only
  split
  next hd => cases hq.symm.trans hd
  next hd =>
    cases hq.symm.trans hd
    rfl

/-! ### Hall sensors (R302) -/

theorem hallSector_lt {r : Bytes} {h : BitVec 3} {k : Nat} (e : hallSector r h = some k) : k < 6 := by
  unfold hallSector at e
  dsimp only at e
  split at e <;> split at e <;> simp only [Option.map_some, Option.map_none, Option.some.injEq, reduceCtorEq] at e <;> omega

/-- The lane with a Hall state taken. -/
def Lane.hallTaken (x : Lane) (nn : AxisId) (h : BitVec 3) : Lane :=
  x.onFb nn fun q => { q with hall := some h, a := bit h 0, b := bit h 1, z := bit h 2 }

variable {h : BitVec 3}

theorem Lane.hall_of_illegal (hk : hallSector (x.axisRec nn) h = none) :
    x.hall nn h = if (x.axis nn).fb.hall = some h then x.hallTaken nn h else (x.hallTaken nn h).fbError nn 5 := by
  unfold Lane.hall
  dsimp only
  split
  next => rfl
  next hd => cases hk.symm.trans hd

theorem Lane.hall_of_first {k : Nat} (hk : hallSector (x.axisRec nn) h = some k) (hs : (x.axis nn).fb.sector = none) :
    x.hall nn h = (x.hallTaken nn h).hallFirst nn k := by
  unfold Lane.hall
  dsimp only
  split
  next hd => cases hk.symm.trans hd
  next hd =>
    cases hk.symm.trans hd
    rw [hs]
    rfl

/-- The change of sector from `j` to `k`, by the way from one to the other. -/
def Lane.hallMove (x : Lane) (nn : AxisId) (k d : Nat) : Lane :=
  if d = 0 then x else if d = 1 then x.hallStep nn k 1 else if d = 5 then x.hallStep nn k (-1) else x.hallSkip nn k d

theorem Lane.hallMove_of_same (x : Lane) (nn : AxisId) (k : Nat) : x.hallMove nn k 0 = x := rfl

theorem Lane.hallMove_of_next (x : Lane) (nn : AxisId) (k : Nat) : x.hallMove nn k 1 = x.hallStep nn k 1 := rfl

theorem Lane.hallMove_of_previous (x : Lane) (nn : AxisId) (k : Nat) : x.hallMove nn k 5 = x.hallStep nn k (-1) := rfl

theorem Lane.hallMove_of_skip {k d : Nat} (h2 : 2 ≤ d) (h4 : d ≤ 4) : x.hallMove nn k d = x.hallSkip nn k d := by
  unfold Lane.hallMove
  rw [if_neg (by omega), if_neg (by omega), if_neg (by omega)]

theorem Lane.hall_of_sector {k j : Nat} (hk : hallSector (x.axisRec nn) h = some k) (hs : (x.axis nn).fb.sector = some j) :
    x.hall nn h = (x.hallTaken nn h).hallMove nn k ((k + 6 - j) % 6) := by
  unfold Lane.hall
  dsimp only
  split
  next hd => cases hk.symm.trans hd
  next hd =>
    cases hk.symm.trans hd
    rw [hs]
    rfl

/-- Three levels are the bits of the state that they make. -/
theorem bits_hallState (u v w : Bool) : let h := BitVec.ofNat 3 (b2n u + 2 * b2n v + 4 * b2n w)
    bit h 0 = u ∧ bit h 1 = v ∧ bit h 2 = w := by
  revert u v w; decide

/-! ### SSI words (R303, R304) -/

theorem Lane.ssiStart_eq (x : Lane) (nn : AxisId) : x.ssiStart nn =
    if x.decodes nn 3 = true ∧ (x.axis nn).fb.burst = false ∧ (x.axis nn).fb.readyAt ≤ x.tm.loc.toNat ∧
        ((x.axis nn).fb.ssiDue = true ∨ ssiTrigger (x.axisRec nn) = 2) then
      x.onFb nn fun q => { q with burst := true, burstAt := x.tm.loc.toNat, ssiDue := false }
    else x := by
  rw [← ite_not]
  refine if_congr ?_ rfl rfl
  simp only [Lane.ssiReady, Bool.or_eq_true, Bool.not_eq_true', Bool.and_eq_false_iff, Bool.or_eq_false_iff, decide_eq_false_iff_not,
    Bool.not_eq_false', not_and_or, not_or, Bool.not_eq_true, Bool.not_eq_false, or_assoc]

theorem ssiCause_eq_timing {r : Bytes} {w : SsiWord}
    (h : w.startHigh = false ∨ w.highAfter = none ∨ ∃ t, w.highAfter = some t ∧ 1000 * monoUs r < t) (first : Bool) (mt : Nat) (turn : Int) :
    ssiCause r w first mt turn = some 4 := by
  have hframed : ssiFramed w r = false := by
    unfold ssiFramed
    rcases h with h | h | ⟨t, h, ht⟩
    · simp [h]
    · simp [h]
    · simp [h, ht]
  exact if_pos (by simp [hframed])

theorem Lane.ssiWord_of_idle (h : x.decodes nn 3 = false ∨ (x.axis nn).fb.burst = false) (w : SsiWord) : x.ssiWord nn w = x :=
  if_pos (by simpa using h)

/-- The lane whose burst is over, its recovery time running (R303). -/
def Lane.ssiOver (x : Lane) (nn : AxisId) : Lane :=
  x.onFb nn fun q => { q with burst := false, readyAt := x.tm.loc.toNat + 1000 * monoUs (x.axisRec nn) }

/-- The `n` low bits of a word's number, decoded where they are Gray coded (R303). -/
def ssiGroup (r : Bytes) (u n : Nat) : Nat := if ssiGray r then grayDecode (u % 2 ^ n) n else u % 2 ^ n

/-- The angle and the revolution count that a word carries (R303). -/
def ssiAngle (r : Bytes) (w : SsiWord) : Rat :=
  mkRat (ssiGroup r (w.bits.toNat / 2 ^ (ssiStatus r + 6 * ssiCrc r)) (stBits r)) (2 ^ stBits r)

@[inherit_doc ssiAngle]
def ssiTurns (r : Bytes) (w : SsiWord) : Nat :=
  ssiGroup r (w.bits.toNat / 2 ^ (ssiStatus r + 6 * ssiCrc r) / 2 ^ stBits r) (mtBits r)

/-- The first failed check of a word at a channel (R304). -/
def Feedback.ssiCause (f : Feedback) (r : Bytes) (w : SsiWord) : Option Nat :=
  Machine.ssiCause r w f.first (ssiTurns r w) (f.pos + wrapTurn (ssiAngle r w - f.pos)).floor

theorem Lane.ssiWord_of_cause {w : SsiWord} {c : Nat} (hd : x.decodes nn 3 = true) (hb : (x.axis nn).fb.burst = true)
    (hc : (x.axis nn).fb.ssiCause (x.axisRec nn) w = some c) : x.ssiWord nn w = (x.ssiOver nn).fbError nn c := by
  unfold Lane.ssiWord
  dsimp only
  rw [if_neg (by simp [hd, hb])]
  split
  next hc' =>
    cases hc.symm.trans hc'
    rfl
  next hc' => cases hc.symm.trans hc'

theorem Lane.ssiWord_of_good {w : SsiWord} (hd : x.decodes nn 3 = true) (hb : (x.axis nn).fb.burst = true)
    (hc : (x.axis nn).fb.ssiCause (x.axisRec nn) w = none) : x.ssiWord nn w =
      (x.ssiOver nn).wordGood nn (x.axis nn).fb.burstAt (ssiAngle (x.axisRec nn) w) (ssiTurns (x.axisRec nn) w + ssiAngle (x.axisRec nn) w) := by
  unfold Lane.ssiWord
  dsimp only
  rw [if_neg (by simp [hd, hb])]
  split
  next hc' => cases hc.symm.trans hc'
  next hc' => rfl

/-! ### SENT frames (R305, R306) -/

theorem sentCause_eq_timing {r : Bytes} {w : SentFrame}
    (h : 56 * w.syncLow < 4 * w.sync ∨ ∃ p ∈ w.pulses, 56 * p.low < 4 * w.sync) : sentCause r w = some 4 := by
  have htimed : sentTimed r w = false := by
    refine Bool.eq_false_iff.mpr fun ht => ?_
    simp only [sentTimed, Bool.and_eq_true, decide_eq_true_eq, List.all_eq_true] at ht
    obtain ⟨⟨-, hsync⟩, hpulses⟩ := ht
    rcases h with h | ⟨p, hp, h⟩
    · omega
    · have := (hpulses p hp).2
      omega
  exact if_pos (by simp [htimed])

theorem Lane.sentFrame_of_idle (h : x.decodes nn 4 = false) (w : SentFrame) : x.sentFrame nn w = x := if_pos (by simp [h])

/-- The channel with a frame's message bits joined, and whether a diagnostic message is complete; a frame whose timing or CRC
fails ends the message (R306). -/
def Feedback.sentMessage (f : Feedback) (r : Bytes) (w : SentFrame) : Feedback × Bool :=
  if sentCause r w = some 4 ∨ sentCause r w = some 2 then ({ f with esm := [] }, false) else f.esmStep r w

/-- The lane whose channel has taken a frame's message bits. -/
def Lane.sentTaken (x : Lane) (nn : AxisId) (w : SentFrame) : Lane :=
  x.onFb nn fun _ => ((x.axis nn).fb.sentMessage (x.axisRec nn) w).1

theorem Feedback.sentMessage_eq (f : Feedback) (r : Bytes) (w : SentFrame) :
    (if (sentCause r w = some 4 || sentCause r w = some 2) = true then ({ f with esm := [] }, false) else f.esmStep r w) =
      f.sentMessage r w := if_congr (by simp) rfl rfl

theorem Lane.sentFrame_of_cause {w : SentFrame} {c : Nat} (hd : x.decodes nn 4 = true) (hc : sentCause (x.axisRec nn) w = some c) :
    x.sentFrame nn w = (if ((x.axis nn).fb.sentMessage (x.axisRec nn) w).2 = true then (x.sentTaken nn w).sentDiag nn
      else x.sentTaken nn w).fbError nn c := by
  unfold Lane.sentFrame
  dsimp only
  rw [if_neg (by simp [hd]), Feedback.sentMessage_eq]
  split
  next hc' =>
    cases hc.symm.trans hc'
    rfl
  next hc' => cases hc.symm.trans hc'

/-- The number that the first data nibbles of a frame make (R305). -/
def sentCode (r : Bytes) (w : SentFrame) : Nat := ((sentData w).take (stBits r / 4)).foldl (fun v n => 16 * v + n.toNat) 0

/-- The angle that a frame carries (R305). -/
def sentAngle (r : Bytes) (w : SentFrame) : Rat := mkRat (sentCode r w) (2 ^ stBits r)

theorem Lane.sentFrame_of_good {w : SentFrame} (hd : x.decodes nn 4 = true) (hc : sentCause (x.axisRec nn) w = none) :
    x.sentFrame nn w = if ((x.axis nn).fb.sentMessage (x.axisRec nn) w).2 = true then (x.sentTaken nn w).fbError nn 8
      else (x.sentTaken nn w).wordGood nn w.sample.toNat (sentAngle (x.axisRec nn) w)
        (((x.axis nn).fb.sentMessage (x.axisRec nn) w).1.pos.floor + sentAngle (x.axisRec nn) w) := by
  unfold Lane.sentFrame
  dsimp only
  rw [if_neg (by simp [hd]), Feedback.sentMessage_eq]
  split
  next hc' => cases hc.symm.trans hc'
  next hc' =>
    rw [Lane.onFb_fb]
    rfl

end

/-- Settles O40: the pins by whether the cycle has sampled them and by the accepted levels, a word and a frame by their first
failed check. -/
theorem positionSensorRows : Obligations.PositionSensorRows := by
  intro s l x nn hx r f set
  have turn {c : Instr} {f : Lane → Lane} {y : Lane} (h : exec c s = .next (s.onLane l f)) (e : f x = y) : s.Turns c l y :=
    State.turns_onLane h (hx ▸ e)
  refine ⟨?_, ⟨fun h => turn rfl ((Lane.ssiStart_eq x nn).trans (if_pos h)), fun h => turn rfl ((Lane.ssiStart_eq x nn).trans (if_neg h))⟩,
    fun w first mt t h => ssiCause_eq_timing h first mt t, fun w h => sentCause_eq_timing h,
    fun w h => turn rfl (Lane.ssiWord_of_idle h w), fun hd hb w => ?_, fun w => ?_, fun h => turn rfl (if_pos (by simpa using h)),
    fun h3 h4 => turn rfl (if_neg (by simp [h3, h4]))⟩
  · intro i a b c hi pins ins level
    have pinTurn {y : Lane} (e : x.fbInputs nn a b c = y) : s.Turns i l y := by
      rcases hi with rfl | ⟨h, rfl, rfl, rfl, rfl⟩
      · exact turn rfl e
      · exact turn rfl e
    refine ⟨fun h => pinTurn (Lane.fbInputs_of_sampled a b c h), fun hs hc => ?_⟩
    let y := x.onFb nn fun q => { q with sampled := true, ins := ins }
    have hfb : (y.axis nn).fb = { f with sampled := true, ins := ins } := Lane.onFb_fb x nn _
    have hdec (p : Nat) : y.decodes nn p = x.decodes nn p := Lane.onFb_decodes (x := x) rfl p
    have sampleTurn {z : Lane} (e : y.fbDecode nn = z) : s.Turns i l z := pinTurn ((Lane.fbInputs_of_unsampled a b c hs hc).trans e)
    refine ⟨fun h => sampleTurn ?_, fun u v w hu hv hw => ?_⟩
    · rcases h with h | h | h | ⟨h1, h2⟩
      · exact Lane.fbDecode_of_none (Feedback.levels_eq_none (by rw [hfb]; exact .inl h))
      · exact Lane.fbDecode_of_none (Feedback.levels_eq_none (by rw [hfb]; exact .inr (.inl h)))
      · exact Lane.fbDecode_of_none (Feedback.levels_eq_none (by rw [hfb]; exact .inr (.inr h)))
      · exact Lane.fbDecode_of_idle ((hdec 1).trans h1) ((hdec 2).trans h2)
    · have hl : (y.axis nn).fb.levels = some (u, v, w) := Feedback.levels_eq_some (by rwa [hfb]) (by rwa [hfb]) (by rwa [hfb])
      refine ⟨fun hd => ?_, fun hd => ?_⟩
      · intro z
        have hz : y.abz nn u v w = z := Lane.onFb_onFb x nn _ _
        have encoderTurn {z : Lane} (e : y.encoder nn u v w = z) : s.Turns i l z :=
          sampleTurn ((Lane.fbDecode_of_encoder hl ((hdec 1).trans hd)).trans e)
        refine ⟨fun hf => encoderTurn (Lane.encoder_of_first (by rwa [hfb])), fun hf => ?_⟩
        have hf' : (y.axis nn).fb.first = true := by rwa [hfb]
        have hq {o : Option Int} (h : quadStep r f.a f.b u v = o) :
            quadStep (y.axisRec nn) (y.axis nn).fb.a (y.axis nn).fb.b u v = o := by rw [hfb]; exact h
        refine ⟨fun h => encoderTurn ((Lane.encoder_of_illegal hf' (hq h)).trans (hz ▸ rfl)),
          fun h => encoderTurn ((Lane.encoder_of_step hf' (hq h)).trans ((if_pos rfl).trans hz)), fun d h0 h => ?_⟩
        have hstep := Lane.encoder_of_step (w := w) hf' (hq h)
        have hfast : y.tooFast nn = x.tooFast nn := Lane.onFb_tooFast (x := x) rfl rfl
        rw [if_neg h0, hz, hfast] at hstep
        refine ⟨fun ht => encoderTurn (hstep.trans (if_neg (ne_true_of_eq_false ht))), fun ht => ?_⟩
        rw [if_pos ht] at hstep
        by_cases hfree : z.freeBelow 2 = 0
        · exact .inl (encoderTurn (hstep.trans (if_pos hfree)))
        · exact .inr (encoderTurn (hstep.trans (if_neg hfree)))
      · intro h z
        have hz : y.hallTaken nn h = z := by
          obtain ⟨h0, h1, h2⟩ := bits_hallState u v w
          unfold Lane.hallTaken
          rw [h0, h1, h2]
          exact Lane.onFb_onFb x nn _ _
        have hallTurn {z : Lane} (e : y.hall nn h = z) : s.Turns i l z :=
          sampleTurn ((Lane.fbDecode_of_hall hl ((hdec 2).trans hd)).trans e)
        have hrec : hallSector (y.axisRec nn) h = hallSector r h := rfl
        have hstate : (y.axis nn).fb.hall = f.hall := by rw [hfb]
        have hsector : (y.axis nn).fb.sector = f.sector := by rw [hfb]
        refine ⟨fun hk hs => hallTurn ?_, fun hk hs => hallTurn ?_, fun k hk hs => hallTurn ?_, fun k j hk hs hj => ?_⟩
        · exact (Lane.hall_of_illegal (hrec.trans hk)).trans ((if_pos (hstate.trans hs)).trans hz)
        · rw [Lane.hall_of_illegal (hrec.trans hk), if_neg (hstate ▸ hs), hz]
        · rw [Lane.hall_of_first (hrec.trans hk) (hsector.trans hs), hz]
        · have hlt : k < 6 := hallSector_lt hk
          have hmove : y.hall nn h = z.hallMove nn k ((k + 6 - j) % 6) :=
            hz ▸ Lane.hall_of_sector (hrec.trans hk) (hsector.trans hs)
          have moveTurn {d : Nat} {y' : Lane} (hd : (k + 6 - j) % 6 = d) (e : z.hallMove nn k d = y') : s.Turns i l y' :=
            hallTurn (hmove.trans (hd ▸ e))
          exact ⟨fun h => moveTurn (by omega) (z.hallMove_of_same nn k), fun h => moveTurn (by omega) (z.hallMove_of_next nn k),
            fun h => moveTurn (by omega) (z.hallMove_of_previous nn k),
            fun d h2 h4 h => moveTurn (by omega) (Lane.hallMove_of_skip h2 h4)⟩
  · intro y v group frac mt cause
    exact ⟨fun c hc => turn rfl (Lane.ssiWord_of_cause hd hb hc), fun hc => turn rfl (Lane.ssiWord_of_good hd hb hc)⟩
  · intro lost e y code frac
    have hdiag : y.sentDiag nn = if (y.axis nn).fb.deaf 8 = true then y else y.event (89 + 2 * nn.val) 8 := rfl
    refine ⟨fun h => turn rfl (Lane.sentFrame_of_idle h w), fun hd => ⟨fun c hc => ?_, fun hc he =>
      turn rfl ((Lane.sentFrame_of_good hd hc).trans (if_pos he)), fun hc he => turn rfl ((Lane.sentFrame_of_good hd hc).trans ?_)⟩⟩
    · have hframe : x.sentFrame nn w = (if e.2 = true then y.sentDiag nn else y).fbError nn c := Lane.sentFrame_of_cause hd hc
      refine ⟨fun h => turn rfl (hframe.trans (congrArg (Lane.fbError · nn c) ?_)), fun he hdeaf =>
        turn rfl (hframe.trans (congrArg (Lane.fbError · nn c) ?_))⟩
      · rcases h with he | hdeaf
        · exact if_neg (ne_true_of_eq_false he)
        · rw [hdiag, if_pos hdeaf, ite_self]
      · rw [if_pos he, hdiag, if_neg (ne_true_of_eq_false hdeaf)]
    · exact if_neg (ne_true_of_eq_false he)

end Sys2Proof.Machine
end

section
/-! The timers and transitions of the sensorless supervisor (R326 to R333, R339). -/

namespace Sys2Proof.Machine

section
variable {x : Lane} {nn : AxisId}

theorem Lane.onAxis_of_fixed {f : Axis → Axis} (h : f (x.axis nn) = x.axis nn) : x.onAxis nn f = x := by
  have h' : f (vget x.ax nn) = vget x.ax nn := h
  rw [Lane.onAxis, vmod_of_fixed h']

/-! ### Timers (R326, R328, R333) -/

theorem Drive.judged_iff (d : Drive) : d.judged = true ↔ d ∈ [Drive.hfi, .catching, .observer, .coast] := by
  cases d <;> decide

theorem Lane.writeTimeout_eq (x : Lane) (nn : AxisId) : x.writeTimeout nn =
    if (x.axis nn).sup.drive ∈ [Drive.hfi, .catching, .observer, .coast] ∧ (x.axis nn).sup.locked = true then
      x.onAxis nn fun a => { a with sup := { a.sup with lost := true } } else x := by
  have hjudged : ((x.axis nn).sup.drive.judged && (x.axis nn).sup.locked) = true ↔
      (x.axis nn).sup.drive ∈ [Drive.hfi, .catching, .observer, .coast] ∧ (x.axis nn).sup.locked = true := by
    rw [Bool.and_eq_true, Drive.judged_iff]
  split
  next h => exact x.onAxis_congr nn (by rw [hjudged.mpr h, Bool.or_true])
  next h => exact Lane.onAxis_of_fixed (by rw [Bool.eq_false_iff.mpr (mt hjudged.mp h), Bool.or_false])

theorem Lane.timeUp_eq (x : Lane) (nn : AxisId) (d : Drive) : x.timeUp nn d =
    if (x.axis nn).sup.drive = d then x.onAxis nn fun a => { a with sup := { a.sup with due := true } } else x := by
  split
  next h => exact x.onAxis_congr nn (by simp [h])
  next h => exact Lane.onAxis_of_fixed (by rw [decide_eq_false h, Bool.or_false])

/-! ### The causes of a transition (R328) -/

theorem startDrive_eq (r : Bytes) :
    startDrive r = if startMode r = 1 then .hfi else if startMode r = 2 then .polarity else .catching := by
  unfold startDrive
  split
  next h => rw [if_pos h]
  next h => rw [if_neg (by omega), if_pos h]
  next h1 h2 => rw [if_neg h1, if_neg h2]

section
variable {u : Supervisor} {r : Bytes}

theorem Supervisor.entered_of_start (hd : u.drive = .idle ∨ u.drive = .failed) (hs : u.start = true) :
    u.entered r = some (startDrive r) := if_pos (by simpa [hs] using hd)

theorem Supervisor.entered_of_fallback (hd : u.drive = .idle) (hs : u.start = false) : u.entered r = u.fall :=
  (if_neg (by simp [hs])).trans (if_pos hd)

/-- Neither an enable nor FALLBACK leads on. -/
theorem Supervisor.entered_of_free (hs : u.start = false ∨ (u.drive ≠ .idle ∧ u.drive ≠ .failed)) (hf : u.drive = .idle → u.fall = none) :
    u.entered r = none := by
  have hstart : ¬(u.start && (u.drive = .idle || u.drive = .failed)) = true := by
    rcases hs with hs | ⟨hi, hf⟩
    · simp [hs]
    · simp [hi, hf]
  rw [Supervisor.entered, if_neg hstart]
  split
  next hd => exact hf hd
  next => rfl

theorem Supervisor.next_of_rest (hd : u.drive = .idle ∨ u.drive = .failed) : u.next r = none := by
  rcases hd with hd | hd <;> simp only [Supervisor.next, hd]

theorem Supervisor.next_of_polarity (hd : u.drive = .polarity) : u.next r = if u.due = true then some (.hfi, false) else none := by
  simp only [Supervisor.next, hd]

/-- The judge is locked and has not lost its lock. -/
abbrev Supervisor.Held (u : Supervisor) : Prop := u.locked = true ∧ u.lost = false

theorem Supervisor.held_iff : (u.locked && !u.lost) = true ↔ u.Held := by simp [Supervisor.Held]

theorem Supervisor.next_of_hfi (hd : u.drive = .hfi) : u.next r =
    if u.Held ∧ hfiExitDhz r ≤ u.speed then some (.observer, true)
    else if u.lost = true ∨ (u.due = true ∧ u.locked = false) then some (.catching, false) else none := by
  simp only [Supervisor.next, hd]
  exact if_congr (by rw [Bool.and_eq_true, Supervisor.held_iff, decide_eq_true_eq]) rfl (if_congr (by simp) rfl rfl)

theorem Supervisor.next_of_observer (hd : u.drive = .observer) : u.next r =
    if u.speed < hfiEnterDhz r then some (.hfi, false)
    else if u.lost = false then none
    else if coastMinDhz r ≤ u.speed then some (.coast, false) else some (.catching, false) := by
  simp only [Supervisor.next, hd]
  exact if_congr Iff.rfl rfl (if_congr (by simp) rfl rfl)

theorem Supervisor.next_of_coast (hd : u.drive = .coast) :
    u.next r = if u.Held then some (.observer, true) else if u.due = true then some (.catching, false) else none := by
  simp only [Supervisor.next, hd]
  exact if_congr Supervisor.held_iff rfl rfl

theorem Supervisor.caught_eq (u : Supervisor) (r : Bytes) : u.caught r =
    if hfiExitDhz r ≤ u.speed then .observer
    else if u.speed < catchMinDhz r ∧ startMode r = 2 then .polarity else .hfi := by
  unfold Supervisor.caught
  by_cases hc : (catchMinDhz r : Rat) ≤ u.speed
  · simp [hc, not_lt_of_ge hc]
  · simp [hc, lt_of_not_ge hc]

theorem Supervisor.caught_ne (u : Supervisor) (r : Bytes) : u.caught r ≠ .catching := by
  rw [Supervisor.caught_eq]
  split
  · nofun
  · split <;> nofun

theorem Supervisor.next_of_catching (hd : u.drive = .catching) :
    u.next r = if u.Held then some (u.caught r, true) else if u.due = true then some (.catching, false) else none := by
  simp only [Supervisor.next, hd]
  exact if_congr Supervisor.held_iff rfl rfl

end

/-! ### The passage of a PWM cycle (R326 to R329, R332) -/

/-- The lane with the causes that waited for this PWM cycle gone. -/
def Lane.supFree (x : Lane) (nn : AxisId) : Lane := x.onAxis nn fun a => { a with sup := { a.sup with start := false, fall := none } }

/-- What the first cause of R328 that holds makes of the lane: in CATCH a window that ends unlocked is counted. -/
def Lane.supTurn (y : Lane) (nn : AxisId) (was : Drive) : Option (Drive × Bool) → Lane
  | none => y
  | some p => if was = .catching ∧ p.1 = .catching then y.catchEnd nn else y.toDrive nn p.1 p.2

theorem Lane.supTurn_some (y : Lane) {was d : Drive} (h : was ≠ .catching ∨ d ≠ .catching) (keep : Bool) :
    y.supTurn nn was (some (d, keep)) = y.toDrive nn d keep := if_neg (not_and_or.mpr h)

/-- A cause that leads on, or else the causes below it. -/
theorem Lane.supTurn_ite (y : Lane) {was d : Drive} (h : was ≠ .catching ∨ d ≠ .catching) (keep : Bool) (o : Option (Drive × Bool))
    (c : Prop) [Decidable c] :
    y.supTurn nn was (if c then some (d, keep) else o) = if c then y.toDrive nn d keep else y.supTurn nn was o := by
  rw [apply_ite (y.supTurn nn was), Lane.supTurn_some y h]

/-- The third catch window that ends unlocked fails the supervisor (R331). -/
theorem Lane.catchEnd_eq (y : Lane) (nn : AxisId) :
    let z := y.onAxis nn fun a => { a with sup := { a.sup with fails := a.sup.fails + 1 } }
    y.catchEnd nn = if (y.axis nn).sup.fails < 2 then z.toDrive nn .catching false
      else ((z.toDrive nn .failed false).fault 121 (z.dev nn) 0 0 0).enterSafe nn := by
  intro z
  have hfails : (z.axis nn).sup.fails = (y.axis nn).sup.fails + 1 := congrArg (·.sup.fails) (y.onAxis_axis_self nn _)
  exact if_congr (by rw [hfails]; omega) rfl rfl

theorem Lane.supEval_of_moved (h : (x.axis nn).sup.movedAt = some x.tm.loc) : x.supEval nn = x := if_pos h

theorem Lane.supEval_of_entered {d : Drive} (hm : (x.axis nn).sup.movedAt ≠ some x.tm.loc)
    (he : (x.axis nn).sup.entered (x.axisRec nn) = some d) : x.supEval nn = x.toDrive nn d false := by
  unfold Lane.supEval
  rw [if_neg hm]
  split
  next h =>
    cases he.symm.trans h
    rfl
  next h => cases he.symm.trans h

theorem Lane.supEval_of_free (hm : (x.axis nn).sup.movedAt ≠ some x.tm.loc) (he : (x.axis nn).sup.entered (x.axisRec nn) = none) :
    x.supEval nn = (x.supFree nn).supTurn nn (x.axis nn).sup.drive ((x.axis nn).sup.next (x.axisRec nn)) := by
  unfold Lane.supEval
  rw [if_neg hm]
  split
  next h => cases he.symm.trans h
  next =>
    dsimp only
    split
    next hn =>
      have hn' : (x.axis nn).sup.next (x.axisRec nn) = none := hn
      rw [hn']
      rfl
    next d keep hn =>
      have hn' : (x.axis nn).sup.next (x.axisRec nn) = some (d, keep) := hn
      rw [hn']
      exact if_congr (by simp) rfl rfl

/-- A passage, field by field (R326, R327, R329). -/
theorem Lane.toDrive_eq (x : Lane) (nn : AxisId) (d : Drive) (keep : Bool) : x.toDrive nn d keep = x.onAxis nn fun a => { a with
    sup :=
      if keep then { a.sup with drive := d, off := a.sup.off || decide (d = .catching), due := false, lost := false,
                                movedAt := some x.tm.loc, start := false, fall := none, say := true }
      else { a.sup with drive := d, off := a.sup.off || decide (d = .catching), due := false, lost := false,
                        locked := false, good := 0, bad := 0, ref := none, last := none, movedAt := some x.tm.loc,
                        start := false, fall := none, say := true },
    acc := { a.acc with valid := a.acc.valid && (decide (d = .coast) || (keep && decide (d ≠ .polarity))) },
    pwm := if d = .catching then { a.pwm with mask := BitVec.ofNat 6 (maskInit (x.axisRec nn)) } else a.pwm } := by
  cases keep <;> rfl

/-! ### Start, end and announcement (R328, R331 to R333, R336) -/

/-- The lane with the failed-catch count 0. -/
def Lane.supFresh (x : Lane) (nn : AxisId) : Lane := x.onAxis nn fun a => { a with sup := { a.sup with fails := 0 } }

/-- Whether the supervisor runs depends on the record and the feedback channel alone. -/
theorem Lane.supRuns_onAxis {f : Axis → Axis} (h : (f (x.axis nn)).fb = (x.axis nn).fb) : (x.onAxis nn f).supRuns nn = x.supRuns nn := by
  have hfb : ((x.onAxis nn f).axis nn).fb = (x.axis nn).fb := (congrArg Axis.fb (x.onAxis_axis_self nn f)).trans h
  unfold Lane.supRuns Lane.angleSrc
  rw [hfb]
  rfl

theorem Lane.supStart_of_runs (hr : x.supRuns nn = true) (hd : (x.axis nn).sup.drive = .idle ∨ (x.axis nn).sup.drive = .failed) :
    x.supStart nn = if (x.axis nn).sup.movedAt = some x.tm.loc then
        (x.supFresh nn).onAxis nn fun a => { a with sup := { a.sup with start := true } }
      else (x.supFresh nn).toDrive nn (startDrive (x.axisRec nn)) false := by
  have hsup : ((x.supFresh nn).axis nn).sup = { (x.axis nn).sup with fails := 0 } := congrArg Axis.sup (x.onAxis_axis_self nn _)
  have hruns : ¬(!(x.supFresh nn).supRuns nn ||
      (decide (((x.supFresh nn).axis nn).sup.drive ≠ .idle) && decide (((x.supFresh nn).axis nn).sup.drive ≠ .failed))) = true := by
    have hr' : (x.supFresh nn).supRuns nn = true := (Lane.supRuns_onAxis (x := x) rfl).trans hr
    rw [hr', hsup]
    rcases hd with hd | hd <;> simp [hd]
  have hmoved : ((x.supFresh nn).axis nn).sup.movedAt = (x.axis nn).sup.movedAt := by rw [hsup]
  rw [← hmoved]
  exact if_neg hruns

/-- The axis after its supervisor returned to IDLE from a drive state. -/
theorem Lane.supIdle_axis (hi : (x.axis nn).sup.drive ≠ .idle) (hf : (x.axis nn).sup.drive ≠ .failed) :
    (x.supIdle nn).axis nn = { x.axis nn with
      acc := { (x.axis nn).acc with valid := (x.axis nn).acc.valid && !x.supRuns nn }
      sup := { (x.axis nn).sup.toIdle with movedAt := some x.tm.loc } } := by
  have hruns : (x.onAxis nn fun a => { a with sup := a.sup.toIdle }).supRuns nn = x.supRuns nn := Lane.supRuns_onAxis rfl
  unfold Lane.supIdle
  dsimp only
  rw [if_neg (by simp [hi, hf]), hruns, Lane.onAxis_axis_self, Lane.onAxis_axis_self]
  rfl

theorem Supervisor.toIdle_of_drives {u : Supervisor} (h : u.drive ≠ .failed) :
    u.toIdle = { Supervisor.cold with fails := u.fails, movedAt := u.movedAt, shown := u.shown, say := u.shown ≠ .idle } := if_neg h

theorem Lane.supIdle_drive_of_failed (h : (x.axis nn).sup.drive = .failed) : ((x.supIdle nn).axis nn).sup.drive = .failed := by
  unfold Lane.supIdle Supervisor.toIdle
  dsimp only
  rw [if_pos (by simp [h]), Lane.onAxis_axis_self]
  exact (congrArg Supervisor.drive (if_pos h)).trans h

theorem Lane.supSay_eq (x : Lane) (nn : AxisId) : x.supSay nn =
    let g := x.onAxis nn fun a => { a with sup := { a.sup with shown := a.sup.drive, say := false } }
    if (x.axis nn).sup.say = true then g.announce nn (x.axis nn).sup.drive else g := rfl

theorem Lane.announce_of_used {d : Drive} (hc : natBit (commFlags (x.axisRec nn)) 2 = true) (hk : x.keeperStopped = false) :
    x.announce nn d = x.dlInsert (fin (modeList (x.axisRec nn))) (x.dlPresent (fin (modeList (x.axisRec nn))))
      (BitVec.ofNat 16 (modeTag (x.axisRec nn) + driveCode d)) none := if_pos (by simp [hc, hk])

theorem Lane.announce_of_not {d : Drive} (h : natBit (commFlags (x.axisRec nn)) 2 = false ∨ x.keeperStopped = true) :
    x.announce nn d = x := if_neg (by rcases h with h | h <;> simp [h])

end

/-- Settles O41: the timers by the drive state, a transition by the first cause that holds, the start, the end and the announcement by
the state they find. -/
theorem supervisorTimers : Obligations.SupervisorTimers := by
  refine ⟨?_, ?_⟩
  · intro s l x nn hx u timeUp
    have turn {c : Instr} {f : Lane → Lane} {y : Lane} (h : exec c s = .next (s.onLane l f)) (e : f x = y) : s.Turns c l y :=
      State.turns_onLane h (hx ▸ e)
    refine ⟨turn rfl (x.writeTimeout_eq nn), turn rfl (x.timeUp_eq nn .hfi), turn rfl (x.timeUp_eq nn .polarity),
      turn rfl (x.timeUp_eq nn .catching), turn rfl (x.timeUp_eq nn .coast), turn rfl rfl, turn rfl ?_⟩
    exact if_congr (by rw [Bool.and_eq_true, decide_eq_true_eq]) rfl rfl
  · intro x nn r u pass first y held free
    have hpass {z : Lane} (hz : z.axisRec nn = r) (d : Drive) (keep : Bool) : z.toDrive nn d keep = pass z d keep := by
      rw [Lane.toDrive_eq, hz]
    have hfirst : startDrive r = first := startDrive_eq r
    refine ⟨fun hm => Lane.supEval_of_moved hm, fun hm hd hs => ?_, fun hm hd hs d hf => ?_, fun hm hd hf => ?_, fun hm => ?_,
      ?_, fun hi hf => ?_, fun hf => Lane.supIdle_drive_of_failed hf, ?_⟩
    · rw [Lane.supEval_of_entered hm (Supervisor.entered_of_start hd hs), Lane.toDrive_eq, hfirst]
    · exact (Lane.supEval_of_entered hm ((Supervisor.entered_of_fallback hd hs).trans hf)).trans (Lane.toDrive_eq ..)
    · exact (Lane.supEval_of_free hm (Supervisor.entered_of_free (.inl hf.1) hf.2)).trans
        (congrArg (y.supTurn nn u.drive) (Supervisor.next_of_rest hd))
    · have drives {o : Option (Drive × Bool)} (hi : u.drive ≠ .idle) (hf : u.drive ≠ .failed) (e : u.next r = o) :
          x.supEval nn = y.supTurn nn u.drive o := by
        rw [← e]
        exact Lane.supEval_of_free hm (Supervisor.entered_of_free (.inr ⟨hi, hf⟩) fun h => absurd h hi)
      have hy (d : Drive) (keep : Bool) : y.toDrive nn d keep = pass y d keep := hpass (z := y) rfl d keep
      refine ⟨fun hd => ?_, fun hd => ?_, fun hd => ?_, fun hd => ?_, fun hd hh => ?_, fun hd hh => ?_⟩
      · rw [drives (by simp [hd]) (by simp [hd]) (Supervisor.next_of_polarity hd), Lane.supTurn_ite y (.inr (by decide)), hy]
        rfl
      · have hother : u.drive ≠ .catching := by simp [hd]
        rw [drives (by simp [hd]) (by simp [hd]) (Supervisor.next_of_hfi hd), Lane.supTurn_ite y (.inl hother),
          Lane.supTurn_ite y (.inl hother), hy, hy]
        rfl
      · have hother : u.drive ≠ .catching := by simp [hd]
        rw [drives (by simp [hd]) (by simp [hd]) (Supervisor.next_of_observer hd), Lane.supTurn_ite y (.inl hother),
          apply_ite (y.supTurn nn u.drive), Lane.supTurn_ite y (.inl hother), Lane.supTurn_some y (.inl hother), hy, hy, hy]
        rfl
      · have hother : u.drive ≠ .catching := by simp [hd]
        rw [drives (by simp [hd]) (by simp [hd]) (Supervisor.next_of_coast hd), Lane.supTurn_ite y (.inl hother),
          Lane.supTurn_ite y (.inl hother), hy, hy]
        rfl
      · rw [drives (by simp [hd]) (by simp [hd]) ((Supervisor.next_of_catching hd).trans (if_pos hh)),
          Lane.supTurn_some y (.inr (u.caught_ne r)), hy, Supervisor.caught_eq]
      · have hfails : (y.axis nn).sup.fails = u.fails := congrArg (·.sup.fails) (x.onAxis_axis_self nn _)
        rw [drives (by simp [hd]) (by simp [hd]) ((Supervisor.next_of_catching hd).trans (if_neg hh))]
        cases hdue : u.due with
        | false => rfl
        | true =>
          refine (if_pos ⟨hd, rfl⟩).trans ((Lane.catchEnd_eq y nn).trans ?_)
          rw [hfails, Lane.toDrive_eq, Lane.toDrive_eq]
          rfl
    · intro e hr hd
      have hstart := Lane.supStart_of_runs hr hd
      refine ⟨fun hm => (hstart.trans (if_neg hm)).trans ?_, fun hm => hstart.trans (if_pos hm)⟩
      rw [← hfirst, ← hpass (z := e) rfl]
      rfl
    · intro g
      have hg : g = _ := Lane.supIdle_axis hi hf
      rw [Supervisor.toIdle_of_drives hf] at hg
      rw [hg]
      exact ⟨rfl, rfl, rfl, rfl, decide_eq_true_iff, fun hr => by simp [hr]⟩
    · intro g
      refine ⟨fun hs => (x.supSay_eq nn).trans (if_neg (ne_true_of_eq_false hs)), fun hs hc hk => ?_, fun hs h => ?_⟩
      · exact (x.supSay_eq nn).trans ((if_pos hs).trans (Lane.announce_of_used hc hk))
      · exact (x.supSay_eq nn).trans ((if_pos hs).trans (Lane.announce_of_not h))

end Sys2Proof.Machine
end

section
/-! The checking logic of the supervisor pair (R379 to R390). -/

namespace Sys2Proof.Machine

/-! ### What a core puts out (R382, R385, R387) -/

/-- What a core puts out in a cycle: nothing while stalled, no store while the pair is quiet. -/
def pairOut (quiet stall : Bool) (o : CoreOut) : CoreOut :=
  if quiet then quietOut (unlessStalled stall o) else unlessStalled stall o

theorem quietOut_eq_of_store {p : CoreOut} (h : ∃ r, p.req = some r ∧ r.kind = .store) : quietOut p = { p with req := none } := by
  obtain ⟨r, hr, hk⟩ := h
  simp only [quietOut, hr]
  exact if_pos hk

theorem quietOut_eq_of_not_store {p : CoreOut} (h : ¬∃ r, p.req = some r ∧ r.kind = .store) : quietOut p = p := by
  unfold quietOut
  split
  next r hr => exact if_neg fun hk => h ⟨r, hr, hk⟩
  next => rfl

theorem pairOut_eq (quiet stall : Bool) (o : CoreOut) :
    let p := if stall = true then { req := none, reg := none, pc := none, ack := false } else o
    pairOut quiet stall o = if quiet = true ∧ (∃ r, p.req = some r ∧ r.kind = .store) then { p with req := none } else p := by
  intro p
  have hout : pairOut quiet stall o = if quiet = true then quietOut p else p := rfl
  rw [hout]
  cases quiet with
  | false => exact (if_neg (by simp)).symm
  | true =>
    by_cases h : ∃ r, p.req = some r ∧ r.kind = .store
    · rw [if_pos rfl, if_pos ⟨rfl, h⟩, quietOut_eq_of_store h]
    · rw [if_pos rfl, if_neg (by simp [h]), quietOut_eq_of_not_store h]

/-- One step of a signature register, seeded in the first cycle of a window (R382). -/
def signatureStep (n : Nat) (sig : W64) (o : CoreOut) (damage : W64) : W64 :=
  misrStep (if n = 0 then misrSeed else sig) (coreBits o) ^^^ damage

/-! ### The parts of a cycle (R379 to R386) -/

section
variable {k : Lockstep} {o : CoreOut}

/-- The buffer once its oldest request has left where it may (R385). -/
def Lockstep.kept (k : Lockstep) (accept : Bool) : List HeldReq :=
  match k.buffer with
  | h :: hs => if h.clean = true ∧ accept = true then hs else h :: hs
  | [] => []

theorem Lockstep.drain_eq (k : Lockstep) (accept : Bool) : ∃ sent, k.drain accept = { k with buffer := k.kept accept, sent := sent } := by
  unfold Lockstep.drain Lockstep.kept
  cases hb : k.buffer with
  | nil => exact ⟨k.sent, by dsimp only; rw [← hb]⟩
  | cons h hs =>
    dsimp only
    by_cases hc : h.clean = true ∧ accept = true
    · exact ⟨some h.req, by rw [if_pos hc, if_pos (by simp [hc])]⟩
    · exact ⟨k.sent, by rw [if_neg hc, if_neg (by simpa using hc), ← hb]⟩

/-- A store or a side-effecting load joins the buffer; a load from a held address has its data answered (R385, R386). -/
theorem Lockstep.issue_eq (k : Lockstep) (o : CoreOut) : ∃ f b, k.issue o = { k with forward := f, buffer := b } ∧
    (o.req = none → b = k.buffer ∧ f = k.forward) ∧
    ∀ r, o.req = some r → (r.kind = .load → b = k.buffer ∧ f = k.heldData r.addr) ∧
      (r.kind ≠ .load → b = k.buffer ++ [{ req := r, window := k.window, clean := false }] ∧ f = k.forward) := by
  unfold Lockstep.issue
  split
  next h => exact ⟨k.forward, k.buffer, rfl, fun _ => ⟨rfl, rfl⟩, fun r hr => by cases h.symm.trans hr⟩
  next r h =>
    split
    next hk =>
      exact ⟨_, k.buffer, rfl, fun hn => (by cases h.symm.trans hn), fun r' hr => by
        cases h.symm.trans hr
        exact ⟨fun _ => ⟨rfl, rfl⟩, fun hne => absurd hk hne⟩⟩
    next hk =>
      exact ⟨k.forward, _, rfl, fun hn => (by cases h.symm.trans hn), fun r' hr => by
        cases h.symm.trans hr
        exact ⟨fun he => absurd he hk, fun _ => ⟨rfl, rfl⟩⟩⟩

/-- The primary core's window goes on, or closes with its 64th cycle (R381, R382). -/
theorem Lockstep.primary_eq (k : Lockstep) (o : CoreOut) (damage : W64) : ∃ n d cl, k.primary o damage = { k with
      sigPrimary := signatureStep k.done k.sigPrimary o damage, window := n, done := d, closed := cl } ∧
    (k.done ≠ 63 → n = k.window ∧ d = k.done + 1) ∧
    (k.done = 63 → n = k.window + 1 ∧ d = 0 ∧ cl = k.closed ++ [{
      num := k.window, length := 64, sigPrimary := signatureStep k.done k.sigPrimary o damage, sigShadow := none, wait := 2 }]) := by
  by_cases h : k.done = 63
  · have hlast : k.primary o damage = { k with
        sigPrimary := signatureStep k.done k.sigPrimary o damage, done := k.done + 1 : Lockstep }.close := if_pos (congrArg (· + 1) h)
    refine ⟨_, _, _, hlast, fun hne => absurd h hne, fun _ => ⟨rfl, rfl, ?_⟩⟩
    rw [h]
  · exact ⟨k.window, k.done + 1, k.closed, if_neg (by simpa using h), fun _ => ⟨rfl, rfl⟩, fun he => absurd he h⟩

/-- The pair before the primary core's side of a cycle: the oldest request gone where it may, the shadow core past the word that
arrived. -/
def Lockstep.followed (k : Lockstep) (quiet : Bool) (c : PairCycle) : Lockstep :=
  let y := ((k.drain c.accept).await).following quiet c (k.arrived c)
  { y with stage2 := y.stage1 }

theorem Lockstep.followed_eq (k : Lockstep) (quiet : Bool) (c : PairCycle) : ∃ sent cl n sig i, k.followed quiet c = { k with
      buffer := k.kept c.accept, sent := sent, closed := cl, doneShadow := n, sigShadow := sig, shadowIn := i, stage2 := k.stage1 } ∧
    (k.stage2 = none → i = none ∧ sig = k.sigShadow ∧ n = k.doneShadow) ∧
    ∀ w, k.stage2 = some w → i = some (w.upset c.upset).input ∧
      sig = signatureStep k.doneShadow k.sigShadow (pairOut quiet (w.upset c.upset).input.stall c.shadow) c.damageShadow := by
  obtain ⟨sent, hdrain⟩ := k.drain_eq c.accept
  cases h : k.stage2 with
  | none =>
    have harrived : k.arrived c = none := congrArg (Option.map _) h
    rw [Lockstep.followed, hdrain, harrived]
    exact ⟨sent, _, _, _, _, rfl, fun _ => ⟨rfl, rfl, rfl⟩, nofun⟩
  | some w =>
    have harrived : k.arrived c = some (w.upset c.upset) := congrArg (Option.map _) h
    rw [Lockstep.followed, hdrain, harrived]
    refine ⟨sent, _, _, _, _, rfl, nofun, fun w' e => ?_⟩
    cases e
    exact ⟨rfl, rfl⟩

theorem Lockstep.leading_of_halted (quiet : Bool) (c : PairCycle) :
    k.leading true quiet c = { k with input := some (k.sample c), forward := none, stage1 := none } := rfl

/-- The pair whose input register and first delay stage have taken a cycle's inputs (R379, R380). -/
def Lockstep.sampled (k : Lockstep) (c : PairCycle) : Lockstep := { k with
  input := some (k.sample c)
  forward := none
  stage1 := some { input := k.sample c, marker := k.marker, parity := (k.sample c).parity } }

/-- The primary core runs a cycle: its outputs step its signature and reach the commit buffer. -/
theorem Lockstep.leading_of_running (k : Lockstep) (quiet : Bool) (c : PairCycle) :
    let o := pairOut quiet k.stall c.primary
    let sig := signatureStep k.done k.sigPrimary o c.damagePrimary
    ∃ f b n d cl, k.leading false quiet c = { k with
        input := some (k.sample c)
        stage1 := some { input := k.sample c, marker := k.marker, parity := (k.sample c).parity }
        forward := f, buffer := b, sigPrimary := sig, window := n, done := d, closed := cl } ∧
      (o.req = none → b = k.buffer ∧ f = none) ∧
      (∀ r, o.req = some r → (r.kind = .load → b = k.buffer ∧ f = k.heldData r.addr) ∧
        (r.kind ≠ .load → b = k.buffer ++ [{ req := r, window := k.window, clean := false }] ∧ f = none)) ∧
      (k.done ≠ 63 → n = k.window ∧ d = k.done + 1) ∧
      (k.done = 63 → n = k.window + 1 ∧ d = 0 ∧
        cl = k.closed ++ [{ num := k.window, length := 64, sigPrimary := sig, sigShadow := none, wait := 2 }]) := by
  intro o sig
  have hlead : k.leading false quiet c = ((k.sampled c).issue o).primary o c.damagePrimary := rfl
  obtain ⟨f, b, hissue, hnone, hsome⟩ := (k.sampled c).issue_eq o
  obtain ⟨n, d, cl, hprimary, hopen, hlast⟩ := ((k.sampled c).issue o).primary_eq o c.damagePrimary
  rw [hissue] at hopen hlast
  refine ⟨f, b, n, d, cl, ?_, hnone, hsome, hopen, hlast⟩
  rw [hlead, hprimary, hissue]
  rfl

theorem Lockstep.leading_failed (k : Lockstep) (halted quiet : Bool) (c : PairCycle) : (k.leading halted quiet c).failed = k.failed := by
  cases halted with
  | true => rfl
  | false =>
    obtain ⟨_, _, _, _, _, e, -⟩ := k.leading_of_running quiet c
    rw [e]

theorem Lockstep.cycle_eq (k : Lockstep) (halted quiet : Bool) (c : PairCycle) : k.cycle halted quiet c =
    let y := (k.followed quiet c).leading halted quiet c
    { y with cycles := y.cycles + 1, marker := grayNext y.marker, stall := decide (128 ≤ y.buffer.length) } := rfl

theorem Lockstep.heldData_eq (k : Lockstep) (a : W64) : k.heldData a =
    (k.buffer.reverse.find? fun h => decide (h.req.kind = .store ∧ h.req.addr = a)).map fun h => h.req.data := by
  simp only [Lockstep.heldData, Bool.decide_and]

theorem Lockstep.due_iff (w : PairWindow) (b : W64) :
    k.due = some (w, b) ↔ ∃ ws, k.closed = w :: ws ∧ w.sigShadow = some b ∧ w.wait = 0 := by
  constructor
  · intro h
    unfold Lockstep.due at h
    split at h
    next v vs hc =>
      split at h
      next s hs =>
        split at h
        next hw =>
          obtain ⟨rfl, rfl⟩ := Prod.mk.inj (Option.some.inj h)
          exact ⟨vs, hc, hs, hw⟩
        next => cases h
      next => cases h
    next => cases h
  · rintro ⟨ws, hc, hs, hw⟩
    simp only [Lockstep.due, hc, hs, hw, if_true]

theorem DelayWord.sound_iff (w : DelayWord) (m : BitVec 2) :
    w.sound m = true ↔ w.parity = w.input.parity ∧ grayNext (grayNext w.marker) = m := by simp [DelayWord.sound]

/-! ### A cycle of a lane's pair and its comparators (R384, R389) -/

end

section
variable {x : Lane} {m d : Comparator} {c : PairCycle}

theorem Lane.pairRuns_iff (x : Lane) : x.pairRuns = true ↔ x.portOn = true ∧ x.lk.failed = false ∧
    x.inSlice 20 = false ∧ x.inSlice 21 = false ∧ x.inSlice 22 = false := by
  simp [Lane.pairRuns, and_assoc]

theorem Lane.delayBad_of_runs (h : x.pairRuns = true) :
    x.delayBad = { x with lk := { x.lk with delay := true } }.pairFault 12 x.lk.shadowWindow := if_neg (by simp [h])

theorem Lane.delayBad_of_not (h : x.pairRuns = false) : x.delayBad = x := if_pos (by simp [h])

theorem Lane.pairCycle_of_not (h : x.pairRuns = false) : x.pairCycle m d c = x := if_pos (by simp [h])

/-- Where the pair does not run, supervisor cycles change nothing. -/
theorem Lane.compare_of_not (h : x.pairRuns = false) (cs : List PairCycle) : x.compare cs m d = x :=
  each_of_fixed (fun _ => Lane.pairCycle_of_not h) cs

/-- A cycle of the lane's pair, up to its comparators. -/
def Lane.pairRun (x : Lane) (c : PairCycle) : Lane :=
  let y := { x with lk := x.lk.cycle x.sys.halted x.pairTesting c }
  if x.lk.delayFails c = true then { y with lk := { y.lk with delay := true } }.pairFault 12 y.lk.shadowWindow else y

theorem Lockstep.cycle_failed (k : Lockstep) (halted quiet : Bool) (c : PairCycle) : (k.cycle halted quiet c).failed = k.failed := by
  have hfollowed : (k.followed quiet c).failed = k.failed := by
    obtain ⟨_, _, _, _, _, e, -⟩ := k.followed_eq quiet c
    rw [e]
  rw [Lockstep.cycle_eq, ← hfollowed]
  exact Lockstep.leading_failed ..

theorem Lane.comparators_of_none (hf : x.lk.failed = false) (hd : x.lk.due = none) :
    x.comparators m d c = if c.releaseInvalid = true then x.pairFault 2 x.lk.shadowWindow else x := by
  unfold Lane.comparators
  rw [if_neg (ne_true_of_eq_false hf), hd]

theorem Lane.comparators_of_due {w : PairWindow} {b : W64} (hf : x.lk.failed = false) (hd : x.lk.due = some (w, b)) :
    let v := { x with lk := { x.lk with closed := x.lk.closed.tail } }
    let a := finds m w.sigPrimary b
    let e := finds d w.sigPrimary b
    x.comparators m d c =
      if c.releaseInvalid = true then v.pairFault 2 w.num
      else if (a && e) = true then { v with lk := v.lk.release w.num }
      else if v.pairTesting = true then v
      else if a = e then v.pairFault 1 w.num
      else { v with lk := { v.lk with disagree := true } }.pairFault 2 w.num := by
  intro v a e
  unfold Lane.comparators
  rw [if_neg (ne_true_of_eq_false hf), hd]

theorem Lane.pairCycle_of_runs (h : x.pairRuns = true) : x.pairCycle m d c = (x.pairRun c).comparators m d c := by
  have hruns : ({ x with lk := x.lk.cycle x.sys.halted x.pairTesting c } : Lane).pairRuns = true := by
    rw [← h, Lane.pairRuns, Lane.pairRuns, Lockstep.cycle_failed]
    rfl
  unfold Lane.pairCycle Lane.pairRun
  rw [if_neg (by simp [h])]
  dsimp only
  rw [Lane.delayBad_of_runs hruns]

end

/-- Settles O46: a row's cycles one after the other; in a cycle the reports by what the comparators find, the pair by what leaves,
arrives and is issued. -/
theorem lockstepRows : Obligations.LockstepRows := by
  refine ⟨fun s l x hx => ?_, fun x m d c => ?_, fun x src w => rfl, fun k halted quiet c => ?_, fun k w b => Lockstep.due_iff w b,
    fun w m => w.sound_iff m⟩
  · have turn {c : Instr} {f : Lane → Lane} {y : Lane} (h : exec c s = .next (s.onLane l f)) (e : f x = y) : s.Turns c l y :=
      State.turns_onLane h (hx ▸ e)
    refine ⟨x.pairRuns_iff, fun cs m d => turn rfl rfl, fun b hb => turn (hb ▸ rfl) rfl,
      fun h => ⟨fun cs m d => turn rfl (Lane.compare_of_not h cs), turn rfl (Lane.delayBad_of_not h)⟩,
      fun h => turn rfl (Lane.delayBad_of_runs h)⟩
  · intro y z go
    refine ⟨fun h => Lane.pairCycle_of_not h, fun h => ?_⟩
    have hgo : go = z.comparators m d c := Lane.pairCycle_of_runs h
    refine ⟨fun hf => hgo.trans (if_pos hf), fun hf hd => hgo.trans (Lane.comparators_of_none hf hd), fun w b hf hd => ?_⟩
    intro v a e
    have hdue := hgo.trans (Lane.comparators_of_due hf hd)
    refine ⟨fun hi => hdue.trans (if_pos hi), fun hi => ?_⟩
    have hvalid := hdue.trans (if_neg (ne_true_of_eq_false hi))
    have hboth : (a && e) = true ↔ a = true ∧ e = true := Bool.and_eq_true_iff
    refine ⟨fun ha he => hvalid.trans (if_pos (hboth.mpr ⟨ha, he⟩)), fun hae ht => hvalid.trans ((if_neg ?_).trans (if_pos ht)),
      fun ha he ht => hvalid.trans ((if_neg ?_).trans ((if_neg (ne_true_of_eq_false ht)).trans (if_pos (ha.trans he.symm)))),
      fun hne ht => hvalid.trans ((if_neg ?_).trans ((if_neg (ne_true_of_eq_false ht)).trans (if_neg hne)))⟩
    · exact fun h => hae.elim (ne_true_of_eq_false · (hboth.mp h).1) (ne_true_of_eq_false · (hboth.mp h).2)
    · exact fun h => ne_true_of_eq_false ha (hboth.mp h).1
    · exact fun h => hne ((hboth.mp h).1.trans (hboth.mp h).2.symm)
  · intro i kept out o step y
    have hout (stall : Bool) (q : CoreOut) : out stall q = pairOut quiet stall q := (pairOut_eq ..).symm
    have ho : o = pairOut quiet k.stall c.primary := hout ..
    obtain ⟨sent, cl, n, sig, w, hfollowed, hnone, hsome⟩ := k.followed_eq quiet c
    have hy : y = k.cycle halted quiet c := rfl
    rw [Lockstep.cycle_eq, hfollowed] at hy
    clear_value y o
    have hshadow (v : DelayWord) (hv : k.stage2 = some v) : w = some (v.upset c.upset).input ∧
        sig = step k.doneShadow k.sigShadow (out (v.upset c.upset).input.stall c.shadow) c.damageShadow := by
      rw [hout]
      exact hsome v hv
    cases halted with
    | true =>
      subst hy
      exact ⟨rfl, rfl, rfl, rfl, hnone, hshadow, fun _ => ⟨rfl, rfl, rfl, rfl, rfl, rfl⟩, nofun, rfl⟩
    | false =>
      have hrun := (k.followed quiet c).leading_of_running quiet c
      rw [hfollowed] at hrun
      obtain ⟨f, b, n', d, cl', hlead, hreqNone, hreqSome, hopen, hlast⟩ := hrun
      rw [hlead] at hy
      subst hy ho
      refine ⟨rfl, rfl, rfl, rfl, hnone, hshadow, nofun, fun _ => ⟨rfl, rfl, hopen, fun hd => ?_, hreqNone, fun r hr => ⟨fun hk => ?_,
        (hreqSome r hr).2⟩⟩, rfl⟩
      · obtain ⟨hn, hd0, hcl⟩ := hlast hd
        exact ⟨hn, hd0, cl, hcl⟩
      · obtain ⟨hb, hf⟩ := (hreqSome r hr).1 hk
        exact ⟨hb, hf.trans (Lockstep.heldData_eq ..)⟩

end Sys2Proof.Machine
end

section
/-! What a lane sends, and a lost service connection (R407, R418 to R425, R435, R437, R449, R452). -/

namespace Sys2Proof.Machine

section
variable {x y : Lane} {g : GreenId} {slot : Nat} {e : SlotEntry}

theorem Lane.portsOn_iff (x : Lane) : x.portsOn = true ↔ x.awake = true ∧ x.keeperStopped = false := by simp [Lane.portsOn]

/-! ### A slot of the lane's own (R407, R425, R435, R437) -/

/-- The lane with a frame of a kind in a slot put out on channel `g`, where there is a payload. -/
def Lane.putOut (x y : Lane) (g : GreenId) (kind slot : Nat) : Option Bytes → Lane
  | none => y
  | some p => { y with net := { y.net with sent := [(g, x.frameOf g kind slot p)] } }

theorem Lane.putOut_ite (x y : Lane) (g : GreenId) (kind slot : Nat) (c : Prop) [Decidable c] (p : Bytes) :
    x.putOut y g kind slot (if c then some p else none) =
      if c then { y with net := { y.net with sent := [(g, x.frameOf g kind slot p)] } } else y := by
  rw [apply_ite (x.putOut y g kind slot)]
  rfl

/-- The lane may send in the present occurrence of a slot of its own. -/
def Lane.MaySend (x : Lane) (e : SlotEntry) : Prop :=
  (x.awake = true ∧ x.keeperStopped = false) ∧ e.owner = 16 + x.idx.val ∧ e.occurs x.net.cycle = true

theorem Lane.slotSend_of_may (hs : x.slotOf g slot = some e) (hm : x.MaySend e) :
    x.slotSend g slot = x.putOut (x.slotPayload g slot e).1 g e.kind slot (x.slotPayload g slot e).2 := by
  obtain ⟨hsends, howner, hocc⟩ := hm
  unfold Lane.slotSend
  rw [hs]
  dsimp only
  rw [if_neg (by simp [x.portsOn_iff.mpr hsends, howner, hocc])]
  split
  next h => rw [h]; rfl
  next h => rw [h]; rfl

theorem Lane.slotSend_of_other (hs : x.slotOf g slot = none) : x.slotSend g slot = x := by
  unfold Lane.slotSend
  rw [hs]

theorem Lane.slotSend_of_not (hs : x.slotOf g slot = some e) (hm : ¬x.MaySend e) : x.slotSend g slot = x := by
  unfold Lane.slotSend
  rw [hs]
  refine if_pos ?_
  by_contra h
  simp only [Bool.or_eq_true, Bool.not_eq_true', decide_eq_true_eq, not_or, Bool.not_eq_false, Decidable.not_not, ne_eq] at h
  obtain ⟨⟨hp, ho⟩, hocc⟩ := h
  exact hm ⟨x.portsOn_iff.mp hp, ho, hocc⟩

theorem Lane.slotPayload_of_coldstart (h : x.net.integ = .coldstart) : x.slotPayload g slot e =
    (x, if e.kind = 3 ∧ coldstartEn x.laneRec = true then some (x.timePayload g e false) else none) := by
  simp only [Lane.slotPayload, h, Bool.and_eq_true, decide_eq_true_eq]

theorem Lane.slotPayload_of_integrating (h : x.net.integ = .integrating) : x.slotPayload g slot e =
    (x, if e.kind = 2 ∨ (e.kind = 1 ∧ ¬x.sys.lstate = .safe) then some [] else none) := by
  simp only [Lane.slotPayload, h, Bool.and_eq_true, Bool.or_eq_true, Bool.not_eq_true', decide_eq_true_eq, decide_eq_false_iff_not]

theorem Lane.slotPayload_of_quiet (h : x.net.integ = .listen ∨ x.net.integ = .passive) : x.slotPayload g slot e = (x, none) := by
  rcases h with h | h <;> simp only [Lane.slotPayload, h]

section
variable (ha : x.net.integ = .active)
include ha

theorem Lane.slotPayload_of_data (hk : e.kind = 1) :
    x.slotPayload g slot e = (x, if ¬x.sys.lstate = .safe then some (x.net.packedFor slot) else none) := by
  simp [Lane.slotPayload, ha, hk, ite_not]

theorem Lane.slotPayload_of_service (hk : e.kind = 2) :
    x.slotPayload g slot e = ((x.servicePayload slot).1, some (x.servicePayload slot).2) := by
  simp [Lane.slotPayload, ha, hk]

theorem Lane.slotPayload_of_cold (hk : e.kind = 3) :
    x.slotPayload g slot e = (x, if coldstartEn x.laneRec = true then some (x.timePayload g e false) else none) := by
  cases hc : coldstartEn x.laneRec <;> simp [Lane.slotPayload, ha, hk, hc]

theorem Lane.slotPayload_of_sync (hk : e.kind = 4) :
    x.slotPayload g slot e = (x, if syncEn x.laneRec = true then some (x.timePayload g e x.net.master) else none) := by
  cases hc : syncEn x.laneRec <;> simp [Lane.slotPayload, ha, hk, hc]

theorem Lane.slotPayload_of_no_kind (hk : e.kind ∉ [1, 2, 3, 4]) : x.slotPayload g slot e = (x, none) := by
  simp only [List.mem_cons, List.not_mem_nil, or_false, not_or] at hk
  obtain ⟨h1, h2, h3, h4⟩ := hk
  simp [Lane.slotPayload, ha, h1, h2, h3, h4]

end

/-! ### A SERVICE slot (R418) -/

theorem Lane.svcReady_of_none (h : ∀ k : Fin 4, (x.mb (fin (4 + k.val))).st ≠ .done) : x.svcReady = none :=
  List.find?_eq_none.mpr fun k _ => by simpa using h k

theorem Lane.svcReady_of_first {k : Fin 4} (h : (x.mb (fin (4 + k.val))).st = .done)
    (hfirst : ∀ j : Fin 4, j < k → (x.mb (fin (4 + j.val))).st ≠ .done) : x.svcReady = some k :=
  find?_idxs_eq_some (decide_eq_true h) fun j hj => decide_eq_false (hfirst j hj)

theorem Lane.servicePayload_of_sent {o : Nat × Nat × Bytes}
    (h : x.net.svcOut.find? (fun y => decide (y.1 = x.net.cycle) && decide (y.2.1 = slot)) = some o) :
    x.servicePayload slot = (x, o.2.2) := by
  unfold Lane.servicePayload
  split
  next h' =>
    cases h.symm.trans h'
    rfl
  next h' => cases h.symm.trans h'

/-- Where nothing has gone out in this occurrence, the response that is ready does. -/
theorem Lane.servicePayload_of_unsent
    (h : x.net.svcOut.find? (fun y => decide (y.1 = x.net.cycle) && decide (y.2.1 = slot)) = none) :
    (x.svcReady = none → x.servicePayload slot = (x, [])) ∧
    ∀ k : Fin 4, x.svcReady = some k →
      let b := (x.mb (fin (4 + k.val))).outBuf
      let p := leBytes 2 (serviceConn x.laneRec k.val) ++ [1, 0] ++ memReadN b 0 (16 + ofLe (memReadN b 6 2))
      let z := x.onMb (fin (4 + k.val)) fun b => { b with st := .idle }
      x.servicePayload slot = ({ z with net := { z.net with svcOut := (x.net.cycle, slot, p) :: z.net.svcOut } }, p) := by
  unfold Lane.servicePayload
  split
  next h' => cases h.symm.trans h'
  next => exact ⟨fun hn => by rw [hn], fun k hk => by rw [hk]; rfl⟩

/-! ### Containers and downloads (R421, R449, R452, R471) -/

/-- The lane packs containers for a slot. -/
def Lane.Packs (x : Lane) (slot : Nat) : Prop :=
  (x.awake = true ∧ x.keeperStopped = false) ∧ x.net.integ = .active ∧ ¬x.sys.lstate = .safe ∧ x.ownsData slot = true

theorem Lane.packs_iff : ¬(!x.portsOn || decide (x.net.integ ≠ .active) || decide (x.sys.lstate = .safe) || !x.ownsData slot) = true ↔
    x.Packs slot := by
  unfold Lane.Packs
  rw [← x.portsOn_iff]
  simp [and_assoc]

theorem Lane.pack_of_packs (h : x.Packs slot) : x.pack slot =
    let z := x.packSlot slot
    { z.1 with net := { z.1.net with packed := (slot, z.2) :: z.1.net.packed.filter fun y => y.1 ≠ slot } } :=
  if_neg (Lane.packs_iff.mpr h)

theorem Lane.pack_of_not (h : ¬x.Packs slot) : x.pack slot = x := if_pos (by_contra fun hn => h (Lane.packs_iff.mp hn))

theorem countDown_eq (n : Option Nat) : countDown n = match n with
    | some k => if k ≤ 1 then none else some (k - 1)
    | none => none := by
  cases n <;> rfl

theorem ite_isSome {α : Type} (o : Option Nat) (a b : α) : (if o.isSome = true then a else b) = if o = none then b else a := by
  cases o <;> rfl

theorem Lane.downloadChunks_eq (x : Lane) (g : GreenId) : x.downloadChunks g =
    (if (vget x.net.chan g).download = none then [] else x.scheduleChunks g) ++
      if (vget x.net.chan g).cascade = none then [] else x.cascadeChunks := by
  rw [← ite_isSome, ← ite_isSome]
  rfl

/-- Channel `g` still has a download to send, and the lane sends. -/
def Lane.Downloads (x : Lane) (g : GreenId) : Prop :=
  ((vget x.net.chan g).download ≠ none ∨ (vget x.net.chan g).cascade ≠ none) ∧ (x.awake = true ∧ x.keeperStopped = false) ∧
    ¬x.sys.lstate = .safe

theorem Lane.downloads_iff : ¬(((vget x.net.chan g).download.isNone && (vget x.net.chan g).cascade.isNone) || !x.portsOn ||
    decide (x.sys.lstate = .safe)) = true ↔ x.Downloads g := by
  unfold Lane.Downloads
  rw [← x.portsOn_iff]
  cases (vget x.net.chan g).download <;> cases (vget x.net.chan g).cascade <;> simp

theorem Lane.downloadSend_of_downloads (h : x.Downloads g) : x.downloadSend g =
    ({ x with net := { x.net with sent := (x.downloadChunks g).map fun q =>
      (g, { x.frameOf g 5 0 (chunkPayload q) with sched := some q }) } }).onChan g
        fun q => { q with download := countDown q.download, cascade := countDown q.cascade } := if_neg (Lane.downloads_iff.mpr h)

theorem Lane.downloadSend_of_not (h : ¬x.Downloads g) : x.downloadSend g = x :=
  if_pos (by_contra fun hn => h (Lane.downloads_iff.mp hn))

/-! ### Service connections (R48, R419) -/

/-- The lane with a service connection no longer seen. -/
def Lane.svcGone (x : Lane) (k : Fin 4) : Lane := { x with net := { x.net with svcSeen := bitPut x.net.svcSeen k.val false } }

section
variable {k : Fin 4}

theorem Lane.serviceLost_of_unseen (h : x.awake = false ∨ bit x.net.svcSeen k.val = false) : x.serviceLost k = x :=
  if_pos (by simpa using h)

variable (ha : x.awake = true) (hs : bit x.net.svcSeen k.val = true)
include ha hs

theorem Lane.serviceLost_of_running (h : (x.mb (fin (4 + k.val))).st = .posted ∨ (x.mb (fin (4 + k.val))).st = .busy) :
    x.serviceLost k = (x.svcGone k).onMb (fin (4 + k.val)) fun b => { b with discard := true } := by
  unfold Lane.serviceLost
  rw [if_neg (by simp [ha, hs])]
  dsimp only
  split
  next => rfl
  next => rfl
  next hp hb => exact (h.elim hp hb).elim

theorem Lane.serviceLost_of_quiet (h : (x.mb (fin (4 + k.val))).st = .idle ∨ (x.mb (fin (4 + k.val))).st = .done) :
    x.serviceLost k = (x.svcGone k).bye (fin (4 + k.val)) := by
  unfold Lane.serviceLost
  rw [if_neg (by simp [ha, hs])]
  dsimp only
  split
  next hp => rcases h with h | h <;> cases h.symm.trans hp
  next hb => rcases h with h | h <;> cases h.symm.trans hb
  next => rfl

end

end

/-- Settles O56: a slot by the integration state and its kind, a SERVICE slot by what is ready, the others by whether the lane sends. -/
theorem laneSendRows : Obligations.LaneSendRows := by
  intro s l x hx sends safe
  have turn {c : Instr} {f : Lane → Lane} {y : Lane} (h : exec c s = .next (s.onLane l f)) (e : f x = y) : s.Turns c l y :=
    State.turns_onLane h (hx ▸ e)
  refine ⟨fun g slot => ?_, fun slot => ?_, fun slot => ?_, fun g => ?_, fun k => ?_⟩
  · intro c out
    refine ⟨fun e hs hsends ho hocc => ?_, fun h => turn rfl ?_⟩
    · have hsend := Lane.slotSend_of_may hs ⟨hsends, ho, hocc⟩
      have sendTurn {y z : Lane} {o : Option Bytes} (hp : x.slotPayload g slot.val e = (y, o))
          (hz : x.putOut y g e.kind slot.val o = z) : s.Turns c l z := by
        rw [hp] at hsend
        exact turn rfl (hsend.trans hz)
      refine ⟨fun hi => sendTurn (Lane.slotPayload_of_coldstart hi) ?_, fun hi => sendTurn (Lane.slotPayload_of_integrating hi) ?_,
        fun ha => ⟨fun hk => sendTurn (Lane.slotPayload_of_data ha hk) ?_, fun hk => sendTurn (Lane.slotPayload_of_service ha hk) ?_,
          fun hk => sendTurn (Lane.slotPayload_of_sync ha hk) ?_, fun hk => sendTurn (Lane.slotPayload_of_cold ha hk) ?_,
          fun hk => sendTurn (Lane.slotPayload_of_no_kind ha hk) rfl⟩, fun hi => sendTurn (Lane.slotPayload_of_quiet hi) rfl⟩
      · rw [Lane.putOut_ite]
        by_cases hc : e.kind = 3 ∧ coldstartEn x.laneRec = true
        · rw [if_pos hc, if_pos hc, hc.1]
        · rw [if_neg hc, if_neg hc]
      · exact Lane.putOut_ite ..
      · rw [Lane.putOut_ite, ite_not, hk]
      · rw [hk]
        rfl
      · rw [Lane.putOut_ite, hk]
      · rw [Lane.putOut_ite, hk]
    · rcases h with hn | hsends | ⟨e, hs, hother⟩
      · exact Lane.slotSend_of_other hn
      · cases hs : x.slotOf g slot.val with
        | none => exact Lane.slotSend_of_other hs
        | some e => exact Lane.slotSend_of_not hs fun hm => hsends hm.1
      · exact Lane.slotSend_of_not hs fun hm => hother.elim (fun h => h hm.2.1) (fun h => ne_true_of_eq_false h hm.2.2)
  · intro found
    exact ⟨fun y h => Lane.servicePayload_of_sent h, fun h hn => (Lane.servicePayload_of_unsent h).1 (Lane.svcReady_of_none hn),
      fun h k hk hfirst => (Lane.servicePayload_of_unsent h).2 k (Lane.svcReady_of_first hk hfirst)⟩
  · exact ⟨fun h => turn rfl (Lane.pack_of_packs h), fun h => turn rfl (Lane.pack_of_not h)⟩
  · intro c due fewer parts sched casc chunks
    refine ⟨fun hd hs hsafe => turn rfl ((Lane.downloadSend_of_downloads ⟨hd, hs, hsafe⟩).trans ?_), fun h =>
      turn rfl (Lane.downloadSend_of_not ?_)⟩
    · have hchunks : x.downloadChunks g = chunks := Lane.downloadChunks_eq ..
      have hfewer : countDown = fewer := funext countDown_eq
      rw [hchunks, hfewer]
      rfl
    · rintro ⟨hd, hs, hsafe⟩
      exact h.elim (· hd) (Or.elim · (· hs) hsafe)
  · intro m z
    exact ⟨fun ha hs => ⟨fun h => turn rfl (Lane.serviceLost_of_running ha hs h), fun h => turn rfl (Lane.serviceLost_of_quiet ha hs h)⟩,
      fun h => turn rfl (Lane.serviceLost_of_unseen h)⟩

end Sys2Proof.Machine
end
